-- ==== Sys2Proof/Word.lean ====
section
/-! DEFINITION. Word.lean: the word types of the LF3412. What the data sheet treats as bits (a byte of a
notice, an address strap, a sensor code, a transducer reading) is a bit vector; what it counts (angles,
stitch numbers, times, speeds, steps) is a `Nat` or an `Int`, since the sheet computes with those exactly
("All computations are in integers", 00_scope, Arithmetic). -/

namespace Sys2Proof

/-- One byte of a notice (R171). -/
abbrev Byte := BitVec 8

/-- The payload of a notice: the bytes between its length field and its CRC (R41). -/
abbrev Payload := List Byte

/-- A five-bit station address as it stands on the address straps or in an arbitration field (R21, R41). -/
abbrev Addr := BitVec 5

/-- One of the two pantograph axes (chapter 6). -/
inductive Axis where
  | x
  | y
  deriving DecidableEq, Repr

end Sys2Proof
end

