-- ==== Sys2Proof/Config.lean ====
section
/-! DEFINITION. Config.lean: the values the data sheet fixes in the part, under the sheet's names. There is no
free value here: the sheet leaves no result of a command open (INVENTORY.md, "What the manual leaves open"). -/

namespace Sys2Proof.Config

/-- The gate guard interval G, "fixed in the part" (00_scope, Angles; R8). -/
def guardG : Nat := 16

/-- Shaft counts of one revolution (00_scope, Key Parameters). -/
def countsPerRev : Nat := 1024

/-- The run at which an index is found missing (R3). -/
def missingIndexRun : Nat := 1027

/-- The largest revolution period the Shaft Tracker keeps (R4). -/
def maxPeriod : Nat := 16777215

/-- The half width of the rest zone around angle 0 (R5). -/
def restZone : Nat := 32

/-- Page slots of the Page Store (R62). -/
def pageSlots : Nat := 512

/-- Stitch records of a full page (R61). -/
def pageRecords : Nat := 12

/-- Records the fault list can hold (R164). -/
def maxFaults : Nat := 8

/-- The largest stitch count of a design (4.1). -/
def maxStitches : Nat := 786432

/-- Colour slots of a design, and entries of a needle map (R128). -/
def colourSlots : Nat := 64

/-- Needles of a head. -/
def needles : Nat := 12

/-- The largest payload a receiver takes (R41). -/
def maxPayload : Nat := 56

/-- Stitches the Speed Governor looks ahead (R117). -/
def lookAhead : Nat := 16

/-- Steps a home axis makes beyond the field before it fails (R103). -/
def homeOvertravel : Nat := 400

/-- The join window in milliseconds (R25). -/
def joinWindowMs : Nat := 5000

/-- The Status interval in milliseconds (R48). -/
def statusIntervalMs : Nat := 40

/-- The peer loss time in milliseconds (R53). -/
def peerLossMs : Nat := 200

/-- The creep limit in milliseconds (R124). -/
def creepLimitMs : Nat := 3000

/-- Steps of a homing back-off (R103). -/
def backoffSteps : Nat := 40

end Sys2Proof.Config
end

