-- ==== Sys2Proof/Syntax.lean ====
section
/-! DEFINITION. Syntax.lean: the commands of the block, one constructor per row of spec/opcode_table.json, in the
table's order. A command is an event that reaches the part: a pin edge, a timer running out, a notice received
whole, a hoop move completing (00_scope, "Time and order"; 95_what_each_step_holds).

A notice carries its source address and its whole payload (R41), the target byte first (12.3), so that the
checks of R43 and R44 and the byte layouts of 12.3 and 12.4 are the machine's to make. -/

namespace Sys2Proof

/-- The commands of spec/opcode_table.json. -/
inductive Instr where
  /-- RESET_N falls or power fails (R22). -/
  | resetNLow
  /-- RESET_N rises or the supplies become valid: `addr`, `head` and `frame` are the straps sampled (R21, R22). -/
  | hardReset (addr : Addr) (head frame : Bool)
  /-- A forward encoder count (R1); `tension` is the TENSION input as converted at this count (R139). -/
  | encoderForwardCount (tension : BitVec 10)
  /-- A reverse encoder count (R1); `tension` as above. -/
  | encoderReverseCount (tension : BitVec 10)
  /-- An index pulse (R2). -/
  | indexPulse
  /-- The still timer reaches T_still (R5). -/
  | restReached
  /-- The gate line as this station sees it changes to high or low (R10). -/
  | seenLevelChange (high : Bool)
  /-- The RUN stall timer reaches the arm timeout (R19). -/
  | stallTimeout
  /-- The arm timer reaches the arm timeout (R33). -/
  | armTimeout
  /-- The join timer reaches 5000 ms (R25). -/
  | joinTimeout
  /-- A notice that the receiver discards (R41): the bits of the line from its start bit through its end field. -/
  | noticeDiscarded (bits : List Bool)
  /-- A Stop notice (R38). -/
  | stop (src : Addr) (payload : Payload)
  /-- A Station Reset notice (R23). -/
  | stationReset (src : Addr) (payload : Payload)
  /-- A Start notice (R31). -/
  | start (src : Addr) (payload : Payload)
  /-- A Back notice (R82). -/
  | back (src : Addr) (payload : Payload)
  /-- A Forward notice (R83). -/
  | forward (src : Addr) (payload : Payload)
  /-- A Head Select notice (R160). -/
  | headSelect (src : Addr) (payload : Payload)
  /-- A Fault Clear notice (R166). -/
  | faultClear (src : Addr) (payload : Payload)
  /-- A Pantograph Go HOME (R103); `xClosed` and `yClosed` are the home switches as they stand at its receipt. -/
  | pantographGoHome (src : Addr) (payload : Payload) (xClosed yClosed : Bool)
  /-- A Pantograph Go PARK (R105). -/
  | pantographGoPark (src : Addr) (payload : Payload)
  /-- A Pantograph Go RETURN (R105). -/
  | pantographGoReturn (src : Addr) (payload : Payload)
  /-- A Pantograph Go ABSOLUTE (R105). -/
  | pantographGoAbsolute (src : Addr) (payload : Payload)
  /-- A Pantograph Go SET_ORIGIN (R106). -/
  | pantographGoSetOrigin (src : Addr) (payload : Payload)
  /-- A Pantograph Go TRACE (R107). -/
  | pantographGoTrace (src : Addr) (payload : Payload)
  /-- A Needle Map notice (R128). -/
  | needleMap (src : Addr) (payload : Payload)
  /-- A Configure ROSTER (R27). -/
  | configureRoster (src : Addr) (payload : Payload)
  /-- A Configure TIMING (R9). -/
  | configureTiming (src : Addr) (payload : Payload)
  /-- A Configure MOTION (R28). -/
  | configureMotion (src : Addr) (payload : Payload)
  /-- A Configure THREAD (R29). -/
  | configureThread (src : Addr) (payload : Payload)
  /-- A Design Open notice (R57). -/
  | designOpen (src : Addr) (payload : Payload)
  /-- A Design Page notice (R68). -/
  | designPage (src : Addr) (payload : Payload)
  /-- A Status notice of another transmitter, received whole (R43). -/
  | statusReceived (src : Addr) (payload : Payload)
  /-- The age of the Peer Table entry of `addr` exceeds 200 ms (R53). -/
  | peerLost (addr : Addr)
  /-- The Status interval timer reaches 40 ms (R48). -/
  | statusInterval
  /-- The first bit time of an idle line, at which a pending Status is begun (R40, R47). -/
  | statusAttempt
  /-- The transmitter reads back a bit that differs from the one it sent (R42). -/
  | lostArbitration
  /-- A Status of this station is sent through its end field (R47). -/
  | statusSent
  /-- t_req has passed since the hoop move in progress started (R97). -/
  | moveComplete
  /-- A home switch closes (R103). -/
  | homeSwitchClose (axis : Axis)
  /-- An axis has stepped its 40 steps of back-off (R103). -/
  | homeBackoffDone (axis : Axis)
  /-- The step count of a SEEK reaches its limit (R103). -/
  | homeSeekLimit (axis : Axis)
  /-- DRIVE_READY falls (R120). -/
  | driveReadyFall
  /-- DRIVE_READY rises (R120). -/
  | driveReadyRise
  /-- The creep timer reaches 3000 ms (R124). -/
  | creepTimeout
  /-- CASE_POS or CASE_LATCH changes: `code` and `latch` are the new levels (R129, R170). -/
  | caseSensorChange (code : BitVec 4) (latch : Bool)
  /-- The step timer reaches the step timeout (R132). -/
  | stepTimeout
  /-- The settle timer reaches the settle time (R135). -/
  | settleTimerExpiry
  /-- A thread-motion pulse (R139). -/
  | threadPulse
  deriving DecidableEq, Repr

end Sys2Proof
end

