-- ==== Sys2Proof/Machine/Types.lean ====
section
/-! DEFINITION. Machine/Types.lean: the names and the records that the state of the part is made of: station states,
fault kinds, reasons, configuration sections, the design header and its pages, and the records each chapter
opens with. Plain data throughout. -/

namespace Sys2Proof.Machine

/-! ## Names -/

/-- The station states (2.1). -/
inductive StationState where
  | joining | ready | armed | run | halting | halted | done
  deriving DecidableEq, Repr

/-- What holds a station in JOINING until a hard reset (2.1; R21, R24). -/
inductive Lock where
  | none | strap | addressClash
  deriving DecidableEq, Repr

/-- The state an ARMED station returns to (2.1, "former state"; R32). -/
inductive Former where
  | none | ready | halted
  deriving DecidableEq, Repr

/-- The twenty fault kinds (R165), in the order of their codes (12.5). -/
inductive FaultKind where
  | strap | joinTimeout | addressClash | peerLost | indexMismatch | dwellLimit | veto | encoder
  | shaftPosition | drive | moveLate | field | homeFail | caseJam | caseLost | noNeedle | needleOut
  | threadBreak | tensionLow | tensionHigh
  deriving DecidableEq, Repr

/-- The halt reasons: a fault kind, or one of the five others (11.3). -/
inductive HaltReason where
  | fault (kind : FaultKind)
  | stop | colourStop | endRecord | peerHalt | noActiveHead
  deriving DecidableEq, Repr

/-- The hold reasons (R11), in the order of their codes (12.5). -/
inductive HoldReason where
  | none | underrun | lookahead | field | needleMoving | needleOut | noNeedle | caseFault | faulted
  | walking | moveIncomplete | halting | offTop
  deriving DecidableEq, Repr

/-- The reasons for which a console notice is refused (R46), in the order of their codes (12.5). -/
inductive RefusalReason where
  | state | range | format | order | roster | busy | noDesign | faulted | peerMissing | indexMismatch
  | notPlaced | field | drive | noActiveHead | notHomed
  deriving DecidableEq, Repr

/-- The kinds of notice (3.2). -/
inductive NoticeKind where
  | stop | stationReset | start | back | forward | headSelect | faultClear | pantographGo | needleMap
  | configure | designOpen | status | designPage
  deriving DecidableEq, Repr

/-- A head's standing in the design (10.3). -/
inductive Activity where
  | active | deselected | withdrawn
  deriving DecidableEq, Repr

/-- The tension state (9.1). -/
inductive TensionState where
  | clear | caution
  deriving DecidableEq, Repr

/-- The kinds of stitch record (4.2). -/
inductive StitchKind where
  | sew | jump | trim | colorStop | endRecord
  deriving DecidableEq, Repr

/-- The nine named angles (R7). -/
inductive AngleName where
  | m | h | aArm | tuOpen | kOn | tuClose | kOff | d | wOpen
  deriving DecidableEq, Repr

/-- The guards of R13, by the event that closes them: the release guard and the pull-low guard by D, the veto guard by H. -/
inductive Guard where
  | d | h
  deriving DecidableEq, Repr

/-- What a station drives on the gate, or wants to (1.3). -/
inductive Pull where
  | low | released
  deriving DecidableEq, Repr

/-- The direction of a walk (5.1). -/
inductive WalkDir where
  | back | forward
  deriving DecidableEq, Repr

/-- The outcome of the last walk (R89). -/
inductive WalkOutcome where
  | none | full | clamped | walkCut
  deriving DecidableEq, Repr

/-- What the Speed Governor asks of the drive (7.1). -/
inductive GovMode where
  | stopped | creep | running
  deriving DecidableEq, Repr

/-- The variants of a Pantograph Go (6.5). -/
inductive GoVariant where
  | home | park | goReturn | absolute | setOrigin | trace
  deriving DecidableEq, Repr

/-- The four Configure sections (2.1). -/
inductive SectionName where
  | roster | timing | motion | thread
  deriving DecidableEq, Repr

/-- A timer: stopped, or running since the given reading of the part's microsecond clock. What the data sheet
calls the timer's value is the time passed since that reading (log entry 3). -/
abbrev Timer := Option Nat

/-! ## Configuration sections (chapters 1 and 2) -/

/-- One entry of a ROSTER (R27). -/
structure RosterEntry where
  addr  : Nat
  head  : Bool
  frame : Bool
  deriving DecidableEq, Repr

/-- A TIMING section (R8): angles in sc, `tStill` in ms, `armTimeout` in s. -/
structure TimingSection where
  m          : Nat
  h          : Nat
  aArm       : Nat
  tuOpen     : Nat
  tuClose    : Nat
  kOn        : Nat
  kOff       : Nat
  d          : Nat
  wOpen      : Nat
  tStill     : Nat
  dwellLimit : Nat
  armTimeout : Nat
  deriving DecidableEq, Repr

/-- A MOTION section (R28): A, V, t_settle, X_max, Y_max, park, N_top, N_halt, N_trim, N_caution, U, W, retention. -/
structure MotionSection where
  accel     : Nat
  topSpeed  : Nat
  settle    : Nat
  xMax      : Nat
  yMax      : Nat
  parkX     : Nat
  parkY     : Nat
  nTop      : Nat
  nHalt     : Nat
  nTrim     : Nat
  nCaution  : Nat
  rampUp    : Nat
  rampDown  : Nat
  retention : Nat
  deriving DecidableEq, Repr

/-- A THREAD section (R29): B, C, the tension limits, the policy (`withdraw` for WITHDRAW), times in ms, the pause. -/
structure ThreadSection where
  dryLimit    : Nat
  suppression : Nat
  tLoF        : Nat
  tLoC        : Nat
  tHiC        : Nat
  tHiF        : Nat
  withdraw    : Bool
  stepTimeout : Nat
  settleTime  : Nat
  pause       : Bool
  deriving DecidableEq, Repr

/-- The default TIMING values (1.2, R8). -/
def TimingSection.default : TimingSection :=
  { m := 224, h := 256, aArm := 320, tuOpen := 400, tuClose := 600, kOn := 520, kOff := 620, d := 640,
    wOpen := 672, tStill := 30, dwellLimit := 3, armTimeout := 15 }

/-- The default MOTION values (R28). -/
def MotionSection.default : MotionSection :=
  { accel := 800, topSpeed := 40, settle := 2000, xMax := 24000, yMax := 16000, parkX := 0, parkY := 0,
    nTop := 1000, nHalt := 60, nTrim := 400, nCaution := 600, rampUp := 40, rampDown := 80, retention := 16 }

/-- The default THREAD values (R29). -/
def ThreadSection.default : ThreadSection :=
  { dryLimit := 3, suppression := 2, tLoF := 120, tLoC := 200, tHiC := 700, tHiF := 820, withdraw := false,
    stepTimeout := 250, settleTime := 50, pause := false }

/-! ## Faults (chapter 11) -/

/-- A fault record (11.1). -/
structure FaultRecord where
  kind   : FaultKind
  stitch : Nat
  needle : Option Nat
  value  : Option Nat
  deriving DecidableEq, Repr

/-! ## The design (chapter 4) -/

/-- A design header (4.1). -/
structure Header where
  ident       : Nat
  stitches    : Nat
  pages       : Nat
  colourStops : Nat
  xmin        : Int
  xmax        : Int
  ymin        : Int
  ymax        : Int
  firstSlot   : Nat
  exchange    : Bool
  mirrorX     : Bool
  mirrorY     : Bool
  scale       : Nat
  deriving DecidableEq, Repr

/-- A stitch record held in a page slot (R60). -/
structure StitchRecord where
  kind : StitchKind
  dx   : Int
  dy   : Int
  aux  : Nat
  deriving DecidableEq, Repr

/-- A page slot in use (4.3): which of the 512 slots it is, its page number and its records. -/
structure Page where
  slot    : Nat
  number  : Nat
  records : List StitchRecord
  deriving DecidableEq, Repr

/-! ## The sequencer's walk (5.1) -/

/-- A walk in progress. `stitch`, `px` and `py` are the walk stitch and its design position (frame station);
`slot` and `mark` are the colour slot and colour stop mark that stood at the start. -/
structure Walk where
  dir        : WalkDir
  start      : Nat
  target     : Nat
  stitch     : Nat
  px         : Int
  py         : Int
  slot       : Nat
  mark       : Nat
  cutPending : Bool
  deriving DecidableEq, Repr

/-- The walk report (R89). -/
structure WalkReport where
  dir       : WalkDir
  requested : Nat
  actual    : Nat
  outcome   : WalkOutcome
  deriving DecidableEq, Repr

/-- The report every reset and Design Open sets (R89, R91). -/
def WalkReport.clear : WalkReport := { dir := .back, requested := 0, actual := 0, outcome := .none }

/-! ## The pantograph's records (6.1) -/

/-- The kind of a move record. -/
inductive MoveKind where
  | stitch | walk | go
  deriving DecidableEq, Repr

/-- A move in progress: where it started, its target, its required time in microseconds and the clock at its start.
`atWOpen`: it was started at the last W_open event, so the next M event checks it (R99). -/
structure Move where
  kind    : MoveKind
  fromX   : Int
  fromY   : Int
  toX     : Int
  toY     : Int
  treq    : Nat
  started : Nat
  atWOpen : Bool
  deriving DecidableEq, Repr

/-- A target with the required time of the move to it (pending stitch move, waiting rest move). -/
structure MoveTarget where
  x    : Int
  y    : Int
  treq : Nat
  deriving DecidableEq, Repr

/-- The homing phase of one axis (R103); SEEK keeps the clock at its start, from which its step count follows. -/
inductive HomeAxis where
  | seek (started : Nat)
  | backoff
  | done
  | failed
  deriving DecidableEq, Repr

/-- A Pantograph Go in progress (6.1): the homing axes of a HOME, the remaining legs of a TRACE. -/
inductive Go where
  | home (xAxis yAxis : HomeAxis)
  | park
  | absolute
  | goReturn
  | trace (legs : List (Int × Int))
  deriving DecidableEq, Repr

/-- What the completion of the move in progress does to in-place: as its kind says (R101), judged against the
origin after a Design Open (R109), or nothing after a Station Reset or an address clash (R109, R110). -/
inductive InPlaceRule where
  | normal | judge | leave
  deriving DecidableEq, Repr

/-! ## The governor's re-positioning (7.7) -/

/-- Where a re-positioning sequence stands (R122 to R124). -/
inductive Reposition where
  | creeping | awaitingRest | awaitingDrive
  deriving DecidableEq, Repr

/-! ## The needle case's step (8.1) -/

/-- A step in progress; `up` is its direction, `timer` the step timer, stopped while a retry waits (R132). -/
structure CaseStep where
  fromNeedle : Nat
  toNeedle   : Nat
  up         : Bool
  timer      : Timer
  deriving DecidableEq, Repr

/-- Why the case is stopped (8.1). -/
inductive CaseStopped where
  | none | jam | lost
  deriving DecidableEq, Repr

/-! ## The thread monitor's penetration (9.1) -/

/-- A penetration whose verdict has not been taken. -/
structure Penetration where
  stitch : Nat
  needle : Nat
  trim   : Bool
  pulses : Nat
  peak   : Nat
  window : Bool
  deriving DecidableEq, Repr

/-! ## Head stitch control's decision (10.1) -/

/-- A decision record; `lead` is its source: LEAD, or else COMMIT. -/
structure Decision where
  stitch    : Nat
  penetrate : Bool
  trim      : Bool
  lead      : Bool
  deriving DecidableEq, Repr

/-! ## Status (R49) -/

/-- The head items of a Status. `service` is the service mask, bit n - 1 for needle n (R172). -/
structure StatusHead where
  activity : Activity
  tension  : TensionState
  mark     : Nat
  current  : Nat
  wanted   : Nat
  service  : Nat
  filter   : Nat
  ceiling  : Nat
  deriving DecidableEq, Repr

/-- The frame items of a Status. -/
structure StatusFrame where
  homed   : Bool
  inPlace : Bool
  demand  : Nat
  deriving DecidableEq, Repr

/-- The design items of a Status. -/
structure StatusDesign where
  ident       : Nat
  stitches    : Nat
  colourStops : Nat
  deriving DecidableEq, Repr

/-- The items of a Status (R49), the role flags being the presence of `head` and `frame`. `sections` is the set
of sections held, with the bits of 12.4. -/
structure StatusItems where
  state      : StationState
  lock       : Lock
  ready      : Bool
  walking    : Bool
  sections   : Nat
  faultCount : Nat
  overflow   : Bool
  gap        : Bool
  hold       : HoldReason
  dwellCount : Nat
  stitch     : Nat
  atRest     : Bool
  onTop      : Bool
  report     : WalkReport
  freePages  : Nat
  nextWanted : Nat
  head       : Option StatusHead
  frame      : Option StatusFrame
  halt       : Option HaltReason
  design     : Option StatusDesign
  oldest     : Option FaultRecord
  refusal    : Option (NoticeKind × RefusalReason)
  deriving DecidableEq, Repr

end Sys2Proof.Machine
end

