-- ==== Sys2Proof/Machine/Arith.lean ====
section
/-! DEFINITION. Machine/Arith.lean: the arithmetic of 00_scope, "Arithmetic": clamping, floor and ceiling of a quotient, the
integer square root, and the signed readings of bytes. -/

namespace Sys2Proof.Machine

/-- A value clamped into `lo..hi`: below becomes `lo`, above becomes `hi`. -/
def clamp (lo hi n : Nat) : Nat := if n < lo then lo else if hi < n then hi else n

/-- The smallest integer not below `n / d`. -/
def ceilDiv (n d : Nat) : Nat := (n + d - 1) / d

/-- One digit after another, from bit `k - 1` down, of the integer square root of `n`. -/
def isqrtFrom (n : Nat) : Nat → Nat → Nat
  | 0, acc => acc
  | k + 1, acc => if (acc + 2 ^ k) * (acc + 2 ^ k) ≤ n then isqrtFrom n k (acc + 2 ^ k) else isqrtFrom n k acc

/-- The integer square root, for any `n` below 2^128 (R112 needs 64 bits). -/
def isqrt (n : Nat) : Nat := isqrtFrom n 64 0

/-- A byte read as a signed number, two's complement (R171). -/
def signed8 (n : Nat) : Int := if n < 128 then (n : Int) else (n : Int) - 256

/-- A two-byte number read as a signed number, two's complement (R171). -/
def signed16 (n : Nat) : Int := if n < 32768 then (n : Int) else (n : Int) - 65536

/-- Magnitude of a signed number. -/
def magnitude (i : Int) : Nat := i.natAbs

/-- A coordinate clamped into `0..hi`. -/
def clampCoord (hi : Nat) (i : Int) : Int := if i < 0 then 0 else if (hi : Int) < i then hi else i

end Sys2Proof.Machine
end

