-- ==== Sys2Proof/Machine/Link.lean ====
section
/-! DEFINITION. Machine/Link.lean: the notice as it stands on the line: bit order, CRC-16, inserted bits, end field, and
the receiver's checks (R40, R41, R42, R171). A bit of value 1 is `true` (recessive), of value 0 `false` (dominant). -/

namespace Sys2Proof.Machine

/-- The `w` low bits of `n`, most significant first (R171). -/
def bitsMsb : Nat → Nat → List Bool
  | 0, _ => []
  | w + 1, n => n.testBit w :: bitsMsb w n

/-- The number whose bits, most significant first, are given. -/
def natOfBits (bits : List Bool) : Nat := bits.foldl (fun acc b => 2 * acc + b.toNat) 0

/-- The bits of a payload in the order sent. -/
def payloadBits (p : Payload) : List Bool := p.flatMap (fun b => bitsMsb 8 b.toNat)

/-- One bit into the CRC-16 of polynomial x^16 + x^12 + x^5 + 1 (R171). -/
def crcStep (c : BitVec 16) (b : Bool) : BitVec 16 :=
  if (c.getMsbD 0) != b then (c <<< 1) ^^^ 0x1021#16 else c <<< 1

/-- The CRC-16 of a string of bits, started from all ones, without inversion (R171). -/
def crc16 (bits : List Bool) : BitVec 16 := bits.foldl crcStep 0xFFFF#16

/-- A notice: the kind code and source of its arbitration field, and its payload (R41). -/
structure Notice where
  kind    : Nat
  src     : Nat
  payload : Payload
  deriving DecidableEq, Repr

/-- The bits the CRC covers: arbitration field, length, payload (R41, R171). -/
def Notice.covered (n : Notice) : List Bool :=
  bitsMsb 6 n.kind ++ (bitsMsb 5 n.src ++ (bitsMsb 6 n.payload.length ++ payloadBits n.payload))

/-- The bits of a notice from its start bit up to the end field, before bits are inserted (R41). -/
def Notice.body (n : Notice) : List Bool :=
  false :: (n.covered ++ bitsMsb 16 (crc16 n.covered).toNat)

/-- Bit insertion (R40): after four consecutive bits of equal value, one of the opposite value, which counts as the
first of the next run. `prev` is the last bit sent and `cnt` the length of its run. -/
def stuffFrom (prev : Bool) (cnt : Nat) : List Bool → List Bool
  | [] => []
  | b :: bs =>
    let c := if b = prev then cnt + 1 else 1
    if c = 4 then b :: (!b) :: stuffFrom (!b) 1 bs else b :: stuffFrom b c bs

/-- Removal of the inserted bits by the receiver; `none` is a framing error: a run of five equal bits, or an
inserted bit missing at the end (R40). -/
def unstuffFrom (prev : Bool) (cnt : Nat) : List Bool → Option (List Bool)
  | [] => if cnt = 4 then none else some []
  | b :: bs =>
    if cnt = 4 then (if b = prev then none else unstuffFrom b 1 bs)
    else (unstuffFrom b (if b = prev then cnt + 1 else 1) bs).map (b :: ·)

/-- The end field: ten recessive bits (R40). -/
def endField : List Bool := List.replicate 10 true

/-- The line's bits for a notice, from its start bit through its end field (R40, R41). -/
def Notice.frame (n : Notice) : List Bool := stuffFrom true 0 n.body ++ endField

/-- The bytes of a payload's bits, `len` of them. -/
def bytesOfBits : Nat → List Bool → Payload
  | 0, _ => []
  | len + 1, bits => BitVec.ofNat 8 (natOfBits (bits.take 8)) :: bytesOfBits len (bits.drop 8)

/-- The notice in the bits after a start bit, inserted bits removed: lengths must fit, the length must not exceed 56,
and the CRC must match (R41). -/
def readBody (bits : List Bool) : Option Notice :=
  let len := natOfBits ((bits.drop 11).take 6)
  let covered := bits.take (17 + 8 * len)
  if bits.length ≠ 33 + 8 * len then none
  else if Config.maxPayload < len then none
  else if natOfBits (bits.drop (17 + 8 * len)) ≠ (crc16 covered).toNat then none
  else some { kind := natOfBits (bits.take 6), src := natOfBits ((bits.drop 6).take 5),
              payload := bytesOfBits len (bits.drop 17) }

/-- What a receiver makes of the bits of the line from a start bit through an end field: the notice, or `none` where
it discards what it received (R41). -/
def receiveFrame (bits : List Bool) : Option Notice :=
  if bits.drop (bits.length - 10) ≠ endField then none
  else match unstuffFrom true 0 (bits.take (bits.length - 10)) with
    | some (false :: body) => readBody body
    | _ => none

/-- The arbitration field of a notice as a number: the kind's six bits, then the source's five (R41). The notice with
the lower number wins the line (R42). -/
def Notice.arbitration (n : Notice) : Nat := n.kind * 32 + n.src

end Sys2Proof.Machine
end

