-- ==== Sys2Proof/Machine/Codes.lean ====
section
/-! DEFINITION. Machine/Codes.lean: the codes of 3.2, 12.3, 12.4 and 12.5, and the readings of them. -/

namespace Sys2Proof.Machine

/-- The code of a notice kind (3.2). -/
def NoticeKind.code : NoticeKind → Nat
  | .stop => 1 | .stationReset => 2 | .start => 3 | .back => 4 | .forward => 5 | .headSelect => 6 | .faultClear => 7
  | .pantographGo => 8 | .needleMap => 9 | .configure => 10 | .designOpen => 11 | .status => 16 | .designPage => 20

/-- The notice kind of a code; `none` for a code not in the table of 3.2. -/
def NoticeKind.ofCode (n : Nat) : Option NoticeKind :=
  [NoticeKind.stop, .stationReset, .start, .back, .forward, .headSelect, .faultClear, .pantographGo, .needleMap,
    .configure, .designOpen, .status, .designPage].find? (fun k => k.code == n)

/-- The code of a station state (12.4). -/
def StationState.code : StationState → Nat
  | .joining => 0 | .ready => 1 | .armed => 2 | .run => 3 | .halting => 4 | .halted => 5 | .done => 6

/-- The station state of a code. -/
def StationState.ofCode (n : Nat) : Option StationState :=
  [StationState.joining, .ready, .armed, .run, .halting, .halted, .done][n]?

/-- The code of a lock (12.4). -/
def Lock.code : Lock → Nat
  | .none => 0 | .strap => 1 | .addressClash => 2

/-- The lock of a code. -/
def Lock.ofCode (n : Nat) : Option Lock := [Lock.none, .strap, .addressClash][n]?

/-- The twenty fault kinds in the order of their codes (12.5). -/
def FaultKind.all : List FaultKind :=
  [.strap, .joinTimeout, .addressClash, .peerLost, .indexMismatch, .dwellLimit, .veto, .encoder, .shaftPosition, .drive,
    .moveLate, .field, .homeFail, .caseJam, .caseLost, .noNeedle, .needleOut, .threadBreak, .tensionLow, .tensionHigh]

/-- The code of a fault kind (12.5). -/
def FaultKind.code : FaultKind → Nat
  | .strap => 1 | .joinTimeout => 2 | .addressClash => 3 | .peerLost => 4 | .indexMismatch => 5 | .dwellLimit => 6
  | .veto => 7 | .encoder => 8 | .shaftPosition => 9 | .drive => 10 | .moveLate => 11 | .field => 12 | .homeFail => 13
  | .caseJam => 14 | .caseLost => 15 | .noNeedle => 16 | .needleOut => 17 | .threadBreak => 18 | .tensionLow => 19
  | .tensionHigh => 20

/-- The fault kind of a code. -/
def FaultKind.ofCode (n : Nat) : Option FaultKind := FaultKind.all.find? (fun k => k.code == n)

/-- The code of a halt reason (12.5). -/
def HaltReason.code : HaltReason → Nat
  | .fault k => k.code
  | .stop => 21 | .colourStop => 22 | .endRecord => 23 | .peerHalt => 24 | .noActiveHead => 25

/-- The halt reason of a code. -/
def HaltReason.ofCode (n : Nat) : Option HaltReason :=
  (FaultKind.all.map HaltReason.fault ++ [HaltReason.stop, .colourStop, .endRecord, .peerHalt, .noActiveHead]).find?
    (fun k => k.code == n)

/-- The code of a hold reason (12.5). -/
def HoldReason.code : HoldReason → Nat
  | .none => 0 | .underrun => 1 | .lookahead => 2 | .field => 3 | .needleMoving => 4 | .needleOut => 5 | .noNeedle => 6
  | .caseFault => 7 | .faulted => 8 | .walking => 9 | .moveIncomplete => 10 | .halting => 11 | .offTop => 12

/-- The hold reason of a code. -/
def HoldReason.ofCode (n : Nat) : Option HoldReason :=
  [HoldReason.none, .underrun, .lookahead, .field, .needleMoving, .needleOut, .noNeedle, .caseFault, .faulted, .walking,
    .moveIncomplete, .halting, .offTop][n]?

/-- The code of a refusal reason (12.5). -/
def RefusalReason.code : RefusalReason → Nat
  | .state => 1 | .range => 2 | .format => 3 | .order => 4 | .roster => 5 | .busy => 6 | .noDesign => 7 | .faulted => 8
  | .peerMissing => 9 | .indexMismatch => 10 | .notPlaced => 11 | .field => 12 | .drive => 13 | .noActiveHead => 14
  | .notHomed => 15

/-- The refusal reason of a code. -/
def RefusalReason.ofCode (n : Nat) : Option RefusalReason :=
  [RefusalReason.state, .range, .format, .order, .roster, .busy, .noDesign, .faulted, .peerMissing, .indexMismatch,
    .notPlaced, .field, .drive, .noActiveHead, .notHomed].find? (fun k => k.code == n)

/-- The code of an activity (12.4). -/
def Activity.code : Activity → Nat
  | .active => 0 | .deselected => 1 | .withdrawn => 2

/-- The activity of a code. -/
def Activity.ofCode (n : Nat) : Option Activity := [Activity.active, .deselected, .withdrawn][n]?

/-- The code of a walk outcome (12.4). -/
def WalkOutcome.code : WalkOutcome → Nat
  | .none => 0 | .full => 1 | .clamped => 2 | .walkCut => 3

/-- The walk outcome of a code. -/
def WalkOutcome.ofCode (n : Nat) : Option WalkOutcome := [WalkOutcome.none, .full, .clamped, .walkCut][n]?

/-- The code of a stitch record kind (12.3). -/
def StitchKind.code : StitchKind → Nat
  | .sew => 1 | .jump => 2 | .trim => 3 | .colorStop => 4 | .endRecord => 5

/-- The stitch record kind of a code; any other code is refused with FORMAT (12.3, R61). -/
def StitchKind.ofCode (n : Nat) : Option StitchKind :=
  [StitchKind.sew, .jump, .trim, .colorStop, .endRecord].find? (fun k => k.code == n)

/-- The variant byte of a Pantograph Go (12.3). -/
def GoVariant.code : GoVariant → Nat
  | .home => 1 | .park => 2 | .goReturn => 3 | .absolute => 4 | .setOrigin => 5 | .trace => 6

/-- The section code of a Configure (12.3). -/
def SectionName.code : SectionName → Nat
  | .roster => 1 | .timing => 2 | .motion => 3 | .thread => 4

/-- The axis values (12.5). -/
def axisCode : Axis → Nat
  | .x => 1 | .y => 2

end Sys2Proof.Machine
end

