-- ==== Sys2Proof/Machine/Operands.lean ====
section
/-! DEFINITION. Machine/Operands.lean: the operands of the commands: the fields of every console payload (12.3), the
payload lengths that fit each kind (R44), and the Status payload in both directions (R172). -/

namespace Sys2Proof.Machine

/-! ## Numbers in a payload -/

/-- Byte `i` of a payload; a byte beyond its end reads as 0. -/
def byteAt (p : Payload) (i : Nat) : Nat := (p.getD i 0).toNat

/-- Two bytes, most significant first (R171). -/
def be16At (p : Payload) (i : Nat) : Nat := byteAt p i * 256 + byteAt p (i + 1)

/-- Three bytes, most significant first. -/
def be24At (p : Payload) (i : Nat) : Nat := be16At p i * 256 + byteAt p (i + 2)

/-- Four bytes, most significant first. -/
def be32At (p : Payload) (i : Nat) : Nat := be16At p i * 65536 + be16At p (i + 2)

/-- One byte of a number. -/
def byteOf (n : Nat) : Byte := BitVec.ofNat 8 n

/-- A number as two bytes, most significant first. -/
def be16 (n : Nat) : Payload := [byteOf (n / 256), byteOf n]

/-- A number as three bytes, most significant first. -/
def be24 (n : Nat) : Payload := [byteOf (n / 65536), byteOf (n / 256), byteOf n]

/-! ## Lengths that fit (R44 check 3, 12.3) -/

/-- The target byte of a console payload. -/
def targetOf (p : Payload) : Nat := byteAt p 0

/-- Whether a Design Page's length fits the record count it states, 1..12 (R44). -/
def pageLengthFits (p : Payload) : Bool :=
  decide (4 ≤ p.length ∧ 1 ≤ byteAt p 3 ∧ byteAt p 3 ≤ Config.pageRecords ∧ p.length = 4 + 4 * byteAt p 3)

/-- Whether a Configure's length fits the section it names (R26, R27, 12.3); `want` is the section of the command. -/
def configureLengthFits (want : SectionName) (p : Payload) : Bool :=
  decide (2 ≤ p.length ∧ byteAt p 1 = want.code) &&
  match want with
  | .roster => decide (3 ≤ p.length ∧ p.length = 3 + byteAt p 2)
  | .timing => decide (p.length = 23)
  | .motion => decide (p.length = 26)
  | .thread => decide (p.length = 17)

/-! ## Console payloads (12.3) -/

/-- The count of a Back or Forward. -/
def countOf (p : Payload) : Nat := be24At p 1

/-- Whether a Head Select's mask flags an address. -/
def maskFlags (p : Payload) (addr : Nat) : Bool := (be32At p 1).testBit addr

/-- The needle field of a Fault Clear. -/
def needleOf (p : Payload) : Nat := byteAt p 1

/-- The variant byte of a Pantograph Go. -/
def variantOf (p : Payload) : Nat := byteAt p 1

/-- The coordinates of a Pantograph Go, read for ABSOLUTE only. -/
def goX (p : Payload) : Nat := be16At p 2

/-- The y coordinate of a Pantograph Go. -/
def goY (p : Payload) : Nat := be16At p 4

/-- The 64 entries of a Needle Map: byte i holds slot 2i + 1 in bits 7..4 and slot 2i + 2 in bits 3..0. -/
def mapOf (p : Payload) : List Nat :=
  (List.range 32).flatMap (fun i => [byteAt p (1 + i) / 16, byteAt p (1 + i) % 16])

/-- The header of a Design Open, before the scale is clamped. -/
def headerOf (p : Payload) : Header :=
  { ident := be16At p 1, stitches := be24At p 3, pages := be24At p 6, colourStops := be16At p 9,
    xmin := signed16 (be16At p 11), xmax := signed16 (be16At p 13), ymin := signed16 (be16At p 15),
    ymax := signed16 (be16At p 17), firstSlot := byteAt p 19, exchange := (byteAt p 20).testBit 0,
    mirrorX := (byteAt p 20).testBit 1, mirrorY := (byteAt p 20).testBit 2, scale := byteAt p 21 }

/-- The page number of a Design Page. -/
def pageNumberOf (p : Payload) : Nat := be16At p 1

/-- The record count of a Design Page. -/
def pageCountOf (p : Payload) : Nat := byteAt p 3

/-- Record `i` of a Design Page, counting from 0; `none` for a kind code other than the five. -/
def pageRecordOf (p : Payload) (i : Nat) : Option StitchRecord :=
  (StitchKind.ofCode (byteAt p (4 + 4 * i))).map (fun k =>
    { kind := k, dx := signed8 (byteAt p (5 + 4 * i)), dy := signed8 (byteAt p (6 + 4 * i)), aux := byteAt p (7 + 4 * i) })

/-- The records of a Design Page; `none` if one carries a kind other than the five. -/
def pageRecordsOf (p : Payload) : Option (List StitchRecord) := (List.range (pageCountOf p)).mapM (pageRecordOf p)

/-- The entries of a ROSTER: address in bits 4..0, head role bit 5, frame role bit 6. -/
def rosterOf (p : Payload) : List RosterEntry :=
  (List.range (byteAt p 2)).map (fun i =>
    { addr := byteAt p (3 + i) % 32, head := (byteAt p (3 + i)).testBit 5, frame := (byteAt p (3 + i)).testBit 6 })

/-- The fields of a TIMING section as sent. -/
def timingOf (p : Payload) : TimingSection :=
  { m := be16At p 2, h := be16At p 4, aArm := be16At p 6, tuOpen := be16At p 8, tuClose := be16At p 10,
    kOn := be16At p 12, kOff := be16At p 14, d := be16At p 16, wOpen := be16At p 18, tStill := byteAt p 20,
    dwellLimit := byteAt p 21, armTimeout := byteAt p 22 }

/-- The fields of a MOTION section as sent. -/
def motionOf (p : Payload) : MotionSection :=
  { accel := be16At p 2, topSpeed := byteAt p 4, settle := be16At p 5, xMax := be16At p 7, yMax := be16At p 9,
    parkX := be16At p 11, parkY := be16At p 13, nTop := be16At p 15, nHalt := byteAt p 17, nTrim := be16At p 18,
    nCaution := be16At p 20, rampUp := byteAt p 22, rampDown := be16At p 23, retention := byteAt p 25 }

/-- The fault policy byte of a THREAD section. -/
def policyByte (p : Payload) : Nat := byteAt p 12

/-- The pause byte of a THREAD section. -/
def pauseByte (p : Payload) : Nat := byteAt p 16

/-- The fields of a THREAD section as sent. -/
def threadOf (p : Payload) : ThreadSection :=
  { dryLimit := byteAt p 2, suppression := byteAt p 3, tLoF := be16At p 4, tLoC := be16At p 6, tHiC := be16At p 8,
    tHiF := be16At p 10, withdraw := policyByte p == 1, stepTimeout := be16At p 13, settleTime := byteAt p 15,
    pause := pauseByte p == 1 }

/-! ## The Status payload (R172) -/

/-- A flag at bit `k` of a byte. -/
def flag (b : Bool) (k : Nat) : Nat := if b then 2 ^ k else 0

/-- The fixed part of a Status payload, 20 bytes. -/
def statusFixed (i : StatusItems) : Payload :=
  [byteOf (flag i.head.isSome 7 + flag i.frame.isSome 6 + flag i.halt.isSome 5 + flag i.design.isSome 4
      + flag i.oldest.isSome 3 + flag i.refusal.isSome 2 + flag i.overflow 1 + flag i.gap 0),
    byteOf (flag i.walking 6 + flag i.ready 5 + i.lock.code * 8 + i.state.code),
    byteOf (i.faultCount * 16 + i.sections),
    byteOf i.hold.code,
    byteOf i.dwellCount] ++ be24 i.stitch ++
  [byteOf (flag (i.report.dir == .forward) 7 + flag i.atRest 6 + flag i.onTop 5 + i.report.outcome.code)] ++
  be24 i.report.requested ++ be24 i.report.actual ++ be16 i.freePages ++ be24 i.nextWanted

/-- The head group, 11 bytes. -/
def statusHeadBytes (h : StatusHead) : Payload :=
  [byteOf (flag (h.tension == .caution) 2 + h.activity.code)] ++ be24 h.mark ++ [byteOf (h.current * 16 + h.wanted)] ++
  be16 h.service ++ be16 h.filter ++ be16 h.ceiling

/-- The frame group, 3 bytes. -/
def statusFrameBytes (f : StatusFrame) : Payload := [byteOf (flag f.inPlace 1 + flag f.homed 0)] ++ be16 f.demand

/-- The halt reason group, 1 byte. -/
def statusHaltBytes (r : HaltReason) : Payload := [byteOf r.code]

/-- The design group, 7 bytes. -/
def statusDesignBytes (d : StatusDesign) : Payload := be16 d.ident ++ be24 d.stitches ++ be16 d.colourStops

/-- The oldest fault group, 8 bytes; an absent needle is sent as 0. -/
def statusFaultBytes (r : FaultRecord) : Payload :=
  [byteOf r.kind.code] ++ be24 r.stitch ++ [byteOf (r.needle.getD 0)] ++ be24 (r.value.getD 0)

/-- The last refusal group, 2 bytes. -/
def statusRefusalBytes (r : NoticeKind × RefusalReason) : Payload := [byteOf r.1.code, byteOf r.2.code]

/-- An optional group: its bytes, or nothing. -/
def groupBytes {α : Type} (f : α → Payload) : Option α → Payload
  | none => []
  | some a => f a

/-- The Status payload of the items (R172). -/
def encodeStatus (i : StatusItems) : Payload :=
  statusFixed i ++ (groupBytes statusHeadBytes i.head ++ (groupBytes statusFrameBytes i.frame ++
    (groupBytes statusHaltBytes i.halt ++ (groupBytes statusDesignBytes i.design ++
      (groupBytes statusFaultBytes i.oldest ++ groupBytes statusRefusalBytes i.refusal)))))

/-- The head group read back; the service mask has a bit for each of the needles 1..12, and bits that no layout names are not read
(R171). -/
def readHead (p : Payload) : Option StatusHead :=
  (Activity.ofCode (byteAt p 0 % 4)).map (fun a =>
    { activity := a, tension := if (byteAt p 0).testBit 2 then .caution else .clear, mark := be24At p 1,
      current := byteAt p 4 / 16, wanted := byteAt p 4 % 16, service := be16At p 5 % 4096, filter := be16At p 7,
      ceiling := be16At p 9 })

/-- The frame group read back. -/
def readFrame (p : Payload) : Option StatusFrame :=
  some { homed := (byteAt p 0).testBit 0, inPlace := (byteAt p 0).testBit 1, demand := be16At p 1 }

/-- The halt reason group read back. -/
def readHalt (p : Payload) : Option HaltReason := HaltReason.ofCode (byteAt p 0)

/-- The design group read back. -/
def readDesign (p : Payload) : Option StatusDesign :=
  some { ident := be16At p 0, stitches := be24At p 2, colourStops := be16At p 5 }

/-- The oldest fault group read back. -/
def readFault (p : Payload) : Option FaultRecord :=
  (FaultKind.ofCode (byteAt p 0)).map (fun k =>
    { kind := k, stitch := be24At p 1, needle := if byteAt p 4 = 0 then none else some (byteAt p 4),
      value := some (be24At p 5) })

/-- The last refusal group read back. -/
def readRefusal (p : Payload) : Option (NoticeKind × RefusalReason) :=
  match NoticeKind.ofCode (byteAt p 0), RefusalReason.ofCode (byteAt p 1) with
  | some k, some r => some (k, r)
  | _, _ => none

/-- A group of `n` bytes read from the front of a payload if its presence flag is set: the group and the bytes after it.
`none` where the payload is too short or a code names nothing. -/
def readGroup {α : Type} (present : Bool) (n : Nat) (f : Payload → Option α) (p : Payload) : Option (Option α × Payload) :=
  if present then
    if p.length < n then none
    else match f (p.take n) with
      | some a => some (some a, p.drop n)
      | none => none
  else some (none, p)

/-- The items of a Status payload (R172); `none` for bytes that no station sends. -/
def decodeStatus (p : Payload) : Option StatusItems :=
  if p.length < 20 then none
  else
    match StationState.ofCode (byteAt p 1 % 8), Lock.ofCode (byteAt p 1 / 8 % 4), HoldReason.ofCode (byteAt p 3),
        WalkOutcome.ofCode (byteAt p 8 % 4) with
    | some state, some lock, some hold, some outcome =>
      match readGroup ((byteAt p 0).testBit 7) 11 readHead (p.drop 20) with
      | none => none
      | some (head, p1) =>
        match readGroup ((byteAt p 0).testBit 6) 3 readFrame p1 with
        | none => none
        | some (frame, p2) =>
          match readGroup ((byteAt p 0).testBit 5) 1 readHalt p2 with
          | none => none
          | some (halt, p3) =>
            match readGroup ((byteAt p 0).testBit 4) 7 readDesign p3 with
            | none => none
            | some (design, p4) =>
              match readGroup ((byteAt p 0).testBit 3) 8 readFault p4 with
              | none => none
              | some (oldest, p5) =>
                match readGroup ((byteAt p 0).testBit 2) 2 readRefusal p5 with
                | some (refusal, []) =>
                  some { state := state, lock := lock, ready := (byteAt p 1).testBit 5, walking := (byteAt p 1).testBit 6,
                         sections := byteAt p 2 % 16, faultCount := byteAt p 2 / 16, overflow := (byteAt p 0).testBit 1,
                         gap := (byteAt p 0).testBit 0, hold := hold, dwellCount := byteAt p 4, stitch := be24At p 5,
                         atRest := (byteAt p 8).testBit 6, onTop := (byteAt p 8).testBit 5,
                         report := { dir := if (byteAt p 8).testBit 7 then .forward else .back, requested := be24At p 9,
                                     actual := be24At p 12, outcome := outcome },
                         freePages := be16At p 15, nextWanted := be24At p 17, head := head, frame := frame, halt := halt,
                         design := design, oldest := oldest, refusal := refusal }
                | _ => none
    | _, _, _, _ => none

end Sys2Proof.Machine
end

