-- ==== Sys2Proof/WellFormed.lean ====
section
/-! DEFINITION. WellFormed.lean: the commands that can occur. A notice's payload is at most 56 bytes, since the receiver
discards any longer (R41); the variant byte of a Pantograph Go and the section code of a Configure are those of the
command's own row; what NOTICE_DISCARDED discards is no notice a receiver would take; the Peer Table holds entries
for addresses 1..31 only. -/

namespace Sys2Proof

open Sys2Proof.Machine

/-- A payload a receiver can have taken (R41). -/
def payloadFits (p : Payload) : Bool := decide (p.length ≤ Config.maxPayload)

/-- A Pantograph Go payload that, where it is long enough to name a variant, names that of its row (12.3). -/
def goNames (v : GoVariant) (p : Payload) : Bool := payloadFits p && decide (p.length < 2 ∨ variantOf p = v.code)

/-- A Configure payload that, where it is long enough to name a section, names that of its row (12.3). -/
def sectionNames (n : SectionName) (p : Payload) : Bool := payloadFits p && decide (p.length < 2 ∨ byteAt p 1 = n.code)

/-- The well-formed commands. -/
def Instr.wf : Instr → Bool
  | .resetNLow => true
  | .hardReset _ _ _ => true
  | .encoderForwardCount _ => true
  | .encoderReverseCount _ => true
  | .indexPulse => true
  | .restReached => true
  | .seenLevelChange _ => true
  | .stallTimeout => true
  | .armTimeout => true
  | .joinTimeout => true
  | .noticeDiscarded bits => decide (receiveFrame bits = none)
  | .stop _ p => payloadFits p
  | .stationReset _ p => payloadFits p
  | .start _ p => payloadFits p
  | .back _ p => payloadFits p
  | .forward _ p => payloadFits p
  | .headSelect _ p => payloadFits p
  | .faultClear _ p => payloadFits p
  | .pantographGoHome _ p _ _ => goNames .home p
  | .pantographGoPark _ p => goNames .park p
  | .pantographGoReturn _ p => goNames .goReturn p
  | .pantographGoAbsolute _ p => goNames .absolute p
  | .pantographGoSetOrigin _ p => goNames .setOrigin p
  | .pantographGoTrace _ p => goNames .trace p
  | .needleMap _ p => payloadFits p
  | .configureRoster _ p => sectionNames .roster p
  | .configureTiming _ p => sectionNames .timing p
  | .configureMotion _ p => sectionNames .motion p
  | .configureThread _ p => sectionNames .thread p
  | .designOpen _ p => payloadFits p
  | .designPage _ p => payloadFits p
  | .statusReceived _ p => payloadFits p
  | .peerLost a => decide (a.toNat ≠ 0)
  | .statusInterval => true
  | .statusAttempt => true
  | .lostArbitration => true
  | .statusSent => true
  | .moveComplete => true
  | .homeSwitchClose _ => true
  | .homeBackoffDone _ => true
  | .homeSeekLimit _ => true
  | .driveReadyFall => true
  | .driveReadyRise => true
  | .creepTimeout => true
  | .caseSensorChange _ _ => true
  | .stepTimeout => true
  | .settleTimerExpiry => true
  | .threadPulse => true

end Sys2Proof
end

