-- ==== Sys2Proof/Machine/State.lean ====
section
/-! DEFINITION. Machine/State.lean: the state of the part: one record per block of the data sheet, with every item its
chapter lists, the input levels, the station they make up, and the queue of the commands that wait. A needle
that is wanted or current, a published ceiling, readiness and the like are not stored: they follow from the items
here and are computed in Machine/Flags.lean, so that no two fields can disagree. -/

namespace Sys2Proof.Machine

/-- Input pins that are sensed as levels (12.1). The straps are sampled by HARD_RESET and held in the station
record; the gate, the encoder, the link and THREAD_PULSE reach the part as the events of its commands. -/
structure Pins where
  /-- CASE_POS0..3 as a code; a code above 12 reads as position 0 (R170). -/
  caseCode   : Nat
  /-- CASE_LATCH: the detent is engaged. -/
  caseLatch  : Bool
  driveReady : Bool
  /-- X_HOME closed, as last seen. -/
  xHome      : Bool
  /-- Y_HOME closed, as last seen. -/
  yHome      : Bool
  /-- TENSION as converted at the last encoder count (R139). -/
  tension    : Nat
  deriving DecidableEq, Repr

/-- The Shaft Tracker's record (1.1). `stillFrom` is the clock when the still timer was last restarted, `indexAt`
the clock at the last index from which a period is measured (R4). -/
structure ShaftTracker where
  angle     : Nat
  synced    : Bool
  lag       : Nat
  run       : Nat
  raised    : List AngleName
  period    : Nat
  chain     : Bool
  indexAt   : Nat
  stillFrom : Nat
  atRest    : Bool
  onTop     : Bool
  deriving DecidableEq, Repr

/-- The Gate Unit's record (1.3). `seenHigh` is the seen level. `commitSpan` marks the place in the revolution
that R12 calls "from a commit at D to the next A_arm". `waits` is the guard in which a change of the wanted level arose
that is not driven yet (R13). -/
structure GateUnit where
  wanted     : Pull
  drive      : Pull
  seenHigh   : Bool
  committed  : Bool
  lead       : Bool
  commitSpan : Bool
  dwellCount : Nat
  vetoReq    : Option Nat
  waits      : Option Guard
  stallTimer : Timer
  deriving DecidableEq, Repr

/-- The Station Controller's record (2.1) with the fault list (11.1) and the head activity (10.3). A section is
held when it is present; `none` leaves its defaults in force. -/
structure StationControl where
  state       : StationState
  addr        : Nat
  headRole    : Bool
  frameRole   : Bool
  lock        : Lock
  roster      : Option (List RosterEntry)
  timing      : Option TimingSection
  motion      : Option MotionSection
  thread      : Option ThreadSection
  joinTimer   : Timer
  former      : Former
  armTimer    : Timer
  haltReason  : Option HaltReason
  faults      : List FaultRecord
  overflow    : Bool
  lastRefusal : Option (NoticeKind × RefusalReason)
  activity    : Activity
  deriving DecidableEq, Repr

/-- The Station Link Interface's record (3.5): the transmit slot, the Status notice now on the line, whether a
cause arose while it is there (R47), and the clock at the last restart of the interval timer (R48). -/
structure LinkInterface where
  slotPending  : Bool
  sending      : Option Notice
  causeAgain   : Bool
  intervalFrom : Nat
  deriving DecidableEq, Repr

/-- One entry of the Peer Table (3.7); `ageFrom` is the clock from which its age runs. `mismatched` is the mark of R55. -/
structure PeerEntry where
  addr       : Nat
  head       : Bool
  frame      : Bool
  heard      : Bool
  last       : Option StatusItems
  ageFrom    : Nat
  lost       : Bool
  mismatched : Bool
  deriving DecidableEq, Repr

/-- The Page Store's record (chapter 4). The design-open flag is the presence of the header (R56); `free` lists
the unused slots, head first (4.3). -/
structure PageStore where
  header     : Option Header
  free       : List Nat
  posted     : List Page
  current    : Option Page
  retained   : List Page
  nextWanted : Nat
  gap        : Bool
  deriving DecidableEq, Repr

/-- The Stitch Sequencer's record (5.1). -/
structure Sequencer where
  stitch : Nat
  px     : Int
  py     : Int
  slot   : Nat
  mark   : Nat
  walk   : Option Walk
  report : WalkReport
  deriving DecidableEq, Repr

/-- The Pantograph Controller's record (6.1). `after` says what the completion of the move in progress does to in-place. -/
structure Pantograph where
  homed    : Bool
  x        : Int
  y        : Int
  originX  : Int
  originY  : Int
  inPlace  : Bool
  move     : Option Move
  pending  : Option MoveTarget
  waiting  : Option MoveTarget
  go       : Option Go
  finding  : Option Axis
  deferred : Bool
  after    : InPlaceRule
  deriving DecidableEq, Repr

/-- The Speed Governor's record (7.1). The head ceilings stand in the Peer Table's entries (R115). `restAt` is the clock at
a rest reached event that ended one creep and began the next (the MODEL's own field, log entry 47). -/
structure Governor where
  mode       : GovMode
  demand     : Nat
  reposition : Option Reposition
  attempts   : Nat
  creepTimer : Timer
  givenUp    : Bool
  restAt     : Timer
  measured   : Option Nat
  deriving DecidableEq, Repr

/-- The Needle Case Controller's record (8.1), with CASE_DIR and the count of CASE_STEP pulses issued since the
last hard reset. Entry i of `map` is the needle of colour slot i + 1. `successAt` is the clock at the last success of a step whose
timer ran, until an expiry at that same reading (the MODEL's own field, log entry 56). -/
structure NeedleCase where
  map          : List Nat
  step         : Option CaseStep
  attempts     : Nat
  stepWaiting  : Bool
  stopped      : CaseStopped
  settleTimer  : Timer
  settled      : Bool
  settledNeedle : Nat
  dirUp        : Bool
  pulses       : Nat
  successAt    : Timer
  deriving DecidableEq, Repr

/-- The Thread Monitor's record (9.1). Entry i of `counts` and of `service` is needle i + 1. -/
structure ThreadMonitor where
  pen         : Option Penetration
  suppression : Nat
  runStart    : Option Nat
  dryCount    : Nat
  filter      : Nat
  restart     : Bool
  samples     : Nat
  tension     : TensionState
  counts      : List Nat
  service     : List Bool
  deriving DecidableEq, Repr

/-- Head Stitch Control's record (10.1), less the activity, which the station record holds. -/
structure HeadControl where
  mark         : Nat
  decision     : Option Decision
  holdEngaged  : Bool
  knife        : Bool
  knifePending : Bool
  deriving DecidableEq, Repr

/-- The station: everything a command acts on. -/
structure Station where
  /-- RESET_N is low (R22): the part acts on nothing but the levels of its inputs. -/
  resetLow : Bool
  /-- The part's clock in microseconds, from which the timers are read (the MODEL's own field, log entry 3). -/
  now : Nat
  /-- The levels at the input pins that are sensed as levels (12.1). -/
  pins : Pins
  /-- Shaft Tracker (1.1). -/
  sht : ShaftTracker
  /-- Gate Unit (1.3). -/
  gtu : GateUnit
  /-- Station Controller (2.1) and the fault list (11.1). -/
  stc : StationControl
  /-- Station Link Interface (3.5). -/
  sli : LinkInterface
  /-- Peer Table (3.7). -/
  prt : List PeerEntry
  /-- Page Store (chapter 4). -/
  pgs : PageStore
  /-- Stitch Sequencer (5.1). -/
  ssq : Sequencer
  /-- Pantograph Controller (6.1). -/
  pnc : Pantograph
  /-- Speed Governor (7.1). -/
  sgv : Governor
  /-- Needle Case Controller (8.1). -/
  ncc : NeedleCase
  /-- Thread Monitor (9.1). -/
  thm : ThreadMonitor
  /-- Head Stitch Control (10.1). -/
  hsc : HeadControl
  deriving DecidableEq, Repr

/-- The station with another `resetLow`. -/
def Station.setResetLow (s : Station) (v : Bool) : Station := { s with resetLow := v }

/-- The station with another `now`. -/
def Station.setNow (s : Station) (v : Nat) : Station := { s with now := v }

/-- The station with another `pins`. -/
def Station.setPins (s : Station) (v : Pins) : Station := { s with pins := v }

/-- The station with another `sht`. -/
def Station.setSht (s : Station) (v : ShaftTracker) : Station := { s with sht := v }

/-- The station with another `gtu`. -/
def Station.setGtu (s : Station) (v : GateUnit) : Station := { s with gtu := v }

/-- The station with another `stc`. -/
def Station.setStc (s : Station) (v : StationControl) : Station := { s with stc := v }

/-- The station with another `sli`. -/
def Station.setSli (s : Station) (v : LinkInterface) : Station := { s with sli := v }

/-- The station with another `prt`. -/
def Station.setPrt (s : Station) (v : List PeerEntry) : Station := { s with prt := v }

/-- The station with another `pgs`. -/
def Station.setPgs (s : Station) (v : PageStore) : Station := { s with pgs := v }

/-- The station with another `ssq`. -/
def Station.setSsq (s : Station) (v : Sequencer) : Station := { s with ssq := v }

/-- The station with another `pnc`. -/
def Station.setPnc (s : Station) (v : Pantograph) : Station := { s with pnc := v }

/-- The station with another `sgv`. -/
def Station.setSgv (s : Station) (v : Governor) : Station := { s with sgv := v }

/-- The station with another `ncc`. -/
def Station.setNcc (s : Station) (v : NeedleCase) : Station := { s with ncc := v }

/-- The station with another `thm`. -/
def Station.setThm (s : Station) (v : ThreadMonitor) : Station := { s with thm := v }

/-- The station with another `hsc`. -/
def Station.setHsc (s : Station) (v : HeadControl) : Station := { s with hsc := v }

/-- The state of the machine: the station, and the commands that wait, first in, first out. -/
structure State where
  dev     : Station
  pending : List Instr
  deriving DecidableEq, Repr

/-- The part never stops with a fault: what the data sheet calls a fault is a record in its fault list (R164), a
next state. No command raises one, so the type has no constructor. -/
inductive Fault where
  deriving DecidableEq, Repr

/-- Why a command has no meaning. -/
inductive Refusal where
  /-- Raised by `exec` alone, for a command whose meaning is not written; safe. No arm of `exec` raises it. -/
  | notModelled (mnemonic : String)
  deriving DecidableEq, Repr

/-! ## Values after reset -/

/-- R6: the Shaft Tracker after a hard reset, its still timer at 0. -/
def ShaftTracker.reset (now : Nat) : ShaftTracker :=
  { angle := 0, synced := false, lag := 0, run := 0, raised := [], period := 0, chain := false, indexAt := now,
    stillFrom := now, atRest := false, onTop := false }

/-- R10: the Gate Unit after a hard reset, a Station Reset or an address clash. -/
def GateUnit.reset : GateUnit :=
  { wanted := .low, drive := .low, seenHigh := false, committed := false, lead := false, commitSpan := false,
    dwellCount := 0, vetoReq := none, waits := none, stallTimer := none }

/-- R21, R22: the Station Controller after a hard reset with the given straps. -/
def StationControl.reset (now addr : Nat) (head frame : Bool) : StationControl :=
  let faulty := addr == 0 || (!head && !frame)
  { state := .joining, addr := addr, headRole := head, frameRole := frame,
    lock := if faulty then .strap else .none, roster := none, timing := none, motion := none, thread := none,
    joinTimer := if faulty then none else some now, former := .none, armTimer := none, haltReason := none,
    faults := if faulty then [{ kind := .strap, stitch := 0, needle := none, value := some addr }] else [],
    overflow := false, lastRefusal := none, activity := .active }

/-- R47, R48: the Station Link Interface after a hard reset: a Status pending, unless the strapped address is 0 (R21). -/
def LinkInterface.reset (now addr : Nat) : LinkInterface :=
  { slotPending := addr != 0, sending := none, causeAgain := false, intervalFrom := now }

/-- All 512 page slots (R62). -/
def allSlots : List Nat := List.range Config.pageSlots

/-- 4.7: the Page Store with no design open. -/
def PageStore.empty : PageStore :=
  { header := none, free := allSlots, posted := [], current := none, retained := [], nextWanted := 0, gap := false }

/-- R91: the Stitch Sequencer with no design open. -/
def Sequencer.reset : Sequencer :=
  { stitch := 0, px := 0, py := 0, slot := 0, mark := 0, walk := none, report := WalkReport.clear }

/-- R110: the Pantograph Controller after a hard reset. -/
def Pantograph.reset : Pantograph :=
  { homed := false, x := 0, y := 0, originX := 0, originY := 0, inPlace := false, move := none, pending := none,
    waiting := none, go := none, finding := none, deferred := false, after := .normal }

/-- R126: the Speed Governor after a hard reset. -/
def Governor.reset : Governor :=
  { mode := .stopped, demand := 0, reposition := none, attempts := 0, creepTimer := none, givenUp := false, restAt := none,
    measured := none }

/-- R138: the Needle Case Controller after a hard reset. -/
def NeedleCase.reset : NeedleCase :=
  { map := List.replicate Config.colourSlots 0, step := none, attempts := 0, stepWaiting := false, stopped := .none,
    settleTimer := none, settled := false, settledNeedle := 0, dirUp := false, pulses := 0, successAt := none }

/-- R151: the Thread Monitor after a hard reset. -/
def ThreadMonitor.reset : ThreadMonitor :=
  { pen := none, suppression := 0, runStart := none, dryCount := 0, filter := 0, restart := true, samples := 0,
    tension := .clear, counts := List.replicate Config.needles 0, service := List.replicate Config.needles true }

/-- R163: Head Stitch Control after a hard reset. -/
def HeadControl.reset : HeadControl :=
  { mark := 0, decision := none, holdEngaged := true, knife := false, knifePending := false }

/-- R22: the station after a hard reset with the given straps, its input levels and its clock as they stand. -/
def Station.hardReset (now : Nat) (pins : Pins) (addr : Nat) (head frame : Bool) : Station :=
  { resetLow := false, now := now, pins := pins, sht := ShaftTracker.reset now, gtu := GateUnit.reset,
    stc := StationControl.reset now addr head frame, sli := LinkInterface.reset now addr, prt := [],
    pgs := PageStore.empty, ssq := Sequencer.reset, pnc := Pantograph.reset, sgv := Governor.reset,
    ncc := NeedleCase.reset, thm := ThreadMonitor.reset, hsc := HeadControl.reset }

/-- DESIGN CHOICE (log entry 2): the levels the outside holds at the input pins at `State.reset`: the case between
positions and unlatched, the drive not ready, the home switches open, no tension. -/
def Pins.idle : Pins :=
  { caseCode := 0, caseLatch := false, driveReady := false, xHome := false, yHome := false, tension := 0 }

/-- The machine right after a hard reset (R22), every block at its hard-reset values. DESIGN CHOICE (log entry 1):
the straps give address 1 and both roles, the single-head machine of 2.2. -/
def State.reset : State := { dev := Station.hardReset 0 Pins.idle 1 true true, pending := [] }

end Sys2Proof.Machine
end

