-- ==== Sys2Proof/Machine/Sections.lean ====
section
/-! DEFINITION. Machine/Sections.lean: the checks of the Configure sections, of a design header and of a page, and the values in
force (chapters 1, 2 and 4). A check answers what is to be held, or the reason of the refusal. -/

namespace Sys2Proof.Machine

/-! ## Values in force (R8, R28, R29) -/

/-- The TIMING values in force: those held, or else the defaults (R8). -/
def timing (s : Station) : TimingSection := s.stc.timing.getD TimingSection.default

/-- The MOTION values in force (R111). -/
def motion (s : Station) : MotionSection := s.stc.motion.getD MotionSection.default

/-- The THREAD values in force (R22). -/
def thread (s : Station) : ThreadSection := s.stc.thread.getD ThreadSection.default

/-- The effective top speed N_topE = min(N_top, N_halt + 16 W) (R111). -/
def nTopE (m : MotionSection) : Nat := min m.nTop (m.nHalt + 16 * m.rampDown)

/-- The length of the move window, L_w = (M - W_open) mod 1024 (R9). -/
def moveWindow (t : TimingSection) : Nat := (t.m + Config.countsPerRev - t.wOpen % Config.countsPerRev) % Config.countsPerRev

/-- The angle a name stands for (R8). -/
def angleOf (t : TimingSection) : AngleName → Nat
  | .m => t.m | .h => t.h | .aArm => t.aArm | .tuOpen => t.tuOpen | .kOn => t.kOn | .tuClose => t.tuClose
  | .kOff => t.kOff | .d => t.d | .wOpen => t.wOpen

/-! ## TIMING (R8, R9) -/

/-- R9, step 1: every field clamped as R8 gives. -/
def clampTiming (t : TimingSection) : TimingSection :=
  { m := clamp 0 1023 t.m, h := clamp 0 1023 t.h, aArm := clamp 0 1023 t.aArm, tuOpen := clamp 0 1023 t.tuOpen,
    tuClose := clamp 0 1023 t.tuClose, kOn := clamp 0 1023 t.kOn, kOff := clamp 0 1023 t.kOff, d := clamp 0 1023 t.d,
    wOpen := clamp 0 1023 t.wOpen, tStill := clamp 10 100 t.tStill, dwellLimit := clamp 1 15 t.dwellLimit,
    armTimeout := clamp 2 60 t.armTimeout }

/-- R9, step 2: the seven orders. -/
def timingOrdered (t : TimingSection) : Bool :=
  decide (t.m + Config.guardG ≤ t.h ∧ t.h < t.aArm ∧ (t.aArm < t.tuOpen ∧ t.tuOpen < t.tuClose ∧ t.tuClose + Config.guardG ≤ t.d)
    ∧ (t.aArm ≤ t.kOn ∧ t.kOn < t.kOff ∧ t.kOff ≤ t.d) ∧ t.d + Config.guardG ≤ t.wOpen ∧ 33 ≤ t.aArm ∧ t.wOpen ≤ 991)

/-- R9: the section to hold, or ORDER or RANGE. -/
def checkTiming (raw : TimingSection) : Except RefusalReason TimingSection :=
  let t := clampTiming raw
  if !timingOrdered t then .error .order
  else if moveWindow t < 256 ∨ 768 < moveWindow t then .error .range
  else .ok t

/-! ## MOTION (R28) -/

/-- R28: every field clamped; the park position after the field, N_trim and N_caution after N_top, N_halt and W. -/
def clampMotion (m : MotionSection) : MotionSection :=
  let xMax := clamp 1000 32000 m.xMax
  let yMax := clamp 1000 32000 m.yMax
  let nTop := clamp 200 1500 m.nTop
  let nHalt := clamp 30 200 m.nHalt
  let rampDown := clamp 20 300 m.rampDown
  let top := min nTop (nHalt + 16 * rampDown)
  { accel := clamp 100 4000 m.accel, topSpeed := clamp 4 80 m.topSpeed, settle := clamp 0 10000 m.settle, xMax := xMax,
    yMax := yMax, parkX := clamp 0 xMax m.parkX, parkY := clamp 0 yMax m.parkY, nTop := nTop, nHalt := nHalt,
    nTrim := clamp nHalt top m.nTrim, nCaution := clamp nHalt top m.nCaution, rampUp := clamp 10 200 m.rampUp,
    rampDown := rampDown, retention := clamp 2 64 m.retention }

/-! ## THREAD (R29) -/

/-- R29: the numeric fields clamped. -/
def clampThread (t : ThreadSection) : ThreadSection :=
  { dryLimit := clamp 1 7 t.dryLimit, suppression := clamp 0 7 t.suppression, tLoF := clamp 0 1023 t.tLoF,
    tLoC := clamp 0 1023 t.tLoC, tHiC := clamp 0 1023 t.tHiC, tHiF := clamp 0 1023 t.tHiF, withdraw := t.withdraw,
    stepTimeout := clamp 100 1000 t.stepTimeout, settleTime := clamp 0 200 t.settleTime, pause := t.pause }

/-- R29: the section to hold, or FORMAT for a policy or pause outside its two values, or ORDER for the tension limits.
FORMAT, which stands in the range table, is judged first (DESIGN CHOICE, log entry 9). -/
def checkThread (policy pause : Nat) (raw : ThreadSection) : Except RefusalReason ThreadSection :=
  let t := clampThread raw
  if 1 < policy ∨ 1 < pause then .error .format
  else if t.tLoF < t.tLoC ∧ t.tLoC < t.tHiC ∧ t.tHiC < t.tHiF then .ok t
  else .error .order

/-! ## ROSTER (R27) -/

/-- The roster conditions of R27 for a station of the given address and straps. -/
def rosterFits (addr : Nat) (head frame : Bool) (es : List RosterEntry) : Bool :=
  es.all (fun e => decide (1 ≤ e.addr ∧ e.addr ≤ 31)) &&
  decide (es.map (·.addr)).Nodup &&
  es.all (fun e => e.head || e.frame) &&
  decide ((es.filter (·.frame)).length = 1) &&
  decide ((es.filter (·.head)).length ≤ 30) &&
  es.any (fun e => e.addr == addr) &&
  es.all (fun e => e.addr != addr || (e.head == head && e.frame == frame))

/-- R27: the roster to hold, or FORMAT for an entry count outside 1..31, or ROSTER. A count outside 1..31 that fits its length is
judged here, by the owner, after the checks of R44 (DESIGN CHOICE, log entry 41). -/
def checkRoster (addr : Nat) (head frame : Bool) (es : List RosterEntry) : Except RefusalReason (List RosterEntry) :=
  if es.length < 1 ∨ 31 < es.length then .error .format
  else if rosterFits addr head frame es then .ok es
  else .error .roster

/-! ## Design header and pages (R57, R61) -/

/-- R57: the header to hold, its scale clamped, or FORMAT. -/
def checkHeader (raw : Header) : Except RefusalReason Header :=
  let h := { raw with scale := clamp 50 200 raw.scale }
  if 1 ≤ h.stitches ∧ h.stitches ≤ Config.maxStitches ∧ h.pages = ceilDiv h.stitches Config.pageRecords ∧
      h.colourStops ≤ 4095 ∧ h.xmin ≤ h.xmax ∧ h.ymin ≤ h.ymax ∧ 1 ≤ h.firstSlot ∧ h.firstSlot ≤ Config.colourSlots then .ok h
  else .error .format

/-- The record count that page `k` must have (R61): 12, or what is left on the last page. -/
def pageSize (h : Header) (k : Nat) : Nat :=
  if k + 1 = h.pages then h.stitches - Config.pageRecords * (h.pages - 1) else Config.pageRecords

/-- R61, one record: its displacement and aux by its kind. -/
def recordFits (r : StitchRecord) : Bool :=
  match r.kind with
  | .sew => decide (r.dx ≠ -128 ∧ r.dy ≠ -128)
  | .jump => decide (r.dx ≠ -128 ∧ r.dy ≠ -128)
  | .trim => decide (r.dx = 0 ∧ r.dy = 0)
  | .colorStop => decide (r.dx = 0 ∧ r.dy = 0 ∧ 1 ≤ r.aux ∧ r.aux ≤ Config.colourSlots)
  | .endRecord => decide (r.dx = 0 ∧ r.dy = 0)

/-- R61: whether the records of page `k` fit the header: their count, each record, and END as the last record of the
last page and nowhere else. -/
def pageFits (h : Header) (k : Nat) (rs : List StitchRecord) : Bool :=
  decide (rs.length = pageSize h k) && rs.all recordFits &&
  rs.dropLast.all (fun r => r.kind != .endRecord) &&
  decide ((rs.getLast?.map (·.kind) = some .endRecord) ↔ k + 1 = h.pages)

end Sys2Proof.Machine
end

