-- ==== Sys2Proof/Machine/Pages.lean ====
section
/-! DEFINITION. Machine/Pages.lean: the Page Store's reads and movements (4.3 to 4.5). -/

namespace Sys2Proof.Machine

/-! ## Reads (R63, R74) -/

/-- The page that holds stitch `n`, for `n` of at least 1 (R63). -/
def pageOfStitch (n : Nat) : Nat := (n - 1) / Config.pageRecords

/-- Record `n` of the store, from the collection that holds it; `none` for stitch 0 and for a stitch not held (R74). -/
def PageStore.read (g : PageStore) (n : Nat) : Option StitchRecord :=
  if n = 0 then none
  else
    match (g.current.toList ++ (g.posted ++ g.retained)).find? (fun p => p.number == pageOfStitch n) with
    | some p => p.records[(n - 1) % Config.pageRecords]?
    | none => none

/-- Whether stitch `n` is held (R63). -/
def PageStore.held (g : PageStore) (n : Nat) : Bool := (g.read n).isSome

/-- The last stitch of a page. -/
def Page.lastStitch (p : Page) : Nat := Config.pageRecords * p.number + p.records.length

/-- The highest held stitch h (R63). -/
def PageStore.highest (g : PageStore) : Nat :=
  match (g.current.toList ++ g.posted).getLast? with
  | some p => p.lastStitch
  | none => 0

/-- The lowest reachable stitch (R63). -/
def PageStore.lowest (g : PageStore) : Nat :=
  match g.current with
  | none => 0
  | some c =>
    let k := (g.retained.head?.getD c).number
    if k = 0 then 0 else Config.pageRecords * k + 1

/-- Whether the `len` records from stitch `n` on are all held. -/
def PageStore.heldFrom (g : PageStore) (n : Nat) : Nat → Bool
  | 0 => true
  | len + 1 => g.held n && PageStore.heldFrom g (n + 1) len

/-- Held ahead, row 9 of R11: records r + 2 to min(r + 16, S). -/
def PageStore.lookAheadHeld (g : PageStore) (r : Nat) : Bool :=
  let last := match g.header with
    | some h => min (r + Config.lookAhead) h.stitches
    | none => 0
  g.heldFrom (r + 2) (last - (r + 1))

/-- The stitch numbers and records of a page, in order. -/
def Page.numbered (p : Page) : List (Nat × StitchRecord) :=
  p.records.zipIdx.map (fun e => (Config.pageRecords * p.number + 1 + e.2, e.1))

/-- The first COLOR_STOP or END record above `r` among the records held ahead, if one is held (R83). -/
def PageStore.firstStop (g : PageStore) (r : Nat) : Option Nat :=
  (((g.current.toList ++ g.posted).flatMap Page.numbered).find?
    (fun e => decide (r < e.1 ∧ (e.2.kind = .colorStop ∨ e.2.kind = .endRecord)))).map (·.1)

/-- The sum of the displacements of the `len` records after stitch `n`; a record that is not held adds nothing. -/
def PageStore.displacement (g : PageStore) (n : Nat) : Nat → Int × Int
  | 0 => (0, 0)
  | len + 1 =>
    let rest := PageStore.displacement g (n + 1) len
    match g.read (n + 1) with
    | some r => (r.dx + rest.1, r.dy + rest.2)
    | none => rest

/-! ## Movements (R62, R68 to R73) -/

/-- Retention (R72): a retained list longer than the depth returns its oldest page's slot to the tail of the free list. -/
def PageStore.retain (depth : Nat) (g : PageStore) : PageStore :=
  if depth < g.retained.length then
    match g.retained with
    | [] => g
    | p :: ps => { g with retained := ps, free := g.free ++ [p.slot] }
  else g

/-- A forward crossing (R71) with the retention of R72. -/
def PageStore.crossForward (depth : Nat) (g : PageStore) : PageStore :=
  match g.posted with
  | [] => g
  | p :: ps => PageStore.retain depth { g with retained := g.retained ++ g.current.toList, current := some p, posted := ps }

/-- A backward crossing (R73). -/
def PageStore.crossBackward (g : PageStore) : PageStore :=
  match g.current with
  | none => g
  | some p => { g with posted := p :: g.posted, current := g.retained.getLast?, retained := g.retained.dropLast }

/-- Pages up to and with the one that holds stitch `r`; none at stitch 0. -/
def pagesBelow (r : Nat) : Nat := if r = 0 then 0 else pageOfStitch r + 1

/-- A number of crossings, one after another (R70). -/
def PageStore.crossTimes (f : PageStore → PageStore) : Nat → PageStore → PageStore
  | 0, g => g
  | n + 1, g => PageStore.crossTimes f n (f g)

/-- R70: the crossings of a change of the stitch number from `old` to `new`. -/
def PageStore.moveTo (depth old new : Nat) (g : PageStore) : PageStore :=
  PageStore.crossTimes PageStore.crossBackward (pagesBelow old - pagesBelow new)
    (PageStore.crossTimes (PageStore.crossForward depth) (pagesBelow new - pagesBelow old) g)

/-- The acceptance of a page (R68): the slot at the head of the free list, the tail of the posted queue. -/
def PageStore.accept (k : Nat) (rs : List StitchRecord) (g : PageStore) : PageStore :=
  match g.free with
  | [] => g
  | slot :: rest =>
    { g with free := rest, posted := g.posted ++ [{ slot := slot, number := k, records := rs }], nextWanted := k + 1, gap := false }

/-- R58: the store of a newly opened design. -/
def PageStore.opened (h : Header) : PageStore := { PageStore.empty with header := some h }

/-- The page slots in the four collections, counted (R62). -/
def PageStore.slotCount (g : PageStore) : Nat :=
  g.free.length + g.posted.length + g.current.toList.length + g.retained.length

end Sys2Proof.Machine
end

