-- ==== Sys2Proof/Machine/Motion.lean ====
section
/-! DEFINITION. Machine/Motion.lean: the transform and the field (6.2, 6.3), the move times (7.3), the ceilings (7.4) and the
demand (7.5). -/

namespace Sys2Proof.Machine

/-! ## Transform and field (R92 to R94) -/

/-- R92, step 3: one coordinate scaled to steps, rounded to the nearest, the sign applied after rounding. -/
def scaleCoord (scale : Nat) (u : Int) : Int :=
  if u < 0 then -(((u.natAbs * scale + 12) / 25 : Nat) : Int)
  else if u = 0 then 0
  else (((u.natAbs * scale + 12) / 25 : Nat) : Int)

/-- R92: the step offset of a design position. -/
def transform (h : Header) (px py : Int) : Int × Int :=
  let u := if h.exchange then py else px
  let v := if h.exchange then px else py
  let u := if h.mirrorX then -u else u
  let v := if h.mirrorY then -v else v
  (scaleCoord h.scale u, scaleCoord h.scale v)

/-- R93: the target of a design position: the origin plus its offset; the origin while no design is open. -/
def targetOfPos (s : Station) (px py : Int) : Int × Int :=
  match s.pgs.header with
  | some h => (s.pnc.originX + (transform h px py).1, s.pnc.originY + (transform h px py).2)
  | none => (s.pnc.originX, s.pnc.originY)

/-- R93: the target of the present stitch number; the origin at stitch 0. -/
def presentTarget (s : Station) : Int × Int :=
  if s.ssq.stitch = 0 then (s.pnc.originX, s.pnc.originY) else targetOfPos s s.ssq.px s.ssq.py

/-- The first axis on which a position lies outside the field, if any (R94, R95). -/
def outsideField (s : Station) (t : Int × Int) : Option Axis :=
  if t.1 < 0 ∨ ((motion s).xMax : Int) < t.1 then some .x
  else if t.2 < 0 ∨ ((motion s).yMax : Int) < t.2 then some .y
  else none

/-- The four corners of the extents as targets, in the order of R96 and R107. -/
def cornerTargets (s : Station) (h : Header) : List (Int × Int) :=
  [targetOfPos s h.xmin h.ymin, targetOfPos s h.xmax h.ymin, targetOfPos s h.xmax h.ymax, targetOfPos s h.xmin h.ymax]

/-- Whether a corner of the extents lies outside the field (R102, row 6). -/
def cornersOutside (s : Station) : Bool :=
  match s.pgs.header with
  | some h => (cornerTargets s h).any (fun t => (outsideField s t).isSome)
  | none => false

/-- R96, row 7 of R31: at stitch 0 with a design open, a corner or the origin outside the field. -/
def extentsOutside (s : Station) : Bool :=
  decide (s.ssq.stitch = 0) && s.pgs.header.isSome &&
    (cornersOutside s || (outsideField s (s.pnc.originX, s.pnc.originY)).isSome)

/-- R95: the next-target finding as it ought to stand. -/
def findingNow (s : Station) : Option Axis :=
  match s.pgs.read (s.ssq.stitch + 1) with
  | some r => outsideField s (targetOfPos s (s.ssq.px + r.dx) (s.ssq.py + r.dy))
  | none => none

/-! ## Move time (R112, R113) -/

/-- R112: the move time of an axis over `d` steps at acceleration `a` and top speed `v`, in microseconds. -/
def axisTime (a v d : Nat) : Nat :=
  if d = 0 then 0
  else if d * a ≤ v * v * 1000 then 2 * isqrt (d * 1000000000 / a)
  else ceilDiv (d * 1000) v + ceilDiv (v * 1000000) a

/-- R113: the required time of a move with the given step displacements. -/
def moveTime (m : MotionSection) (ex ey : Int) : Nat :=
  if ex = 0 ∧ ey = 0 then 0
  else max (axisTime m.accel m.topSpeed ex.natAbs) (axisTime m.accel m.topSpeed ey.natAbs) + m.settle

/-- R99: the axis whose own move time is the longer, X when they are equal. -/
def longerAxis (m : MotionSection) (ex ey : Int) : Axis :=
  if axisTime m.accel m.topSpeed ex.natAbs < axisTime m.accel m.topSpeed ey.natAbs then .y else .x

/-! ## Ceilings (R114 to R116) -/

/-- R114: the geometric ceiling of a stitch whose move takes `treq`. -/
def geoCeiling (t : TimingSection) (m : MotionSection) (treq : Nat) : Nat :=
  if treq = 0 then nTopE m else 60000000 * moveWindow t / (1024 * treq)

/-- R116: the kind ceiling. -/
def kindCeiling (m : MotionSection) : StitchKind → Nat
  | .sew => nTopE m | .jump => nTopE m | .trim => m.nTrim | .colorStop => m.nHalt | .endRecord => m.nHalt

/-- R116: the ceiling of a stitch. -/
def stitchCeiling (t : TimingSection) (m : MotionSection) (nHead : Nat) (kind : StitchKind) (treq : Nat) : Nat :=
  max m.nHalt (min (kindCeiling m kind) (min (geoCeiling t m treq) nHead))

/-- R147: the ceiling a head publishes. -/
def publishedCeiling (s : Station) : Nat :=
  if s.thm.tension = .caution then (motion s).nCaution else nTopE (motion s)

/-- R115: the ceilings of the roster heads taken: heard, not lost, ACTIVE in the last Status, and the station's own if it
is an ACTIVE head. -/
def headCeilings (s : Station) : List Nat :=
  (s.prt.filterMap (fun e =>
    match e.last with
    | some i =>
      match i.head with
      | some h => if e.head && e.heard && !e.lost && h.activity == .active then some h.ceiling else none
      | none => none
    | none => none)) ++
  (if s.stc.headRole && s.stc.activity == .active then [publishedCeiling s] else [])

/-- R115: N_head, the least of the ceilings taken, or N_topE. -/
def nHead (s : Station) : Nat :=
  match headCeilings s with
  | [] => nTopE (motion s)
  | c :: cs => cs.foldl min c

/-! ## Demand (R117, R118) -/

/-- The look-ahead terms C(n + j) + j W of R117 for the `len` stitches from stitch `n` on, `px`, `py` the design
position of stitch `n - 1` and `j` the revolutions until stitch `n` is sewn. A stitch beyond S is omitted; one within
1..S whose record is not held has ceiling N_halt (R116). -/
def lookTerms (s : Station) (total : Nat) (px py : Int) (n j : Nat) : Nat → List Nat
  | 0 => []
  | len + 1 =>
    if total < n then []
    else match s.pgs.read n with
      | none => ((motion s).nHalt + j * (motion s).rampDown) :: lookTerms s total px py (n + 1) (j + 1) len
      | some r =>
        let a := targetOfPos s px py
        let b := targetOfPos s (px + r.dx) (py + r.dy)
        let c := stitchCeiling (timing s) (motion s) (nHead s) r.kind (moveTime (motion s) (b.1 - a.1) (b.2 - a.2))
        (c + j * (motion s).rampDown) :: lookTerms s total (px + r.dx) (py + r.dy) (n + 1) (j + 1) len

/-- The demand of a revolution from the standing demand and the look-ahead terms (R117): the least term bounds it. -/
def demandFrom (m : MotionSection) (standing : Nat) (terms : List Nat) : Nat :=
  clamp m.nHalt (nTopE m) (terms.foldl min (standing + m.rampUp))

/-- R117: the demand for the revolution that sews the present stitch `r + 1`, taken at its commit; `px`, `py` are the
design position of the stitch before it. -/
def demandAtCommit (s : Station) (px py : Int) : Nat :=
  match s.pgs.header with
  | some h => demandFrom (motion s) s.sgv.demand (lookTerms s h.stitches px py s.ssq.stitch 0 Config.lookAhead)
  | none => (motion s).nHalt

/-- R118: the demand after a dwell in RUN. -/
def demandAtDwell (s : Station) : Nat := max (motion s).nHalt (s.sgv.demand - (motion s).rampDown)

/-- R170: the duty of SHAFT_DEMAND in 1024ths of its period. -/
def demandDuty (demand : Nat) : Nat := demand * 1024 / 1500

end Sys2Proof.Machine
end

