-- ==== Sys2Proof/Machine/Flags.lean ====
section
/-! DEFINITION. Machine/Flags.lean: what the station's items say together: needles, readiness and hold reason (R11), the wanted
level and the guards (R12, R13), the acceptance table (R45), the items of Status (R49) and the output pins (12.1). -/

namespace Sys2Proof.Machine

/-! ## Needles (8.1, R127, R129) -/

/-- The position reading; a code above 12 reads as 0 (R170). -/
def positionReading (s : Station) : Nat := if s.pins.caseCode ≤ Config.needles then s.pins.caseCode else 0

/-- The current needle: the position reading while the latch is engaged, 0 otherwise (R129). -/
def currentNeedle (s : Station) : Nat := if s.pins.caseLatch then positionReading s else 0

/-- The wanted needle: the map's entry for the colour slot in force, 0 at slot 0 (R127). -/
def wantedNeedle (s : Station) : Nat := if s.ssq.slot = 0 then 0 else s.ncc.map.getD (s.ssq.slot - 1) 0

/-- Whether a needle is in service (9.1); needle 0 is none. -/
def inService (s : Station) (n : Nat) : Bool := decide (n ≠ 0) && s.thm.service.getD (n - 1) false

/-- The head may penetrate as far as its case and needle go (R152): settled on a wanted needle that is in service, not
stopped. -/
def needleFit (s : Station) : Bool :=
  s.ncc.settled && decide (wantedNeedle s ≠ 0) && decide (s.ncc.stopped = .none) && inService s (wantedNeedle s)

/-- The service mask of Status: bit n - 1 set while needle n is in service (R172). -/
def serviceMask : List Bool → Nat
  | [] => 0
  | b :: bs => b.toNat + 2 * serviceMask bs

/-! ## Roles and rest -/

/-- Head rows 2 and 4 to 8 of R11 are left out for a DESELECTED or WITHDRAWN head. -/
def headSitsOut (s : Station) : Bool := s.stc.headRole && decide (s.stc.activity ≠ .active)

/-- At rest on top (R5). -/
def restOnTop (s : Station) : Bool := s.sht.atRest && s.sht.onTop

/-- An angle of the rest zone 992..1023 or 0..32 (R5). -/
def inRestZone (a : Nat) : Bool := decide (a ≤ Config.restZone ∨ Config.countsPerRev - Config.restZone ≤ a)

/-- An angle of the index window 1021..2 (R2). -/
def inIndexWindow (a : Nat) : Bool := decide (a ≤ 2 ∨ 1021 ≤ a)

/-- The last move is complete (row 11 of R11): none in progress, none committed and not yet started (log entry 20). -/
def movesComplete (s : Station) : Bool := s.pnc.move.isNone && s.pnc.pending.isNone && s.pnc.waiting.isNone

/-- The stitch number equals S. -/
def atDesignEnd (s : Station) : Bool :=
  match s.pgs.header with
  | some h => decide (s.ssq.stitch = h.stitches)
  | none => false

/-! ## Readiness (R11) -/

/-- The kinds of a head fault (R161). -/
def FaultKind.ofHead : FaultKind → Bool
  | .threadBreak | .tensionLow | .tensionHigh | .caseJam | .caseLost | .noNeedle | .needleOut => true
  | .strap | .joinTimeout | .addressClash | .peerLost | .indexMismatch | .dwellLimit | .veto | .encoder | .shaftPosition
  | .drive | .moveLate | .field | .homeFail => false

/-- R161: a station of both roles sews on, in ARMED and RUN, without its own WITHDRAWN head, its list holding the records of head
faults alone (log entry 10). -/
def sewsOnWithdrawn (s : Station) : Bool :=
  decide (s.stc.activity = .withdrawn) && decide (s.stc.state = .armed ∨ s.stc.state = .run) &&
  s.stc.faults.all (fun fr => fr.kind.ofHead)

/-- Row 2 of R11: the fault list holds the station back, on every station but a head-only one whose head sits out (R168) and one of
both roles that sews on without its head (R161; log entry 10). -/
def faultsHold (s : Station) : Bool :=
  !s.stc.faults.isEmpty && !(headSitsOut s && (!s.stc.frameRole || sewsOnWithdrawn s))

/-- The hold reason: the first row of R11 whose condition fails. Row 7 holds for as long as the case moves, a step in progress
on a settled head included (R134, R137; DEDUCED, log entry 54). -/
def holdReason (s : Station) : HoldReason :=
  let sits := headSitsOut s
  let headActs := s.stc.headRole && !sits
  let r := s.ssq.stitch
  if s.stc.state = .halting then .halting
  else if faultsHold s then .faulted
  else if s.ssq.walk.isSome then .walking
  else if headActs && decide (s.ncc.stopped ≠ .none) then .caseFault
  else if headActs && decide (wantedNeedle s = 0) then .noNeedle
  else if headActs && !inService s (wantedNeedle s) then .needleOut
  else if headActs && (!s.ncc.settled || s.ncc.step.isSome) then .needleMoving
  else if (!sits || s.stc.frameRole) && (!s.pgs.held (r + 1) || atDesignEnd s) then .underrun
  else if s.stc.frameRole && !s.pgs.lookAheadHeld r then .lookahead
  else if s.stc.frameRole && s.pnc.finding.isSome then .field
  else if s.stc.frameRole && (!movesComplete s || s.sgv.reposition.isSome) then .moveIncomplete
  else if decide (s.stc.state = .armed) && !restOnTop s then .offTop
  else .none

/-- The station is ready (R11). -/
def ready (s : Station) : Bool := decide (holdReason s = .none)

/-- R137: a HALTED ACTIVE head whose case is stopped, with the record that explains it in its fault list. -/
def caseExplains (s : Station) : Bool :=
  s.stc.headRole && !headSitsOut s && decide (s.stc.state = .halted ∧ s.ncc.stopped ≠ .none ∧ s.stc.faults ≠ [])

/-- The hold reason that the station shows in its Status: the one of R11, but CASE_FAULT in place of FAULTED where R137 has a HALTED
head show it (DEDUCED, log entry 44). -/
def shownHold (s : Station) : HoldReason :=
  if holdReason s = .faulted ∧ caseExplains s = true then .caseFault else holdReason s

/-! ## Wanted level and guards (R10, R12, R13) -/

/-- The wanted level by R10 and R12. In HALTING it is low, but for the span after the commit of a planned stop, which
ends at the next A_arm (R16). -/
def wantedLevel (s : Station) : Pull :=
  match s.stc.state with
  | .armed => if ready s then .released else .low
  | .run =>
    if s.gtu.commitSpan then (if s.gtu.vetoReq.isSome then .low else .released)
    else if ready s then .released else .low
  | .halting => if s.gtu.commitSpan && s.gtu.vetoReq.isNone then .released else .low
  | .joining => .low
  | .ready => .low
  | .halted => .low
  | .done => .low

/-- The D event of this revolution is still to come, so a guard before it can close (R13; log entry 12). -/
def sampleAhead (s : Station) : Bool := s.sht.synced && !s.sht.raised.contains .d

/-- Release guard [D - G, D) (R13). -/
def inReleaseGuard (s : Station) : Bool :=
  sampleAhead s && decide ((timing s).d ≤ s.sht.angle + Config.guardG ∧ s.sht.angle < (timing s).d)

/-- Pull-low guard (D - G, D) (R13). -/
def inPullLowGuard (s : Station) : Bool :=
  sampleAhead s && decide ((timing s).d < s.sht.angle + Config.guardG ∧ s.sht.angle < (timing s).d)

/-- Veto guard (H - G, H), after a commit (R13). -/
def inVetoGuard (s : Station) : Bool :=
  s.sht.synced && s.gtu.committed && decide ((timing s).h < s.sht.angle + Config.guardG ∧ s.sht.angle < (timing s).h)

/-- The guards act on a station in RUN, and on one entering HALTING from RUN (R13). -/
def guardsAct (s : Station) : Bool := decide (s.stc.state = .run ∨ s.stc.state = .halting)

/-- The guard in which a change of the wanted level to `w` arises at the present angle, if it arises in one (R13). -/
def guardOf (w : Pull) (s : Station) : Option Guard :=
  if !guardsAct s then none
  else match w with
    | .released => if inReleaseGuard s then some .d else none
    | .low => if inPullLowGuard s then some .d else if inVetoGuard s then some .h else none

/-- A guard that a change waits in is still open: its D event, or the H sample after the commit, is still to come, wherever
the angle has gone meanwhile (R13; log entry 12). -/
def guardOpen (s : Station) : Guard → Bool
  | .d => guardsAct s && sampleAhead s
  | .h => guardsAct s && (s.sht.synced && s.gtu.committed)

/-! ## Acceptance of console notices (R44, R45) -/

/-- The outcomes of the acceptance table: A, N, C, S, I (R45). -/
inductive Acceptance where
  | accepted | noEffect | checked | refusedState | ignored
  deriving DecidableEq, Repr

/-- The acceptance table of R45 for an unlocked station. -/
def acceptTable (designOpen : Bool) : NoticeKind → StationState → Acceptance
  | .stop, st => match st with
    | .joining => .noEffect | .ready => .noEffect
    | .armed => .accepted | .run => .accepted | .halting => .accepted | .halted => .accepted | .done => .accepted
  | .stationReset, _ => .accepted
  | .start, st => match st with
    | .joining => .refusedState | .halting => .refusedState | .armed => .noEffect | .run => .noEffect
    | .ready => .checked | .halted => .checked | .done => .checked
  | .back, st => match st with
    | .halted => .checked | .done => .checked
    | .joining => .refusedState | .ready => .refusedState | .armed => .refusedState | .run => .refusedState
    | .halting => .refusedState
  | .forward, st => match st with
    | .halted => .checked
    | .joining => .refusedState | .ready => .refusedState | .armed => .refusedState | .run => .refusedState
    | .halting => .refusedState | .done => .refusedState
  | .headSelect, st => atRestOnly .accepted st
  | .faultClear, st => match st with
    | .joining => .accepted | .ready => .accepted | .halted => .accepted | .done => .accepted
    | .armed => .refusedState | .run => .refusedState | .halting => .refusedState
  | .pantographGo, st => atRestOnly .checked st
  | .needleMap, st => atRestOnly .accepted st
  | .configure, st => if st = .joining then .checked else .refusedState
  | .designOpen, st => atRestOnly .accepted st
  | .designPage, st => match st with
    | .joining => .ignored | .done => .ignored
    | .ready => if designOpen then .checked else .ignored
    | .armed => .checked | .run => .checked | .halting => .checked | .halted => .checked
  | .status, _ => .ignored
where
  /-- Taken in READY, HALTED and DONE, refused with STATE in the others. -/
  atRestOnly (a : Acceptance) : StationState → Acceptance
    | .ready => a | .halted => a | .done => a
    | .joining => .refusedState | .armed => .refusedState | .run => .refusedState | .halting => .refusedState

/-- R45 with the three changes for a locked station. -/
def acceptance (s : Station) (kind : NoticeKind) : Acceptance :=
  if s.stc.lock = .none then acceptTable s.pgs.header.isSome kind s.stc.state
  else match kind with
    | .stationReset => .ignored
    | .configure => .refusedState
    | .faultClear => .refusedState
    | k => acceptTable s.pgs.header.isSome k s.stc.state

/-- R44, check 4: the kinds that are broadcast only. -/
def broadcastOnly : NoticeKind → Bool
  | .stop => true | .start => true | .back => true | .forward => true | .designOpen => true | .designPage => true
  | .needleMap => true
  | .stationReset => false | .headSelect => false | .faultClear => false | .pantographGo => false | .configure => false
  | .status => false

/-- R44, check 2: the role a kind needs. -/
def roleFits (s : Station) : NoticeKind → Bool
  | .pantographGo => s.stc.frameRole
  | .headSelect => s.stc.headRole
  | .needleMap => s.stc.headRole
  | .stop => true | .stationReset => true | .start => true | .back => true | .forward => true | .faultClear => true
  | .configure => true | .designOpen => true | .designPage => true | .status => true

/-- R43, R44: the notice is the console's and names this station, in its role: what fails here is ignored. -/
def noticeReaches (s : Station) (kind : NoticeKind) (src : Addr) (p : Payload) : Bool :=
  decide (src.toNat = 0 ∧ p ≠ [] ∧ (targetOf p = 0 ∨ targetOf p = s.stc.addr)) && roleFits s kind

/-- R44, checks 1 to 5: the notice is handed to its owner. -/
def noticeTaken (s : Station) (kind : NoticeKind) (lenOk : Bool) (src : Addr) (p : Payload) : Bool :=
  noticeReaches s kind src p && lenOk && (!broadcastOnly kind || decide (targetOf p = 0)) &&
  decide (acceptance s kind = .accepted ∨ acceptance s kind = .checked)

/-! ## Status (R47 to R49) -/

/-- The station sends no Status: locked by ADDRESS_CLASH, or by STRAP with a strapped address of 0 (R21, R24, R47). -/
def muted (s : Station) : Bool :=
  decide (s.stc.lock = .addressClash) || (decide (s.stc.lock = .strap) && decide (s.stc.addr = 0))

/-- The set of sections held, with the bits of 12.4. -/
def sectionsHeld (s : Station) : Nat :=
  flag s.stc.roster.isSome 0 + flag s.stc.timing.isSome 1 + flag s.stc.motion.isSome 2 + flag s.stc.thread.isSome 3

/-- All four sections are held (R26). -/
def allSectionsHeld (s : Station) : Bool :=
  s.stc.roster.isSome && s.stc.timing.isSome && s.stc.motion.isSome && s.stc.thread.isSome

/-- The items of this station's Status (R49). A station locked by STRAP shows neither role (R172). -/
def statusOf (s : Station) : StatusItems :=
  let showRoles := decide (s.stc.lock ≠ .strap)
  { state := s.stc.state, lock := s.stc.lock, ready := ready s, walking := s.ssq.walk.isSome, sections := sectionsHeld s,
    faultCount := s.stc.faults.length, overflow := s.stc.overflow, gap := s.pgs.gap, hold := shownHold s,
    dwellCount := s.gtu.dwellCount, stitch := s.ssq.stitch, atRest := s.sht.atRest, onTop := restOnTop s,
    report := s.ssq.report, freePages := s.pgs.free.length, nextWanted := s.pgs.nextWanted,
    head := if showRoles && s.stc.headRole then
        some { activity := s.stc.activity, tension := s.thm.tension, mark := s.hsc.mark, current := currentNeedle s,
               wanted := wantedNeedle s, service := serviceMask s.thm.service, filter := s.thm.filter,
               ceiling := publishedCeiling s }
      else none,
    frame := if showRoles && s.stc.frameRole then
        some { homed := s.pnc.homed, inPlace := s.pnc.inPlace, demand := s.sgv.demand }
      else none,
    halt := s.stc.haltReason,
    design := s.pgs.header.map (fun h => { ident := h.ident, stitches := h.stitches, colourStops := h.colourStops }),
    oldest := s.stc.faults.head?, refusal := s.stc.lastRefusal }

/-- The items whose change is a cause for sending Status (R48). -/
structure StatusCauses where
  state      : StationState
  lock       : Lock
  hold       : HoldReason
  shown      : HoldReason
  faultCount : Nat
  overflow   : Bool
  activity   : Activity
  tension    : TensionState
  walking    : Bool
  sections   : Nat
  refusal    : Option (NoticeKind × RefusalReason)
  atRest     : Bool
  onTop      : Bool
  deriving DecidableEq, Repr

/-- The cause items as they stand (R48). The published ceiling is among them with the tension state alone: a MOTION section replaced
in JOINING, the sections held the same set, is no cause of its own (log entry 49). A refusal is a cause of its own,
in `refuse`; its record is among the items for the resets, which clear it. -/
def statusCauses (s : Station) : StatusCauses :=
  { state := s.stc.state, lock := s.stc.lock, hold := holdReason s, shown := shownHold s, faultCount := s.stc.faults.length,
    overflow := s.stc.overflow, activity := s.stc.activity, tension := s.thm.tension, walking := s.ssq.walk.isSome,
    sections := sectionsHeld s, refusal := s.stc.lastRefusal, atRest := s.sht.atRest, onTop := restOnTop s }

/-! ## Heads counted (R162) -/

/-- The frame station counts no roster head as ACTIVE: none by its last Status, nor its own if it is one. -/
def noActiveHead (s : Station) : Bool :=
  !(s.prt.any (fun e => e.head &&
      (match e.last with
       | some i =>
         match i.head with
         | some h => decide (h.activity = .active)
         | none => false
       | none => false))) &&
  !(s.stc.headRole && decide (s.stc.activity = .active))

/-- A state of the at-rest comparison of R55. -/
def restState : StationState → Bool
  | .ready => true | .armed => true | .halted => true | .done => true
  | .joining => false | .run => false | .halting => false

/-! ## Output pins (12.1, R170) -/

/-- The output pins that carry a level. -/
structure OutPins where
  gateLow     : Bool
  shaftStop   : Bool
  demandDuty  : Nat
  hold        : Bool
  knife       : Bool
  caseDirUp   : Bool
  xDirAway    : Bool
  yDirAway    : Bool
  transmitting : Bool
  deriving DecidableEq, Repr

/-- Whether an axis is driven away from 0 (12.1): by its move, or by the back-off of a HOME. -/
def axisAway (s : Station) (a : Axis) : Bool :=
  match s.pnc.move with
  | some m => match a with
    | .x => decide (m.fromX < m.toX)
    | .y => decide (m.fromY < m.toY)
  | none => match s.pnc.go with
    | some (.home x y) => match a with
      | .x => decide (x = .backoff)
      | .y => decide (y = .backoff)
    | _ => false

/-- The output pins (7.1, R22, R170). -/
def outputs (s : Station) : OutPins :=
  { gateLow := decide (s.gtu.drive = .low), shaftStop := decide (s.sgv.mode ≠ .running),
    demandDuty := demandDuty s.sgv.demand, hold := s.hsc.holdEngaged, knife := s.hsc.knife, caseDirUp := s.ncc.dirUp,
    xDirAway := axisAway s .x, yDirAway := axisAway s .y, transmitting := s.sli.sending.isSome }

end Sys2Proof.Machine
end

