-- ==== Sys2Proof/Machine/Ops.lean ====
section
/-! DEFINITION. Machine/Ops.lean: the operations the commands share, in the order in which they call one another: fault records and
Status causes, the shaft governor's modes, hoop moves, the needle case, the thread monitor, the changes of the station
state (leaving ARMED, arming, halting, coming to rest), fault actions, and what closes every command. -/

namespace Sys2Proof.Machine

/-! ## Status causes, refusals, fault records -/

/-- A cause for sending Status (R47, R48): the slot becomes pending; a cause that arises while a Status is on the line
sets it pending again for a following notice; a muted station's slot stays empty. -/
def causeStatus (s : Station) : Station :=
  if muted s then s
  else if s.sli.sending.isSome then s.setSli { s.sli with causeAgain := true }
  else s.setSli { s.sli with slotPending := true }

/-- A refusal of a console notice: it replaces the last refusal (R46), and is a cause for sending Status (R48, R75), whatever the record
was (DEDUCED, log entry 50). -/
def refuse (kind : NoticeKind) (reason : RefusalReason) (s : Station) : Station :=
  causeStatus (s.setStc { s.stc with lastRefusal := some (kind, reason) })

/-- A fault record handed to the fault list (R164): appended, or lost to a full list, which sets the overflow flag. -/
def addRecord (fr : FaultRecord) (s : Station) : Station :=
  if s.stc.faults.length < Config.maxFaults then s.setStc { s.stc with faults := s.stc.faults ++ [fr] }
  else s.setStc { s.stc with overflow := true }

/-- The station comes to a state; a change of the state is a cause for sending Status (R48). -/
def enterState (st : StationState) (s : Station) : Station :=
  if s.stc.state = st then s else causeStatus (s.setStc { s.stc with state := st })

/-- The record of a kind that names no needle, at the present stitch number. -/
def plainRecord (kind : FaultKind) (value : Nat) (s : Station) : FaultRecord :=
  { kind := kind, stitch := s.ssq.stitch, needle := none, value := some value }

/-! ## Speed Governor: modes and re-positioning (7.5, 7.7) -/

/-- The mode STOPPED: SHAFT_STOP asserted, demand 0 (R119). -/
def governorStop (s : Station) : Station := s.setSgv { s.sgv with mode := .stopped, demand := 0, creepTimer := none }

/-- The mode STOPPED with any re-positioning ended (R119, R123). -/
def governorEnd (s : Station) : Station :=
  s.setSgv { s.sgv with mode := .stopped, demand := 0, creepTimer := none, reposition := none, attempts := 0 }

/-- A creep begins (R123). -/
def beginCreep (s : Station) : Station :=
  s.setSgv { s.sgv with mode := .creep, demand := (motion s).nHalt, reposition := some .creeping,
                        attempts := s.sgv.attempts + 1, creepTimer := some s.now, restAt := none }

/-- A re-positioning sequence begins, with the creep attempts at 0 (R122). -/
def beginSequence (s : Station) : Station := beginCreep (s.setSgv { s.sgv with attempts := 0 })

/-- What every beginning of a sequence needs: the frame role, the shaft at rest, DRIVE_READY high, no sequence (R122). -/
def sequenceFree (s : Station) : Bool :=
  s.stc.frameRole && s.sht.atRest && s.pins.driveReady && s.sgv.reposition.isNone

/-- A sequence begins if the shaft is at rest off top and nothing keeps it from beginning (R122); while position given up
is set, none does. -/
def tryReposition (s : Station) : Station :=
  if sequenceFree s && !restOnTop s && !s.sgv.givenUp then beginSequence s else s

/-! ## Pantograph: field, in-place, stitch moves (6.3, 6.4) -/

/-- R94: homed, and with it in-place, is cleared when the position lies outside the field in force. -/
def judgeField (s : Station) : Station :=
  if s.pnc.homed && (outsideField s (s.pnc.x, s.pnc.y)).isSome then
    s.setPnc { s.pnc with homed := false, inPlace := false }
  else s

/-- R101: in-place is set, unless homed is clear. -/
def setInPlace (s : Station) : Station := s.setPnc { s.pnc with inPlace := s.pnc.homed }

/-- R109: in-place judged against the origin. -/
def judgeInPlace (s : Station) : Station :=
  s.setPnc { s.pnc with inPlace :=
    s.pnc.homed && decide (s.pnc.x = s.pnc.originX) && decide (s.pnc.y = s.pnc.originY) }

/-- The position becomes the target of a move that has completed (R97). -/
def arrive (x y : Int) (s : Station) : Station := judgeField (s.setPnc { s.pnc with x := x, y := y, move := none })

/-- A move starts from the present position (R97). -/
def startMove (kind : MoveKind) (atWOpen : Bool) (t : MoveTarget) (s : Station) : Station :=
  let m : Move := { kind := kind, fromX := s.pnc.x, fromY := s.pnc.y, toX := t.x, toY := t.y, treq := t.treq,
                    started := s.now, atWOpen := atWOpen }
  s.setPnc { s.pnc with move := some m }

/-- The pending stitch move starts, if there is one and no move is in progress (R98). A move of no displacement
completes in the event that starts it (R97). -/
def startPending (atWOpen : Bool) (s : Station) : Station :=
  match s.pnc.move, s.pnc.pending with
  | none, some t =>
    let s := s.setPnc { s.pnc with pending := none, inPlace := false }
    if t.treq = 0 then setInPlace (arrive t.x t.y s) else startMove .stitch atWOpen t s
  | _, _ => s

/-! ## Head Stitch Control: decisions withdrawn (R155) -/

/-- The decision record is dropped and HOLD engaged (R155). -/
def dropDecision (s : Station) : Station := s.setHsc { s.hsc with decision := none, holdEngaged := true }

/-- A standing PENETRATE is changed to HOLD, and HOLD engaged (R155). -/
def withholdPenetration (s : Station) : Station :=
  match s.hsc.decision with
  | some d => if d.penetrate then s.setHsc { s.hsc with decision := some { d with penetrate := false }, holdEngaged := true } else s
  | none => s

/-- A standing PENETRATE of a head that has left ACTIVE, or whose case or needle is no longer fit, is withdrawn (R155). -/
def holdIfUnfit (s : Station) : Station :=
  if decide (s.stc.activity = .active) && needleFit s then s else withholdPenetration s

/-- KNIFE off and knife pending cleared (R157). -/
def knifeOff (s : Station) : Station := s.setHsc { s.hsc with knife := false, knifePending := false }

/-! ## Thread Monitor: suppression, needle change (R142, R143, R145) -/

/-- The open penetration is abandoned, without verdict or sample (R143). -/
def abandonPenetration (s : Station) : Station := s.setThm { s.thm with pen := none }

/-- A needle change (R142, R143, R145, R146). -/
def needleChange (s : Station) : Station :=
  s.setThm { s.thm with pen := none, suppression := (thread s).suppression, runStart := none, dryCount := 0,
                        restart := true, tension := .clear }

/-! ## Needle Case Controller: settling, stepping (8.2, 8.3) -/

/-- Settled is set; a needle other than the settled needle is a needle change (R135). -/
def completeSettle (s : Station) : Station :=
  let n := currentNeedle s
  let s' := s.setNcc { s.ncc with settled := true, settleTimer := none, settledNeedle := n }
  if n ≠ s.ncc.settledNeedle then needleChange s' else s'

/-- The case is latched on the wanted needle (R135). -/
def onWanted (s : Station) : Bool := decide (wantedNeedle s ≠ 0 ∧ currentNeedle s = wantedNeedle s)

/-- The settle judgement of R135, made at each event that may change the current or the wanted needle: the timer starts
when the case has become latched on the wanted needle, and is idle with settled clear when it is not. -/
def judgeSettle (s : Station) : Station :=
  if onWanted s then
    if s.ncc.settled || s.ncc.settleTimer.isSome then s
    else if (thread s).settleTime = 0 then completeSettle s
    else s.setNcc { s.ncc with settleTimer := some s.now }
  else s.setNcc { s.ncc with settleTimer := none, settled := false }

/-- What R134 does to the case when the station leaves ARMED or the head leaves ACTIVE: step waiting is cleared, and a step
whose timer stopped while it waited for a retry ends. -/
def caseLeaves (s : Station) : Station :=
  match s.ncc.step with
  | some st =>
    if st.timer.isNone then s.setNcc { s.ncc with stepWaiting := false, step := none, attempts := 0 }
    else s.setNcc { s.ncc with stepWaiting := false }
  | none => s.setNcc { s.ncc with stepWaiting := false }

/-- The conditions of R130 but for rest on top. -/
def stepDue (s : Station) : Bool :=
  s.stc.headRole && decide (s.stc.state = .armed) && decide (s.stc.activity = .active) && decide (s.ncc.stopped = .none) &&
  s.ncc.step.isNone && decide (wantedNeedle s ≠ 0) && inService s (wantedNeedle s) &&
  decide (currentNeedle s ≠ 0 ∧ currentNeedle s ≠ wantedNeedle s)

/-- A step begins if the conditions of R130 hold; if only rest on top is missing, it waits. -/
def tryStep (s : Station) : Station :=
  if stepDue s then
    if restOnTop s then
      let c := currentNeedle s
      let up := decide (c < wantedNeedle s)
      s.setNcc { s.ncc with step := some { fromNeedle := c, toNeedle := if up then c + 1 else c - 1, up := up, timer := some s.now },
                            attempts := 1, stepWaiting := false, dirUp := up, pulses := s.ncc.pulses + 1 }
    else s.setNcc { s.ncc with stepWaiting := true }
  else s

/-- The head leaves ACTIVE by its own fault (R161): WITHDRAWN, its case as R134 gives, a standing PENETRATE withheld. -/
def withdrawHead (s : Station) : Station :=
  withholdPenetration (caseLeaves (s.setStc { s.stc with activity := .withdrawn }))

/-! ## Station states: back from ARMED (R33) -/

/-- Entry to HALTED, with the re-positioning of R122. -/
def enterHalted (s : Station) : Station := tryReposition (enterState .halted s)

/-- R33: the station returns from ARMED to its former state. A sequence in progress goes on in HALTED and ends in READY
(R119, R123). -/
def returnToFormer (s : Station) : Station :=
  let former := s.stc.former
  let s := caseLeaves (s.setStc { s.stc with former := .none, armTimer := none })
  if former = .ready then governorEnd (enterState .ready s)
  else enterHalted (if s.sgv.reposition.isSome then s else governorStop s)

/-- A fault record written by a block of a station that has just entered ARMED (R37, R33). -/
def armedFault (fr : FaultRecord) (s : Station) : Station :=
  if s.stc.state = .armed then returnToFormer (addRecord fr s) else addRecord fr s

/-- R162 in ARMED: no head counted returns the station. -/
def armedHeadCheck (s : Station) : Station :=
  if s.stc.frameRole && noActiveHead s && decide (s.stc.state = .armed) then returnToFormer s else s

/-- A head fault of a station that has just entered ARMED, under the fault policy (R161). -/
def armedHeadFault (fr : FaultRecord) (s : Station) : Station :=
  if (thread s).withdraw then
    if s.stc.activity = .active then armedHeadCheck (withdrawHead (addRecord fr s)) else addRecord fr s
  else armedFault fr s

/-! ## Station states: arming (R32) -/

/-- The address of the lost roster peer with the lowest address, if any peer is lost (R53). -/
def lowestLost (s : Station) : Option Nat :=
  (s.prt.filter (·.lost)).foldl (fun m e => match m with
    | none => some e.addr
    | some a => some (min a e.addr)) none

/-- The Peer Table at an entry to ARMED (R53). -/
def armPeers (s : Station) : Station :=
  match lowestLost s with
  | some a => armedFault (plainRecord .peerLost a s) s
  | none => s

/-- The Needle Case Controller of an ACTIVE head at an entry to ARMED (R136, R130). -/
def armCase (s : Station) : Station :=
  if s.stc.headRole && decide (s.stc.activity = .active) then
    let s := s.setNcc { s.ncc with stopped := .none, stepWaiting := false }
    let w := wantedNeedle s
    if w = 0 then armedHeadFault (plainRecord .noNeedle s.ssq.slot s) s
    else if !inService s w then armedHeadFault { plainRecord .needleOut s.ssq.slot s with needle := some w } s
    else if s.ncc.step.isNone && decide (currentNeedle s = 0) then
      armedHeadFault (plainRecord .caseLost (positionReading s) s) s
    else tryStep s
  else s

/-- The record of a target outside the field (R95): stitch r + 1 and the axis. -/
def fieldRecord (a : Axis) (s : Station) : FaultRecord :=
  { kind := .field, stitch := s.ssq.stitch + 1, needle := none, value := some (axisCode a) }

/-- The Pantograph Controller at an entry to ARMED (R95): a finding already standing, deferred or not, is written; a deferred
FIELD whose finding has gone back to NONE writes none (DESIGN CHOICE, log entry 43). -/
def armField (s : Station) : Station :=
  match s.pnc.finding with
  | some a => armedFault (fieldRecord a s) (s.setPnc { s.pnc with deferred := false })
  | none => s

/-- The Speed Governor at an entry to ARMED (R120, R122). -/
def armDrive (s : Station) : Station :=
  if s.stc.frameRole && !s.pins.driveReady then armedFault (plainRecord .drive 0 s) s else tryReposition s

/-- One block's part of an entry to ARMED, taken only while the station is still in ARMED (DESIGN CHOICE, log entry 13). -/
def whileArmed (f : Station → Station) (s : Station) : Station := if s.stc.state = .armed then f s else s

/-- R32: entry to ARMED, handed to the Peer Table, the case, the pantograph, the governor and the check of R162 in turn. -/
def enterArmed (former : Former) (s : Station) : Station :=
  let s := enterState .armed (s.setStc { s.stc with former := former, haltReason := none, armTimer := some s.now })
  let s := s.setSgv { s.sgv with givenUp := false }
  let s := if s.sgv.reposition.isSome then s else governorStop s
  whileArmed armedHeadCheck (whileArmed armDrive (whileArmed armField (whileArmed armCase (whileArmed armPeers s))))

/-! ## Station states: halting and coming to rest (R34 to R36) -/

/-- A planned stop: the commit of a COLOR_STOP or END record (R34). -/
def HaltReason.planned : HaltReason → Bool
  | .colourStop => true
  | .endRecord => true
  | .fault _ => false
  | .stop => false
  | .peerHalt => false
  | .noActiveHead => false

/-- R36: the station leaves HALTING with the shaft at rest. No decision record stands from then on (R156; log entry 14). -/
def leaveHalting (s : Station) : Station :=
  let s := dropDecision s
  if atDesignEnd s then tryReposition (enterState .done s)
  else if decide (s.stc.haltReason = some .colourStop) && !(thread s).pause && s.stc.faults.isEmpty then enterArmed .halted s
  else enterHalted s

/-- R34: a station in RUN enters HALTING. A cause that is no planned stop, after a commit and before its H sample, is a veto
request (R12). With the shaft already at rest the station leaves HALTING at once (R36), and a pending stitch move
starts (R98). -/
def enterHalting (reason : HaltReason) (s : Station) : Station :=
  let veto := !reason.planned && s.gtu.committed
  let s := enterState .halting (s.setStc { s.stc with haltReason := some reason })
  let s := s.setGtu { s.gtu with stallTimer := none, commitSpan := reason.planned && s.gtu.commitSpan,
                                 vetoReq := if veto then s.gtu.vetoReq.or (some s.sht.angle) else s.gtu.vetoReq }
  let s := governorStop s
  if s.sht.atRest then leaveHalting (startPending false s) else s

/-- R34, R35, R37: a halt cause acts on the station state. -/
def haltCause (reason : HaltReason) (s : Station) : Station :=
  match s.stc.state with
  | .run => enterHalting reason s
  | .armed => returnToFormer s
  | .halting =>
    match s.stc.haltReason with
    | some old => if old.planned && !reason.planned then s.setStc { s.stc with haltReason := some reason } else s
    | none => s
  | .joining => s
  | .ready => s
  | .halted => s
  | .done => s

/-! ## Fault actions (R37, R161, R162) -/

/-- A fault record written by a block: recorded (R164), then acting on the station state (R37). -/
def fault (fr : FaultRecord) (s : Station) : Station := haltCause (.fault fr.kind) (addRecord fr s)

/-- R162: the frame station judges the count of ACTIVE heads. -/
def headCheck (s : Station) : Station :=
  if s.stc.frameRole && noActiveHead s then
    match s.stc.state with
    | .run => enterHalting .noActiveHead s
    | .armed => returnToFormer s
    | .joining => s
    | .ready => s
    | .halting => s
    | .halted => s
    | .done => s
  else s

/-- A head fault under the fault policy (R161). -/
def headFault (fr : FaultRecord) (s : Station) : Station :=
  if (thread s).withdraw then
    if s.stc.activity = .active then headCheck (withdrawHead (addRecord fr s)) else addRecord fr s
  else fault fr s

/-- A deferred FIELD record is written (R95); with no axis standing any more there is none to write, and the flag is cleared
(DESIGN CHOICE, log entry 43). -/
def writeDeferred (s : Station) : Station :=
  if s.pnc.deferred then
    match s.pnc.finding with
    | some a => fault (fieldRecord a s) (s.setPnc { s.pnc with deferred := false })
    | none => s.setPnc { s.pnc with deferred := false }
  else s

/-- R95: the next-target finding is formed again. From NONE to an axis it writes a FIELD record in ARMED and RUN, deferred to
the next H event in RUN after a commit. -/
def recomputeFinding (s : Station) : Station :=
  if s.stc.frameRole then
    let old := s.pnc.finding
    let new := findingNow s
    let s' := s.setPnc { s.pnc with finding := new }
    match old, new with
    | none, some a =>
      if s.stc.state = .run ∧ s.gtu.committed = true then s'.setPnc { s'.pnc with deferred := true }
      else if s.stc.state = .run ∨ s.stc.state = .armed then fault (fieldRecord a s') s'
      else s'
    | _, _ => s'
  else s

/-! ## Re-positioning decided at rest (R124, R125) -/

/-- R125: the second creep has ended off top. -/
def shaftPosition (s : Station) : Station :=
  let s := (governorEnd s).setSgv { (governorEnd s).sgv with givenUp := true }
  fault (plainRecord .shaftPosition (if s.sht.synced then s.sht.angle else 0) s) s

/-- R124: what follows a creep whose shaft rests off top. A second creep begins whatever DRIVE_READY is; a sequence that a fall
of DRIVE_READY has stopped goes on waiting while the input is low, and goes on at this rest where the input has risen meanwhile
(DESIGN CHOICE, log entry 57). -/
def creepOffTop (s : Station) : Station :=
  if s.sgv.reposition = some .awaitingDrive ∧ s.pins.driveReady = false then s
  else if 2 ≤ s.sgv.attempts then shaftPosition s
  else beginCreep s

/-- R124: a rest that ended a creep has begun the next one, if it did: an expiry at this same reading of the clock is the
ended creep's (log entry 47). -/
def markRest (s : Station) : Station :=
  if s.sgv.reposition = some .creeping then s.setSgv { s.sgv with restAt := some s.now } else s

/-- R124: the rest reached event of a sequence in progress. -/
def creepAtRest (s : Station) : Station :=
  if s.sgv.reposition.isSome then
    let creeping := decide (s.sgv.reposition = some .creeping)
    let s := governorStop s
    if restOnTop s then governorEnd s else if creeping then markRest (creepOffTop s) else creepOffTop s
  else s

/-! ## Rest commit (R18) -/

/-- HSC's verdict on stitch `n` with record `fr` (R152). -/
def verdict (s : Station) (n : Nat) (fr : Option StitchRecord) : Bool :=
  match fr with
  | some r => decide (s.stc.activity = .active) && decide (r.kind = .sew ∨ r.kind = .trim) && decide (s.hsc.mark < n) && needleFit s
  | none => false

/-- Whether a record is a TRIM. -/
def isTrim (fr : Option StitchRecord) : Bool :=
  match fr with
  | some r => decide (r.kind = .trim)
  | none => false

/-- R153: the decision of the lead revolution, HOLD set with it. -/
def decideLead (s : Station) : Station :=
  if s.stc.headRole then
    let fr := s.pgs.read s.ssq.stitch
    let v := verdict s s.ssq.stitch fr
    s.setHsc { s.hsc with decision := some { stitch := s.ssq.stitch, penetrate := v, trim := isTrim fr, lead := true },
                          holdEngaged := !v }
  else s

/-- The rest commit at the Thread Monitor of a head (R142, R145). -/
def restartThread (s : Station) : Station :=
  if s.stc.headRole then s.setThm { s.thm with suppression := (thread s).suppression, restart := true } else s

/-- No entry is mismatched at rest (R55). -/
def clearMismatches (s : Station) : Station := s.setPrt (s.prt.map (fun e => { e with mismatched := false }))

/-- R54 at the entry to RUN: a peer last seen in HALTING, of an entry that is not lost. -/
def peerHalting (s : Station) : Bool :=
  s.prt.any (fun e => !e.lost &&
    (match e.last with
     | some i => decide (i.state = .halting)
     | none => false))

/-- R54, made once at the entry to RUN. -/
def runPeerCheck (s : Station) : Station := if peerHalting s then enterHalting .peerHalt s else s

/-- The check of R162 at the entry to RUN, of a station still in RUN. -/
def runHeadCheck (s : Station) : Station := if s.stc.state = .run then headCheck s else s

/-- R18: the rest commit takes the station into RUN. The peers are judged (R54) before the count of ACTIVE heads (R162) (DESIGN CHOICE,
log entry 48). -/
def restCommit (s : Station) : Station :=
  let s := clearMismatches (enterState .run (s.setStc { s.stc with former := .none, armTimer := none }))
  let s := caseLeaves s
  let s := s.setGtu { s.gtu with dwellCount := 0, lead := true, committed := false, commitSpan := false, stallTimer := some s.now }
  let s := if s.stc.frameRole then s.setSgv { s.sgv with mode := .running, demand := (motion s).nHalt } else s
  runHeadCheck (runPeerCheck (restartThread (decideLead s)))

/-- R18: the rest commit is taken when the second of its two conditions arrives. -/
def tryRestCommit (s : Station) : Station :=
  if decide (s.stc.state = .armed) && s.gtu.seenHigh && restOnTop s then restCommit s else s

/-! ## Gate drive (R10, R12, R13) -/

/-- The drive goes low; a station whose drive is low sees the line low (R10). A veto request takes effect, at the present
angle, when the pull-low is driven (R17). -/
def pullLow (s : Station) : Station :=
  s.setGtu { s.gtu with drive := .low, seenHigh := false, waits := none, vetoReq := s.gtu.vetoReq.map (fun _ => s.sht.angle) }

/-- The drive takes a level. -/
def takeLevel (w : Pull) (s : Station) : Station :=
  match w with
  | .low => pullLow s
  | .released => s.setGtu { s.gtu with drive := .released, waits := none }

/-- R13: a change of the drive to `w` is due: one that arises in a guard waits for the guard to close, one that waits goes on
waiting while its guard is open, and any other is driven at once. -/
def changeDrive (w : Pull) (s : Station) : Station :=
  match s.gtu.waits with
  | some g => if guardOpen s g then s else takeLevel w s
  | none =>
    match guardOf w s with
    | some g => s.setGtu { s.gtu with waits := some g }
    | none => takeLevel w s

/-- The wanted level is formed and the drive takes it, but within the guards of R13; with the drive at the wanted level
nothing waits. -/
def driveGate (s : Station) : Station :=
  let w := wantedLevel s
  let s := s.setGtu { s.gtu with wanted := w }
  if s.gtu.drive = w then s.setGtu { s.gtu with waits := none } else changeDrive w s

/-! ## What closes every command -/

/-- A command's end: a PENETRATE that is no longer fit is withdrawn (R155), the gate takes the level it is due (R10 to R13),
and a change of an item of R48 is a cause for sending Status. -/
def finish (before after : Station) : Station :=
  let s := driveGate (holdIfUnfit after)
  if statusCauses before = statusCauses s then s else causeStatus s

/-- A command taken by a part that is not held in reset; while RESET_N is low the part acts on nothing (R22). -/
def taken (s : State) (f : Station → Station) : Host.Outcome State Fault Refusal :=
  .next { s with dev := if s.dev.resetLow then s.dev else finish s.dev (f s.dev) }

/-- A command that carries an input level: the level stands at the pin even while RESET_N is low. -/
def takenPin (s : State) (pins : Pins) (f : Station → Station) : Host.Outcome State Fault Refusal :=
  .next { s with dev := if s.dev.resetLow then s.dev.setPins pins else finish s.dev (f s.dev) }

/-- A console notice of the given kind taken through the checks of R43 to R45 and handed to its owner. -/
def takeNotice (kind : NoticeKind) (lenOk : Bool) (src : Addr) (p : Payload) (owner : Station → Station) (s : Station) : Station :=
  if !noticeReaches s kind src p then s
  else if !lenOk then refuse kind .format s
  else if broadcastOnly kind && decide (targetOf p ≠ 0) then refuse kind .range s
  else match acceptance s kind with
    | .accepted => owner s
    | .checked => owner s
    | .noEffect => s
    | .refusedState => refuse kind .state s
    | .ignored => s

end Sys2Proof.Machine
end

