-- ==== Sys2Proof/Machine/Thread.lean ====
section
/-! DEFINITION. Machine/Thread.lean: the Thread Monitor's penetration, verdict, filter and bands (chapter 9); THREAD_PULSE. -/

namespace Sys2Proof.Machine

/-- Replaces entry `i` of a list. -/
def setEntry {α : Type} (l : List α) (i : Nat) (v : α) : List α := l.set i v

/-- R139: a penetration of stitch `n` is opened. -/
def openPenetration (n : Nat) (trim : Bool) (s : Station) : Station :=
  let p : Penetration :=
    { stitch := n, needle := currentNeedle s, trim := trim, pulses := 0, peak := 0, window := false }
  s.setThm { s.thm with pen := some p }

/-- R139: TU_open opens the tension window. -/
def openWindow (s : Station) : Station :=
  match s.thm.pen with
  | some p => s.setThm { s.thm with pen := some { p with window := true } }
  | none => s

/-- R139: a TENSION reading raises the peak while the window is open. -/
def takeReading (t : Nat) (s : Station) : Station :=
  match s.thm.pen with
  | some p => if p.window then s.setThm { s.thm with pen := some { p with peak := max p.peak t } } else s
  | none => s

/-! ## Verdict (R140, R141) -/

/-- R140: the effect of a penetration's class on suppression count, run start and dry count. -/
def classify (c : Nat) (p : Penetration) (m : ThreadMonitor) : ThreadMonitor :=
  if p.trim then { m with suppression := c }
  else if 0 < m.suppression then
    { m with suppression := m.suppression - 1,
             runStart := if p.pulses = 0 then m.runStart.or (some p.stitch) else m.runStart }
  else if 0 < p.pulses then { m with runStart := none, dryCount := 0 }
  else { m with dryCount := m.dryCount + 1, runStart := m.runStart.or (some p.stitch) }

/-- R140: the penetration is judged and dry. -/
def judgedDry (p : Penetration) (m : ThreadMonitor) : Bool := !p.trim && decide (m.suppression = 0) && decide (p.pulses = 0)

/-- R141: a break. The record is written, the mark falls to the lesser of the run start minus one and itself, the run ends, and
the record is taken under the fault policy. -/
def threadBreak (p : Penetration) (s : Station) : Station :=
  let start := s.thm.runStart.getD p.stitch
  let s := s.setHsc { s.hsc with mark := min (start - 1) s.hsc.mark }
  let s := s.setThm { s.thm with runStart := none, dryCount := 0 }
  headFault { kind := .threadBreak, stitch := start, needle := some p.needle, value := some p.stitch } s

/-! ## Tension (R144 to R148) -/

/-- R145: the filter takes a sample. -/
def filterSample (sample : Nat) (m : ThreadMonitor) : ThreadMonitor :=
  if m.restart then { m with filter := sample, samples := 0, restart := false }
  else { m with filter := (7 * m.filter + sample + 4) / 8, samples := min 4 (m.samples + 1) }

/-- R146: the tension state after a judged sample. -/
def tensionAfter (t : ThreadSection) (st : TensionState) (f : Nat) : TensionState :=
  match st with
  | .clear => if f < t.tLoC ∨ t.tHiC < f then .caution else .clear
  | .caution => if t.tLoC + 8 ≤ f ∧ f + 8 ≤ t.tHiC then .clear else .caution

/-- R148: the fault band in which a judged F lies. -/
def tensionFinding (t : ThreadSection) (f : Nat) : Option FaultKind :=
  if f < t.tLoF then some .tensionLow else if t.tHiF < f then some .tensionHigh else none

/-- R148: a tension fault of needle `n`. -/
def tensionFault (k : FaultKind) (n : Nat) (s : Station) : Station :=
  let count := min 3 (s.thm.counts.getD (n - 1) 0 + 1)
  let service := if count = 3 then setEntry s.thm.service (n - 1) false else s.thm.service
  let f := s.thm.filter
  let s := s.setThm { s.thm with counts := setEntry s.thm.counts (n - 1) count, service := service, restart := true }
  headFault { kind := k, stitch := s.ssq.stitch, needle := some n, value := some f } s

/-- R146, R148: a judged sample forms the tension state, then is checked against the fault bands. -/
def judgeTension (n : Nat) (s : Station) : Station :=
  let s := s.setThm { s.thm with tension := tensionAfter (thread s) s.thm.tension s.thm.filter }
  match tensionFinding (thread s) s.thm.filter with
  | some k => tensionFault k n s
  | none => s

/-- R144 to R146: the tension sample of a penetration; it is judged from the fourth filtered sample after the one that set F. -/
def takeSample (p : Penetration) (s : Station) : Station :=
  let s := s.setThm (filterSample p.peak s.thm)
  if s.thm.samples = 4 then judgeTension p.needle s else s

/-- TU_close (R139, R140, R144): the verdict of the open penetration, then its tension sample. -/
def closePenetration (s : Station) : Station :=
  match s.thm.pen with
  | none => s
  | some p =>
    let dry := judgedDry p s.thm
    let s := s.setThm { classify (thread s).suppression p s.thm with pen := none }
    let s := if dry && decide (s.thm.dryCount = (thread s).dryLimit) then threadBreak p s else s
    if !p.trim && decide (1 ≤ p.pulses) then takeSample p s else s

/-! ## THREAD_PULSE (R139) -/

/-- A thread-motion pulse raises the pulse count of the open penetration, up to 255. -/
def countPulse (s : Station) : Station :=
  match s.thm.pen with
  | some p => s.setThm { s.thm with pen := some { p with pulses := min 255 (p.pulses + 1) } }
  | none => s

/-- THREAD_PULSE (R139). -/
def execThreadPulse (s : State) : Host.Outcome State Fault Refusal := taken s countPulse

end Sys2Proof.Machine
end

