-- ==== Sys2Proof/Machine/Walk.lean ====
section
/-! DEFINITION. Machine/Walk.lean: walks (5.4, 5.5) and what ends them; the completion of a hoop move (R97, R101) and the legs of
a Pantograph Go (6.5); BACK and FORWARD; MOVE_COMPLETE. -/

namespace Sys2Proof.Machine

/-! ## Changes of the stitch number -/

/-- The stitch number becomes `new`: the Page Store makes the crossings (R70), and the design position follows by the
displacements of the records passed (R84, R88). -/
def moveStitch (new : Nat) (s : Station) : Station :=
  let r := s.ssq.stitch
  let d := if r ≤ new then s.pgs.displacement r (new - r) else
    (-(s.pgs.displacement new (r - new)).1, -(s.pgs.displacement new (r - new)).2)
  (s.setPgs (s.pgs.moveTo (motion s).retention r new)).setSsq
    { s.ssq with stitch := new, px := s.ssq.px + d.1, py := s.ssq.py + d.2 }

/-- What follows a change of the stitch number or the colour slot at rest: the settle judgement of a head (R127, R135) and
the next-target finding of a frame station (R95). -/
def afterStitchChange (s : Station) : Station :=
  recomputeFinding (if s.stc.headRole then judgeSettle s else s)

/-! ## End and cut of a walk -/

/-- The walk is over: the record becomes none (R85, R86). -/
def walkOver (s : Station) : Station := s.setSsq { s.ssq with walk := none }

/-- R85: the walk of a frame station ends, and in-place is set; while a stitch move still completes, in-place waits for
its completion (R96, R101; log entry 21). -/
def walkEnds (s : Station) : Station := if s.pnc.move.isSome then walkOver s else setInPlace (walkOver s)

/-- A cut walk's report and colour slot (R87, steps 3 and 4), for a walk that has reached stitch `w`. -/
def cutReport (k : Walk) (w : Nat) (s : Station) : Station :=
  let s := match k.dir with
    | .forward => s.setSsq { s.ssq with slot := k.slot, mark := k.mark }
    | .back => s
  let actual := if k.start ≤ w then w - k.start else k.start - w
  s.setSsq { s.ssq with report := { s.ssq.report with actual := actual, outcome := .walkCut } }

/-- R87: the walk of a frame station ends at the walk stitch reached. One that has reached its target has nothing cut
from it, and keeps its outcome. -/
def walkCutAt (k : Walk) (s : Station) : Station :=
  if k.stitch = k.target then walkEnds s
  else
    let s := moveStitch k.stitch s
    let s := s.setSsq { s.ssq with px := k.px, py := k.py }
    afterStitchChange (walkEnds (cutReport k k.stitch s))

/-- R87, R88: a cut (a Stop, or a lost peer) sets cut-pending. -/
def cutWalk (s : Station) : Station :=
  match s.ssq.walk with
  | some k => s.setSsq { s.ssq with walk := some { k with cutPending := true } }
  | none => s

/-! ## Walk moves (R85, R100) -/

/-- The next walk stitch and its design position (R85). -/
def nextWalkStitch (s : Station) (k : Walk) : Nat × Int × Int :=
  match k.dir with
  | .back =>
    match s.pgs.read k.stitch with
    | some r => (k.stitch - 1, k.px - r.dx, k.py - r.dy)
    | none => (k.stitch - 1, k.px, k.py)
  | .forward =>
    match s.pgs.read (k.stitch + 1) with
    | some r => (k.stitch + 1, k.px + r.dx, k.py + r.dy)
    | none => (k.stitch + 1, k.px, k.py)

/-- R85, R100: the walk's next rest move, for at most `fuel` stitches of no displacement in this event. A target outside
the field writes FIELD and cuts the walk; with a move in progress the rest move waits (R97). -/
def walkAdvance : Nat → Walk → Station → Station
  | 0, _, s => s
  | fuel + 1, k, s =>
    let n := nextWalkStitch s k
    let t := targetOfPos s n.2.1 n.2.2
    let here := targetOfPos s k.px k.py
    match outsideField s t with
    | some a =>
      walkCutAt k (fault { kind := .field, stitch := n.1, needle := none, value := some (axisCode a) } s)
    | none =>
      let treq := moveTime (motion s) (t.1 - here.1) (t.2 - here.2)
      if s.pnc.move.isSome then s.setPnc { s.pnc with waiting := some { x := t.1, y := t.2, treq := treq } }
      else
        let k' := { k with stitch := n.1, px := n.2.1, py := n.2.2 }
        let s := s.setSsq { s.ssq with walk := some k' }
        if treq = 0 then
          let s := arrive t.1 t.2 s
          if k'.stitch = k'.target then walkEnds s else walkAdvance fuel k' s
        else startMove .walk false { x := t.1, y := t.2, treq := treq } s

/-- The stitches a walk has still to pass. -/
def walkLeft (k : Walk) : Nat := (k.target - k.stitch) + (k.stitch - k.target)

/-- A walk goes on with its next move (R85). -/
def walkOn (k : Walk) (s : Station) : Station := walkAdvance (walkLeft k) k s

/-- R85, R87: a walk move has completed, or the move a walk was waiting for has: the walk ends at its target, is cut, or
goes on. -/
def walkMoveDone (s : Station) : Station :=
  match s.ssq.walk with
  | some k => if k.stitch = k.target then walkEnds s else if k.cutPending then walkCutAt k s else walkOn k s
  | none => s

/-! ## Legs of a Pantograph Go (R105, R107) -/

/-- A leg of a Go starts; t_req is formed from the position (R113). -/
def startLeg (t : Int × Int) (s : Station) : Station :=
  startMove .go false { x := t.1, y := t.2, treq := moveTime (motion s) (t.1 - s.pnc.x) (t.2 - s.pnc.y) } s

/-- The legs of a TRACE, one after another; a leg of no displacement completes in the event that starts it (R97, R107). -/
def traceLegs : List (Int × Int) → Station → Station
  | [], s => s.setPnc { s.pnc with go := none }
  | t :: ts, s =>
    if t.1 = s.pnc.x ∧ t.2 = s.pnc.y then traceLegs ts (arrive t.1 t.2 s)
    else startLeg t (s.setPnc { s.pnc with go := some (.trace ts) })

/-- A leg has completed: the Go's end, or its next leg (R105, R107). -/
def goLegDone (s : Station) : Station :=
  match s.pnc.go with
  | some (.trace ts) => traceLegs ts s
  | some .park => s.setPnc { s.pnc with go := none }
  | some .absolute => s.setPnc { s.pnc with go := none }
  | some .goReturn => s.setPnc { s.pnc with go := none }
  | some (.home _ _) => s
  | none => s

/-! ## MOVE_COMPLETE (R97, R101, R109) -/

/-- In-place at the completion of a move of the given kind (R101): set by a stitch move, unless a
walk has begun behind it (R96; log entry 21), and by the move of a RETURN; judged against the origin after a Design Open, left alone after a Station Reset or an address clash (R109). -/
def completionInPlace (rule : InPlaceRule) (kind : MoveKind) (s : Station) : Station :=
  match rule with
  | .judge => judgeInPlace s
  | .leave => s
  | .normal =>
    match kind with
    | .stitch => if s.ssq.walk.isSome then s else setInPlace s
    | .go => if s.pnc.go = some .goReturn then setInPlace s else s
    | .walk => s

/-- R97: the completion of the move in progress, handed on to the walk or the Go. -/
def completeMove (s : Station) : Station :=
  match s.pnc.move with
  | none => s
  | some m =>
    let rule := s.pnc.after
    let s := arrive m.toX m.toY s
    let s := completionInPlace rule m.kind s
    let s := s.setPnc { s.pnc with after := .normal, waiting := none }
    match m.kind with
    | .go => goLegDone s
    | .stitch => walkMoveDone s
    | .walk => walkMoveDone s

/-- MOVE_COMPLETE (R97). -/
def execMoveComplete (s : State) : Host.Outcome State Fault Refusal := taken s completeMove

/-! ## BACK and FORWARD (R82 to R84) -/

/-- The walk in progress, or on the frame role the Go in progress, for which a walk is refused with BUSY (R82). -/
def walkBusy (s : Station) : Bool := s.ssq.walk.isSome || (s.stc.frameRole && s.pnc.go.isSome)

/-- The actual count of a Back: clamped at the lowest reachable stitch and the colour stop mark (R82). -/
def backCount (s : Station) (n : Nat) : Nat := min n (s.ssq.stitch - max s.pgs.lowest s.ssq.mark)

/-- The limit stitch h' of a Forward (R83). -/
def forwardLimit (s : Station) : Nat :=
  let p := match s.pgs.current with
    | some c => c.number
    | none => 0
  let page := Config.pageRecords * (p + (motion s).retention + 1)
  let held := min s.pgs.highest page
  match s.pgs.firstStop s.ssq.stitch with
  | some f => min held f
  | none => held

/-- The actual count of a Forward (R83). -/
def forwardCount (s : Station) (n : Nat) : Nat := min n (forwardLimit s - s.ssq.stitch)

/-- The walk report of a Back or Forward accepted with a count of at least 1 (R82 to R84). -/
def walkReportOf (dir : WalkDir) (n actual : Nat) : WalkReport :=
  { dir := dir, requested := n, actual := actual, outcome := if actual = n then .full else .clamped }

/-- R84, steps 1 to 4: the walk record, the new stitch number, position, colour slot and mark. -/
def walkRecordMade (dir : WalkDir) (target : Nat) (s : Station) : Station :=
  let k : Walk := { dir := dir, start := s.ssq.stitch, target := target, stitch := s.ssq.stitch, px := s.ssq.px, py := s.ssq.py,
                    slot := s.ssq.slot, mark := s.ssq.mark, cutPending := false }
  let landing := s.pgs.read target
  let s := moveStitch target s
  let s := s.setSsq { s.ssq with walk := some k }
  match dir, landing with
  | .forward, some r => if r.kind = .colorStop then s.setSsq { s.ssq with slot := r.aux, mark := target } else s
  | _, _ => s

/-- R85: the hoop's part of a walk that begins: in-place is cleared and the first move starts; a pantograph that is not
homed makes no move, and the walk ends. -/
def walkFirstMove (s : Station) : Station :=
  if s.stc.frameRole then
    let s := s.setPnc { s.pnc with inPlace := false }
    match s.ssq.walk with
    | some k => if s.pnc.homed then walkOn k s else walkOver s
    | none => s
  else s

/-- R84: a walk to `target` begins. The walking flag, set here, is a cause for sending Status even where the walk ends in the same
event (R48). -/
def walkBegin (dir : WalkDir) (n actual target : Nat) (s : Station) : Station :=
  let s := walkRecordMade dir target s
  let s := s.setSsq { s.ssq with report := walkReportOf dir n actual }
  let s := clearMismatches s
  let s := if s.stc.state = .done then enterHalted s else s
  walkFirstMove (afterStitchChange (causeStatus s))

/-- A Back or Forward whose actual count is 0: the report alone (R82, R83). -/
def walkNowhere (dir : WalkDir) (n : Nat) (s : Station) : Station :=
  s.setSsq { s.ssq with report := walkReportOf dir n 0 }

/-- The owner's part of a Back (R82). -/
def backOwner (p : Payload) (s : Station) : Station :=
  let n := countOf p
  if walkBusy s then refuse .back .busy s
  else if n = 0 then s
  else
    let a := backCount s n
    if a = 0 then walkNowhere .back n s else walkBegin .back n a (s.ssq.stitch - a) s

/-- The owner's part of a Forward (R83). -/
def forwardOwner (p : Payload) (s : Station) : Station :=
  let n := countOf p
  if walkBusy s then refuse .forward .busy s
  else if n = 0 then s
  else
    let a := forwardCount s n
    if a = 0 then walkNowhere .forward n s else walkBegin .forward n a (s.ssq.stitch + a) s

/-- BACK (R82). -/
def execBack (src : Addr) (p : Payload) (s : State) : Host.Outcome State Fault Refusal :=
  taken s (takeNotice .back (p.length == 4) src p (backOwner p))

/-- FORWARD (R83). -/
def execForward (src : Addr) (p : Payload) (s : State) : Host.Outcome State Fault Refusal :=
  taken s (takeNotice .forward (p.length == 4) src p (forwardOwner p))

end Sys2Proof.Machine
end

