-- ==== Sys2Proof/Machine/Gate.lean ====
section
/-! DEFINITION. Machine/Gate.lean: the angle events of a revolution and their receivers (R7): the gate's samples, commit and dwell
(R14 to R17), the pantograph's W_open, M and H (R95, R98, R99), the penetration and the knife (R154, R156, R157);
SEEN_LEVEL_CHANGE and STALL_TIMEOUT. -/

namespace Sys2Proof.Machine

/-! ## M (R99) -/

/-- A veto request handed to the Gate Unit (R12); one that stands already is kept. -/
def requestVeto (s : Station) : Station := s.setGtu { s.gtu with vetoReq := s.gtu.vetoReq.or (some s.sht.angle) }

/-- M: a stitch move started at the last W_open and still in progress is late. -/
def eventM (s : Station) : Station :=
  match s.pnc.move with
  | some m =>
    if m.kind = .stitch ∧ m.atWOpen = true then
      requestVeto (fault (plainRecord .moveLate (axisCode (longerAxis (motion s) (m.toX - m.fromX) (m.toY - m.fromY))) s) s)
    else s
  | none => s

/-! ## H (R17, R95) -/

/-- R17: a veto. The penetration is withheld; the station that made it writes VETO, one that saw it writes nothing. -/
def vetoTaken (s : Station) : Station :=
  let own := decide (s.gtu.drive = .low)
  let s := withholdPenetration s
  if own then fault (plainRecord .veto (s.gtu.vetoReq.getD s.sht.angle) s) s else haltCause (.fault .veto) s

/-- R16, R17: the H sample of a station whose committed flag is set. Like the D sample, it is taken in RUN and HALTING alone
(log entry 15). -/
def sampleH (s : Station) : Station :=
  if s.gtu.committed && guardsAct s then
    let s := s.setGtu { s.gtu with committed := false }
    if s.gtu.seenHigh then s else vetoTaken s
  else s

/-- H: the sample, then a deferred FIELD record. -/
def eventH (s : Station) : Station := writeDeferred (sampleH s)

/-! ## A_arm (R12, R154) -/

/-- R12: at A_arm a veto request returns to none, and a station in RUN or HALTING pulls the gate low. -/
def assertGate (s : Station) : Station :=
  let s := s.setGtu { s.gtu with vetoReq := none, commitSpan := false }
  if guardsAct s then pullLow s else s

/-- R154: the decision record is carried out. -/
def carryOut (s : Station) : Station :=
  let s := holdIfUnfit s
  match s.hsc.decision with
  | some d =>
    if d.penetrate then
      openPenetration d.stitch d.trim
        (s.setHsc { s.hsc with decision := none, holdEngaged := false, mark := d.stitch, knifePending := d.trim })
    else s.setHsc { s.hsc with decision := none, holdEngaged := true, knifePending := false }
  | none => s.setHsc { s.hsc with decision := none, holdEngaged := true, knifePending := false }

/-- A_arm. -/
def eventAArm (s : Station) : Station :=
  let s := assertGate s
  if s.stc.headRole then carryOut s else s

/-! ## K_on, K_off (R157) -/

/-- K_on: KNIFE turns on if knife pending is set. -/
def eventKOn (s : Station) : Station := if s.hsc.knifePending then s.setHsc { s.hsc with knife := true } else s

/-! ## D (R14 to R16, R77 to R79) -/

/-- R77, R78: the sequencer takes in the committed record: the next stitch, its position, the slot and mark of a COLOR_STOP. -/
def commitStitch (r : StitchRecord) (s : Station) : Station :=
  let n := s.ssq.stitch + 1
  let stop := decide (r.kind = .colorStop)
  (s.setPgs (s.pgs.moveTo (motion s).retention s.ssq.stitch n)).setSsq
    { s.ssq with stitch := n, px := s.ssq.px + r.dx, py := s.ssq.py + r.dy, slot := if stop then r.aux else s.ssq.slot,
                 mark := if stop then n else s.ssq.mark }

/-- R117: the demand of the revolution that sews the committed record; a COLOR_STOP or END forms none, nor does a station
in HALTING. -/
def commitDemand (r : StitchRecord) (s : Station) : Station :=
  if decide (s.stc.state = .run) && decide (r.kind ≠ .colorStop ∧ r.kind ≠ .endRecord) then
    s.setSgv { s.sgv with demand := demandAtCommit s (s.ssq.px - r.dx) (s.ssq.py - r.dy) }
  else s

/-- R98: the pending stitch move of the committed record. -/
def commitMove (r : StitchRecord) (s : Station) : Station :=
  let a := targetOfPos s (s.ssq.px - r.dx) (s.ssq.py - r.dy)
  let b := targetOfPos s s.ssq.px s.ssq.py
  s.setPnc { s.pnc with pending := some { x := b.1, y := b.2, treq := moveTime (motion s) (b.1 - a.1) (b.2 - a.2) } }

/-- R14, step 2: the frame role's blocks. -/
def commitFrame (r : StitchRecord) (s : Station) : Station :=
  if s.stc.frameRole then recomputeFinding (commitMove r (commitDemand r s)) else s

/-- R14, step 3: the head role's blocks decide on stitch `n` (R152) and take the wanted needle (R127). -/
def commitHead (n : Nat) (fr : Option StitchRecord) (s : Station) : Station :=
  if s.stc.headRole then
    let d : Decision := { stitch := n, penetrate := verdict s n fr, trim := isTrim fr, lead := false }
    judgeSettle (s.setHsc { s.hsc with decision := some d })
  else s

/-- R78: the planned stop of a committed COLOR_STOP or END. -/
def plannedStop (r : StitchRecord) (s : Station) : Station :=
  match r.kind with
  | .colorStop => haltCause .colourStop s
  | .endRecord => haltCause .endRecord s
  | .sew => s
  | .jump => s
  | .trim => s

/-- R14, R77, R79: the line is high at D. In HALTING (R16) the pull-low that waited for this sample is a veto request. -/
def commit (s : Station) : Station :=
  let running := decide (s.stc.state = .run)
  let s := s.setGtu { s.gtu with dwellCount := 0, lead := false, committed := true, commitSpan := running,
                                 vetoReq := if running then s.gtu.vetoReq else s.gtu.vetoReq.or (some s.sht.angle) }
  let n := s.ssq.stitch + 1
  match s.pgs.read n with
  | some r => plannedStop r (commitHead n (some r) (commitFrame r (commitStitch r s)))
  | none => commitHead n none (fault (plainRecord .indexMismatch s.stc.addr s) s)

/-- R14: what every dwell does: committed and lead are cleared, and the head holds the next penetration (R155). -/
def dwellCommon (s : Station) : Station :=
  let s := s.setGtu { s.gtu with committed := false, lead := false, commitSpan := false }
  if s.stc.headRole then dropDecision s else s

/-- R15, R118: a dwell of a station in RUN. `hold` is its hold reason at the sample. -/
def dwellRun (s : Station) : Station :=
  let hold := holdReason s
  let s := dwellCommon s
  let s := if s.stc.frameRole then s.setSgv { s.sgv with demand := demandAtDwell s } else s
  let count := min (timing s).dwellLimit (s.gtu.dwellCount + 1)
  let s := s.setGtu { s.gtu with dwellCount := count }
  if count = (timing s).dwellLimit then fault (plainRecord .dwellLimit hold.code s) s else s

/-- D: the sample of a station in RUN (R14), or in HALTING (R16): a dwell, unless its pull-low waits in the guard, when it
samples the line as in RUN. -/
def eventD (s : Station) : Station :=
  match s.stc.state with
  | .run => if s.gtu.seenHigh then commit s else dwellRun s
  | .halting => if decide (s.gtu.drive = .released) && s.gtu.seenHigh then commit s else dwellCommon s
  | .joining => s
  | .ready => s
  | .armed => s
  | .halted => s
  | .done => s

/-! ## W_open (R98, R99, R156) -/

/-- R98: at W_open a pending stitch move starts; what M is to check is the move started at this event. -/
def openMoveWindow (s : Station) : Station :=
  let s := match s.pnc.move with
    | some m => s.setPnc { s.pnc with move := some { m with atWOpen := false } }
    | none => s
  startPending true s

/-- R156: HOLD at W_open, by the decision record of source COMMIT, or engaged without one. -/
def holdAtWOpen (s : Station) : Station :=
  match s.hsc.decision with
  | some d => if d.lead then s else s.setHsc { s.hsc with holdEngaged := !d.penetrate }
  | none => s.setHsc { s.hsc with holdEngaged := true }

/-- W_open. -/
def eventWOpen (s : Station) : Station :=
  let s := if s.stc.frameRole then openMoveWindow s else s
  if s.stc.headRole then holdAtWOpen s else s

/-! ## Angle events (R7) -/

/-- The receivers of an angle event, by the strapped roles (R7). -/
def receive (n : AngleName) (s : Station) : Station :=
  match n with
  | .m => if s.stc.frameRole then eventM s else s
  | .h => eventH s
  | .aArm => eventAArm s
  | .tuOpen => if s.stc.headRole then openWindow s else s
  | .kOn => if s.stc.headRole then eventKOn s else s
  | .tuClose => if s.stc.headRole then closePenetration s else s
  | .kOff => if s.stc.headRole then knifeOff s else s
  | .d => eventD s
  | .wOpen => eventWOpen s

/-- An angle event is raised: added to the raised set, handed to its receivers, and the gate takes the level it is due. -/
def raiseEvent (n : AngleName) (s : Station) : Station :=
  driveGate (receive n (s.setSht { s.sht with raised := s.sht.raised ++ [n] }))

/-- The event of name `n`, raised if the angle has come to it and it has not been raised in this revolution (R7). -/
def raiseIfDue (s : Station) (n : AngleName) : Station :=
  if s.sht.synced && decide (angleOf (timing s) n = s.sht.angle) && !s.sht.raised.contains n then raiseEvent n s else s

/-- The nine names in the order in which events of one arrival are taken: A_arm before K_on, K_off before D (R157). -/
def angleNames : List AngleName := [.m, .h, .aArm, .tuOpen, .kOn, .tuClose, .kOff, .d, .wOpen]

/-- R7: the events due at the present angle. -/
def raiseEvents (s : Station) : Station := angleNames.foldl raiseIfDue s

/-! ## SEEN_LEVEL_CHANGE (R10, R18) -/

/-- The seen level changes; a station whose drive is low sees the line low. A rise may be the rest commit (R18). -/
def seeLevel (high : Bool) (s : Station) : Station :=
  tryRestCommit (s.setGtu { s.gtu with seenHigh := high && decide (s.gtu.drive = .released) })

/-- SEEN_LEVEL_CHANGE (R10). -/
def execSeenLevelChange (high : Bool) (s : State) : Host.Outcome State Fault Refusal := taken s (seeLevel high)

/-! ## STALL_TIMEOUT (R19) -/

/-- R19: the stall timer of a station in RUN runs out. -/
def stall (s : Station) : Station :=
  if s.stc.state = .run then fault (plainRecord .dwellLimit (holdReason s).code s) s else s

/-- STALL_TIMEOUT (R19). -/
def execStallTimeout (s : State) : Host.Outcome State Fault Refusal := taken s stall

end Sys2Proof.Machine
end

