-- ==== Sys2Proof/Machine/Shaft.lean ====
section
/-! DEFINITION. Machine/Shaft.lean: the Shaft Tracker (1.1): encoder counts, the index, the ENCODER fault, the period, the shaft
at rest and what each block does there. ENCODER_FORWARD_COUNT, ENCODER_REVERSE_COUNT, INDEX_PULSE, REST_REACHED. -/

namespace Sys2Proof.Machine

/-! ## What every count does (R1, R5, R19) -/

/-- The rest left event (R5): position given up is cleared (R122). -/
def restLeft (s : Station) : Station :=
  (s.setSht { s.sht with atRest := false, onTop := false }).setSgv { s.sgv with givenUp := false }

/-- Every count restarts the still timer (R1) and, in RUN, the stall timer (R19); the first count after rest leaves rest (R5). -/
def countArrives (s : Station) : Station :=
  let s := s.setSht { s.sht with stillFrom := s.now }
  let s := if s.stc.state = .run then s.setGtu { s.gtu with stallTimer := some s.now } else s
  if s.sht.atRest then restLeft s else s

/-- The TENSION input converted at a count (R139), handed to the Thread Monitor of a head. -/
def presentTension (t : Nat) (s : Station) : Station :=
  let s := s.setPins { s.pins with tension := t }
  if s.stc.headRole then takeReading t s else s

/-! ## ENCODER fault (R3) -/

/-- R3: the Shaft Tracker's part of the loss of synchronisation; the measured speed becomes unknown with the period (R121). -/
def loseSync (s : Station) : Station :=
  (s.setSht { s.sht with synced := false, raised := [], chain := false, period := 0, onTop := false }).setSgv
    { s.sgv with measured := none }

/-- R3: an ENCODER fault. The loss of synchronisation is handed to Head Stitch Control and the Thread Monitor (R155, R157, R143)
and to the Pantograph Controller (R95). -/
def encoderFault (s : Station) : Station :=
  let record := plainRecord .encoder s.sht.angle s
  let s := abandonPenetration (knifeOff (dropDecision (loseSync s)))
  writeDeferred (fault record s)

/-! ## ENCODER_FORWARD_COUNT (R1, R3, R7) -/

/-- The run after one more forward count at lag 0; it stops at its largest value 1027 on a station that is not
synchronised (1.1). -/
def runAfter (n : Nat) : Nat := min Config.missingIndexRun (n + 1)

/-- R1: a forward count at lag 0: run, revolution, missing index, angle events. -/
def advance (s : Station) : Station :=
  let a := (s.sht.angle + 1) % Config.countsPerRev
  let s := s.setSht { s.sht with angle := a, run := runAfter s.sht.run, raised := if a = 0 then [] else s.sht.raised }
  if s.sht.synced && decide (s.sht.run = Config.missingIndexRun) then encoderFault s else raiseEvents s

/-- R1: a forward count. -/
def countForward (t : Nat) (s : Station) : Station :=
  let s := countArrives (presentTension t s)
  if 0 < s.sht.lag then
    s.setSht { s.sht with angle := (s.sht.angle + 1) % Config.countsPerRev, lag := s.sht.lag - 1 }
  else advance s

/-- ENCODER_FORWARD_COUNT (R1). -/
def execEncoderForwardCount (tension : BitVec 10) (s : State) : Host.Outcome State Fault Refusal :=
  takenPin s { s.dev.pins with tension := tension.toNat } (countForward tension.toNat)

/-! ## ENCODER_REVERSE_COUNT (R1, R4) -/

/-- R1, R4: a reverse count. -/
def countReverse (t : Nat) (s : Station) : Station :=
  let s := countArrives (presentTension t s)
  let full := decide (s.sht.lag = 1023)
  let s := s.setSht { s.sht with angle := (s.sht.angle + 1023) % Config.countsPerRev, lag := if full then 0 else s.sht.lag + 1,
                                 chain := false, period := 0 }
  let s := s.setSgv { s.sgv with measured := none }
  if full then encoderFault s else s

/-- ENCODER_REVERSE_COUNT (R1). -/
def execEncoderReverseCount (tension : BitVec 10) (s : State) : Host.Outcome State Fault Refusal :=
  takenPin s { s.dev.pins with tension := tension.toNat } (countReverse tension.toNat)

/-! ## INDEX_PULSE (R2, R4, R121) -/

/-- The measured speed of a period (R121); a period of 0 is unknown. -/
def speedOf (period : Nat) : Option Nat := if period = 0 then none else some (60000000 / period)

/-- R121: a captured period handed to the Speed Governor of a frame station. -/
def takePeriod (s : Station) : Station :=
  if s.stc.frameRole then
    let s := s.setSgv { s.sgv with measured := speedOf s.sht.period }
    match s.sgv.measured with
    | some v =>
      if s.stc.state = .run ∧ 9 * nTopE (motion s) < 8 * v then fault (plainRecord .drive v s) s else s
    | none => s
  else s

/-- R4: an accepted index at lag 0 of a synchronised station: a capture, or the first link of a chain. -/
def capture (s : Station) : Station :=
  if s.sht.chain then
    takePeriod (s.setSht { s.sht with period := min Config.maxPeriod (s.now - s.sht.indexAt), indexAt := s.now })
  else s.setSht { s.sht with chain := true, indexAt := s.now }

/-- R2: the events of the angles passed over, for `n` angles up to 1023. -/
def sweep : Nat → Station → Station
  | 0, s => s
  | n + 1, s => sweep n (raiseEvents (s.setSht { s.sht with angle := s.sht.angle + 1 }))

/-- R2: the revolution begins at the index. -/
def indexBegins (s : Station) : Station :=
  let s := sweep (1023 - s.sht.angle) s
  raiseEvents (s.setSht { s.sht with angle := 0, run := 0, raised := [] })

/-- R2: the index that synchronises the station; a shaft at rest is then judged on top again (R5). -/
def indexSyncs (s : Station) : Station :=
  raiseEvents (s.setSht { s.sht with angle := 0, run := 0, lag := 0, synced := true, raised := [], chain := false,
                                     onTop := s.sht.atRest })

/-- R2: an index pulse. -/
def takeIndex (s : Station) : Station :=
  if !s.sht.synced then indexSyncs s
  else if !inIndexWindow s.sht.angle then encoderFault s
  else if 0 < s.sht.lag then s.setSht { s.sht with angle := 0, run := 0, lag := 0, chain := false }
  else if 1021 ≤ s.sht.angle then capture (indexBegins s)
  else capture (s.setSht { s.sht with angle := 0, run := 0 })

/-- INDEX_PULSE (R2). -/
def execIndexPulse (s : State) : Host.Outcome State Fault Refusal := taken s takeIndex

/-! ## REST_REACHED (R5) -/

/-- R5: the Shaft Tracker judges rest; the period returns to 0 (R4), the measured speed to unknown (R121). -/
def judgeRest (s : Station) : Station :=
  (s.setSht { s.sht with atRest := true, onTop := s.sht.synced && inRestZone s.sht.angle, chain := false, period := 0 }).setSgv
    { s.sgv with measured := none }

/-- The retry of a step in progress (R132): the same command again. -/
def retryStep (st : CaseStep) (s : Station) : Station :=
  s.setNcc { s.ncc with step := some { st with timer := some s.now }, attempts := s.ncc.attempts + 1, stepWaiting := false,
                        pulses := s.ncc.pulses + 1 }

/-- R130, R132: the Needle Case Controller at a rest on top: a retry or a step that waited begins. -/
def caseAtRest (s : Station) : Station :=
  if s.stc.headRole && decide (s.stc.state = .armed) && decide (s.stc.activity = .active) && restOnTop s then
    match s.ncc.step with
    | some st => if st.timer.isNone then retryStep st s else s
    | none => tryStep s
  else s

/-- R95, R98: the Pantograph Controller at rest: a deferred FIELD record is written, and a pending stitch move starts unless
the station is in RUN. -/
def pantographAtRest (s : Station) : Station :=
  let s := writeDeferred s
  if s.stc.state = .run then s else startPending false s

/-- R122, R124: the Speed Governor at rest. `inSequence`: a sequence was in progress when the shaft came to rest. -/
def governorAtRest (inSequence : Bool) (s : Station) : Station :=
  if !s.stc.frameRole then s
  else if inSequence then creepAtRest s
  else match s.stc.state with
    | .armed => tryReposition s
    | .halted => tryReposition s
    | .done => tryReposition s
    | .joining => s
    | .ready => s
    | .run => s
    | .halting => s

/-- R18: an ARMED station at the end of the rest reached event: its gate takes the level it is due, and where the line is still
seen high, as after a planned stop whose gate was never pulled low, the rest commit is taken (log entry 46). -/
def commitAtRest (s : Station) : Station := if s.stc.state = .armed then tryRestCommit (driveGate s) else s

/-- R5: the rest reached event, handed on: Head Stitch Control and the Thread Monitor, the Station Controller, the
Needle Case Controller, the Pantograph Controller, the Speed Governor, the Gate Unit (log entry 17). A shaft already at rest does not come
to rest again. -/
def comeToRest (s : Station) : Station :=
  if s.sht.atRest then s
  else
    let inSequence := s.sgv.reposition.isSome
    let s := abandonPenetration (knifeOff (dropDecision (judgeRest s)))
    let s := if s.stc.state = .halting then leaveHalting s else s
    commitAtRest (governorAtRest inSequence (pantographAtRest (caseAtRest s)))

/-- REST_REACHED (R5). -/
def execRestReached (s : State) : Host.Outcome State Fault Refusal := taken s comeToRest

end Sys2Proof.Machine
end

