-- ==== Sys2Proof/Machine/Case.lean ====
section
/-! DEFINITION. Machine/Case.lean: the needle case's events (8.2, 8.3): CASE_SENSOR_CHANGE, STEP_TIMEOUT, SETTLE_TIMER_EXPIRY. -/

namespace Sys2Proof.Machine

/-- The step record is gone, with attempts at 0 (R131 to R133). -/
def endStep (s : Station) : Station := s.setNcc { s.ncc with step := none, attempts := 0, stepWaiting := false }

/-- The case is stopped by a fault, and the record taken under the fault policy (R129, R132, R133). -/
def stopCase (why : CaseStopped) (fr : FaultRecord) (s : Station) : Station :=
  headFault fr (s.setNcc { s.ncc with stopped := why })

/-! ## CASE_SENSOR_CHANGE (R129, R131, R133) -/

/-- R132: the step has succeeded, and an expiry of its timer at this same reading of the clock finds it gone (log entry 56). -/
def markSuccess (st : CaseStep) (s : Station) : Station :=
  if st.timer.isSome then s.setNcc { s.ncc with successAt := some s.now } else s

/-- A sensor change while a step is in progress (R131, R133). -/
def sensorInStep (st : CaseStep) (s : Station) : Station :=
  let pos := positionReading s
  if s.pins.caseLatch && decide (pos = st.toNeedle) then tryStep (markSuccess st (endStep s))
  else if pos = st.fromNeedle ∨ pos = st.toNeedle ∨ pos = 0 then s
  else stopCase .lost { plainRecord .caseLost pos s with needle := some st.toNeedle } (endStep s)

/-- Whether a sensor change without a step is judged: an ACTIVE head in ARMED, RUN or HALTING (R129). -/
def caseInUse (s : Station) : Bool :=
  decide (s.stc.activity = .active) && decide (s.stc.state = .armed ∨ s.stc.state = .run ∨ s.stc.state = .halting)

/-- A sensor change while no step is in progress (R129); `before` is the current needle it changes. -/
def sensorAlone (before : Nat) (s : Station) : Station :=
  if caseInUse s && decide (before ≠ 0 ∧ currentNeedle s ≠ before) then
    stopCase .lost { plainRecord .caseLost (positionReading s) s with needle := some before } s
  else s

/-- R129: new readings at the case sensors of a head; the current needle and the settle judgement (R135) follow them, in a step as
outside one (DESIGN CHOICE, log entry 55). -/
def sensorChange (before : Nat) (s : Station) : Station :=
  if s.stc.headRole then
    let s := judgeSettle s
    match s.ncc.step with
    | some st => sensorInStep st s
    | none => sensorAlone before s
  else s

/-- The pins with new case readings. -/
def casePins (code : BitVec 4) (latch : Bool) (p : Pins) : Pins := { p with caseCode := code.toNat, caseLatch := latch }

/-- CASE_SENSOR_CHANGE (R129). -/
def execCaseSensorChange (code : BitVec 4) (latch : Bool) (s : State) : Host.Outcome State Fault Refusal :=
  takenPin s (casePins code latch s.dev.pins) (fun d => sensorChange (currentNeedle d) (d.setPins (casePins code latch d.pins)))

/-! ## STEP_TIMEOUT (R132) -/

/-- R132: a third failed attempt. -/
def caseJam (st : CaseStep) (s : Station) : Station :=
  stopCase .jam { plainRecord .caseJam (positionReading s) s with needle := some st.toNeedle } (endStep s)

/-- R132: the step timer of a step in progress runs out. -/
def stepRunsOut (st : CaseStep) (s : Station) : Station :=
  if s.stc.state ≠ .armed ∨ s.stc.activity ≠ .active then endStep s
  else if 3 ≤ s.ncc.attempts then caseJam st s
  else if restOnTop s then retryStep st s
  else s.setNcc { s.ncc with step := some { st with timer := none }, stepWaiting := true }

/-- R132: the success of a step was taken at this reading of the clock, so an expiry is the ended step's (DEDUCED, log entry 56). -/
def successCameFirst (s : Station) : Bool := decide (s.ncc.successAt = some s.now)

/-- R132: the step timer reaches the step timeout, if it runs. The expiry that comes together with a success taken first does
nothing. -/
def stepTimeout (s : Station) : Station :=
  if successCameFirst s then s.setNcc { s.ncc with successAt := none }
  else match s.ncc.step with
    | some st => if st.timer.isSome then stepRunsOut st s else s
    | none => s

/-- STEP_TIMEOUT (R132). -/
def execStepTimeout (s : State) : Host.Outcome State Fault Refusal := taken s stepTimeout

/-! ## SETTLE_TIMER_EXPIRY (R135) -/

/-- R135: the settle timer reaches the settle time, if it runs. -/
def settleRunsOut (s : Station) : Station := if s.ncc.settleTimer.isSome then completeSettle s else s

/-- SETTLE_TIMER_EXPIRY (R135). -/
def execSettleTimerExpiry (s : State) : Host.Outcome State Fault Refusal := taken s settleRunsOut

end Sys2Proof.Machine
end

