-- ==== Sys2Proof/Machine/Configure.lean ====
section
/-! DEFINITION. Machine/Configure.lean: the Configure sections (R26): CONFIGURE_ROSTER, CONFIGURE_TIMING, CONFIGURE_MOTION,
CONFIGURE_THREAD. -/

namespace Sys2Proof.Machine

/-- R26: the set of sections held is complete: READY, the join timer stopped. -/
def enterReady (s : Station) : Station :=
  let s := enterState .ready s
  governorEnd (s.setStc { s.stc with joinTimer := none })

/-- R26: after a section is held, the set may be complete. -/
def sectionHeld (s : Station) : Station := if allSectionsHeld s then enterReady s else s

/-- R26: a section's check answers what to hold, or the reason of the refusal. -/
def holdSection {α : Type} (check : Except RefusalReason α) (hold : α → Station → Station) (s : Station) : Station :=
  match check with
  | .ok a => sectionHeld (hold a s)
  | .error reason => refuse .configure reason s

/-! ## CONFIGURE_ROSTER (R27, R51) -/

/-- A new entry of the Peer Table (R51). -/
def peerEntry (now : Nat) (e : RosterEntry) : PeerEntry :=
  { addr := e.addr, head := e.head, frame := e.frame, heard := false, last := none, ageFrom := now, lost := false,
    mismatched := false }

/-- R51: one entry for each roster entry other than the station's own. -/
def peerTable (now addr : Nat) (es : List RosterEntry) : List PeerEntry :=
  (es.filter (fun e => e.addr != addr)).map (peerEntry now)

/-- The roster held, and the Peer Table set up from it (R27, R51). -/
def holdRoster (es : List RosterEntry) (s : Station) : Station :=
  (s.setStc { s.stc with roster := some es }).setPrt (peerTable s.now s.stc.addr es)

/-- The owner's part of a Configure ROSTER (R27). -/
def rosterOwner (p : Payload) (s : Station) : Station :=
  holdSection (checkRoster s.stc.addr s.stc.headRole s.stc.frameRole (rosterOf p)) holdRoster s

/-- CONFIGURE_ROSTER (R27). -/
def execConfigureRoster (src : Addr) (p : Payload) (s : State) : Host.Outcome State Fault Refusal :=
  taken s (takeNotice .configure (configureLengthFits .roster p) src p (rosterOwner p))

/-! ## CONFIGURE_TIMING (R8, R9) -/

/-- The TIMING section held (R9). -/
def holdTiming (t : TimingSection) (s : Station) : Station := s.setStc { s.stc with timing := some t }

/-- The owner's part of a Configure TIMING (R9). -/
def timingOwner (p : Payload) (s : Station) : Station := holdSection (checkTiming (timingOf p)) holdTiming s

/-- CONFIGURE_TIMING (R9). -/
def execConfigureTiming (src : Addr) (p : Payload) (s : State) : Host.Outcome State Fault Refusal :=
  taken s (takeNotice .configure (configureLengthFits .timing p) src p (timingOwner p))

/-! ## CONFIGURE_MOTION (R28, R94) -/

/-- The MOTION section held, and the position judged against its field (R28, R94). -/
def holdMotion (m : MotionSection) (s : Station) : Station := judgeField (s.setStc { s.stc with motion := some m })

/-- The owner's part of a Configure MOTION (R28): it has no order check. -/
def motionOwner (p : Payload) (s : Station) : Station := holdSection (.ok (clampMotion (motionOf p))) holdMotion s

/-- CONFIGURE_MOTION (R28). -/
def execConfigureMotion (src : Addr) (p : Payload) (s : State) : Host.Outcome State Fault Refusal :=
  taken s (takeNotice .configure (configureLengthFits .motion p) src p (motionOwner p))

/-! ## CONFIGURE_THREAD (R29) -/

/-- The THREAD section held (R29). -/
def holdThread (t : ThreadSection) (s : Station) : Station := s.setStc { s.stc with thread := some t }

/-- The owner's part of a Configure THREAD (R29). -/
def threadOwner (p : Payload) (s : Station) : Station :=
  holdSection (checkThread (policyByte p) (pauseByte p) (threadOf p)) holdThread s

/-- CONFIGURE_THREAD (R29). -/
def execConfigureThread (src : Addr) (p : Payload) (s : State) : Host.Outcome State Fault Refusal :=
  taken s (takeNotice .configure (configureLengthFits .thread p) src p (threadOwner p))

end Sys2Proof.Machine
end

