-- ==== Sys2Proof/Machine/Console.lean ====
section
/-! DEFINITION. Machine/Console.lean: the console's short notices: STOP (R38), START (R30, R31), HEAD_SELECT (R160), FAULT_CLEAR
(R166), NEEDLE_MAP (R128). -/

namespace Sys2Proof.Machine

/-! ## STOP (R38) -/

/-- An accepted Stop (R38): in HALTED it cuts a walk in progress. -/
def stopOwner (s : Station) : Station := if s.stc.state = .halted then cutWalk s else haltCause .stop s

/-- STOP (R38). -/
def execStop (src : Addr) (p : Payload) (s : State) : Host.Outcome State Fault Refusal :=
  taken s (takeNotice .stop (p.length == 1) src p stopOwner)

/-! ## START (R31) -/

/-- R31: the first condition that fails, in the order of its table. -/
def startRefusal (s : Station) : Option RefusalReason :=
  if s.ssq.walk.isSome || (s.stc.frameRole && s.pnc.go.isSome) then some .busy
  else if s.pgs.header.isNone || atDesignEnd s then some .noDesign
  else if !s.stc.faults.isEmpty && !(decide (s.stc.activity = .withdrawn) && !s.stc.frameRole) then some .faulted
  else if s.prt.any (·.lost) then some .peerMissing
  else if s.prt.any (·.mismatched) then some .indexMismatch
  else if s.stc.frameRole && !(s.pnc.homed && s.pnc.inPlace) then some .notPlaced
  else if s.stc.frameRole && extentsOutside s then some .field
  else if s.stc.frameRole && !s.pins.driveReady then some .drive
  else if s.stc.frameRole && noActiveHead s then some .noActiveHead
  else none

/-- The former state of a station armed by a Start (R32). -/
def formerOf : StationState → Former
  | .ready => .ready
  | .joining => .halted | .armed => .halted | .run => .halted | .halting => .halted | .halted => .halted | .done => .halted

/-- A Start in READY, HALTED or DONE (R31, R32). -/
def startOwner (s : Station) : Station :=
  match startRefusal s with
  | some reason => refuse .start reason s
  | none => enterArmed (formerOf s.stc.state) s

/-- START (R31). -/
def execStart (src : Addr) (p : Payload) (s : State) : Host.Outcome State Fault Refusal :=
  taken s (takeNotice .start (p.length == 1) src p startOwner)

/-! ## HEAD_SELECT (R160) -/

/-- A change of the activity (R159): the case of a head that leaves ACTIVE (R134), the frame station's count (R162). -/
def setActivity (a : Activity) (s : Station) : Station :=
  let s' := s.setStc { s.stc with activity := a }
  if s.stc.activity = a then s
  else if a = .active then headCheck s'
  else headCheck (caseLeaves s')

/-- An accepted Head Select (R160). -/
def headSelectOwner (p : Payload) (s : Station) : Station :=
  setActivity (if maskFlags p s.stc.addr then .active else .deselected) s

/-- HEAD_SELECT (R160). -/
def execHeadSelect (src : Addr) (p : Payload) (s : State) : Host.Outcome State Fault Refusal :=
  taken s (takeNotice .headSelect (p.length == 5) src p (headSelectOwner p))

/-! ## FAULT_CLEAR (R166, R149) -/

/-- R166, step 1: the oldest record is removed; the removal that empties the list clears the overflow flag. -/
def removeOldest (s : Station) : Station :=
  match s.stc.faults with
  | [] => s
  | _ :: rest => s.setStc { s.stc with faults := rest, overflow := s.stc.overflow && !rest.isEmpty }

/-- R149: a needle of 1..12 returns to service with a fault count of 0, on a head. -/
def restoreNeedle (n : Nat) (s : Station) : Station :=
  if s.stc.headRole && decide (1 ≤ n) then
    s.setThm { s.thm with counts := s.thm.counts.set (n - 1) 0, service := s.thm.service.set (n - 1) true }
  else s

/-- R166: a Fault Clear that the acceptance table lets through. -/
def faultClearOwner (p : Payload) (s : Station) : Station :=
  if Config.needles < needleOf p then refuse .faultClear .format s else restoreNeedle (needleOf p) (removeOldest s)

/-- FAULT_CLEAR (R166). -/
def execFaultClear (src : Addr) (p : Payload) (s : State) : Host.Outcome State Fault Refusal :=
  taken s (takeNotice .faultClear (p.length == 2) src p (faultClearOwner p))

/-! ## NEEDLE_MAP (R128) -/

/-- R128: a map with an entry above 12 is refused; another replaces the map held, and the settle is judged again (R127). -/
def needleMapOwner (p : Payload) (s : Station) : Station :=
  if (mapOf p).any (fun n => Config.needles < n) then refuse .needleMap .format s
  else judgeSettle (s.setNcc { s.ncc with map := mapOf p })

/-- NEEDLE_MAP (R128). -/
def execNeedleMap (src : Addr) (p : Payload) (s : State) : Host.Outcome State Fault Refusal :=
  taken s (takeNotice .needleMap (p.length == 33) src p (needleMapOwner p))

end Sys2Proof.Machine
end

