-- ==== Sys2Proof/Machine/Design.lean ====
section
/-! DEFINITION. Machine/Design.lean: DESIGN_OPEN (R57 to R59) and DESIGN_PAGE (R64 to R68). -/

namespace Sys2Proof.Machine

/-! ## DESIGN_OPEN -/

/-- R39, R163: the Station Controller: READY, the halt reason cleared, a WITHDRAWN head ACTIVE again. -/
def openStc (s : Station) : Station :=
  let s := enterState .ready s
  s.setStc { s.stc with haltReason := none, activity := if s.stc.activity = .withdrawn then .active else s.stc.activity }

/-- R91: the Stitch Sequencer at a Design Open. -/
def openSsq (h : Header) : Sequencer := { Sequencer.reset with slot := h.firstSlot }

/-- R163, R150, R127: the head's blocks at a Design Open. The Thread Monitor is reset before the settle is judged, so a needle
change that a settle time of 0 brings in the same event stands (DESIGN CHOICE, log entry 45). -/
def openHead (s : Station) : Station :=
  if s.stc.headRole then
    let s := knifeOff (dropDecision (s.setHsc { s.hsc with mark := 0 }))
    let s := s.setThm { s.thm with pen := none, suppression := 0, runStart := none, dryCount := 0 }
    judgeSettle s
  else s

/-- R109: in-place at a Design Open: judged at once with nothing in progress, at the completion of a move in progress, left clear
with a HOME in progress. -/
def openInPlace (s : Station) : Station :=
  match s.pnc.go with
  | some (.home _ _) => s.setPnc { s.pnc with inPlace := false }
  | _ => if s.pnc.move.isSome then s.setPnc { s.pnc with inPlace := false, after := .judge } else judgeInPlace s

/-- R109: a TRACE makes no further leg; the other Gos go on. -/
def traceEnds : Option Go → Option Go
  | some (.trace _) => some (.trace [])
  | g => g

/-- R109, R110, R126: the frame's blocks at a Design Open. -/
def openFrame (s : Station) : Station :=
  if s.stc.frameRole then
    let s := s.setPnc { s.pnc with pending := none, waiting := none, deferred := false, go := traceEnds s.pnc.go }
    let s := s.setPnc { s.pnc with finding := findingNow s }
    governorEnd (openInPlace s)
  else s

/-- R58, R59: the design-level reset. -/
def openDesign (h : Header) (s : Station) : Station :=
  let s := openStc s
  let s := s.setPgs (PageStore.opened h)
  let s := s.setSsq (openSsq h)
  let s := s.setGtu { s.gtu with dwellCount := 0 }
  headCheck (openFrame (openHead s))

/-- The owner's part of a Design Open (R57). -/
def designOpenOwner (p : Payload) (s : Station) : Station :=
  match checkHeader (headerOf p) with
  | .ok h => openDesign h s
  | .error reason => refuse .designOpen reason s

/-- DESIGN_OPEN (R57). -/
def execDesignOpen (src : Addr) (p : Payload) (s : State) : Host.Outcome State Fault Refusal :=
  taken s (takeNotice .designOpen (p.length == 22) src p (designOpenOwner p))

/-! ## DESIGN_PAGE -/

/-- R61, R68: page `k`, the next wanted page, with a free slot: checked, and accepted. -/
def checkPage (h : Header) (k : Nat) (rs : Option (List StitchRecord)) (s : Station) : Station :=
  match rs with
  | some rs =>
    if pageFits h k rs then recomputeFinding (s.setPgs (s.pgs.accept k rs)) else refuse .designPage .format s
  | none => refuse .designPage .format s

/-- R64 to R68, in their order. -/
def takePage (h : Header) (k : Nat) (rs : Option (List StitchRecord)) (s : Station) : Station :=
  if h.pages ≤ k then refuse .designPage .range s
  else if k < s.pgs.nextWanted then s
  else if s.pgs.nextWanted < k then s.setPgs { s.pgs with gap := true }
  else if s.pgs.free.isEmpty then s
  else checkPage h k rs s

/-- The owner's part of a Design Page. -/
def designPageOwner (p : Payload) (s : Station) : Station :=
  match s.pgs.header with
  | some h => takePage h (pageNumberOf p) (pageRecordsOf p) s
  | none => s

/-- DESIGN_PAGE (R68). -/
def execDesignPage (src : Addr) (p : Payload) (s : State) : Host.Outcome State Fault Refusal :=
  taken s (takeNotice .designPage (pageLengthFits p) src p (designPageOwner p))

end Sys2Proof.Machine
end

