-- ==== Sys2Proof/Machine/Drive.lean ====
section
/-! DEFINITION. Machine/Drive.lean: the main drive (7.6, 7.7): DRIVE_READY_FALL, DRIVE_READY_RISE, CREEP_TIMEOUT. -/

namespace Sys2Proof.Machine

/-! ## DRIVE_READY_FALL (R120, R124) -/

/-- R124: a fall during a creep takes the attempt back; the sequence waits for the drive. A fall while the sequence waits for a rest
leaves it so (DESIGN CHOICE, log entry 51). -/
def creepLosesDrive (s : Station) : Station :=
  if s.sgv.reposition = some .creeping then
    let s := governorStop s
    s.setSgv { s.sgv with reposition := some .awaitingDrive, attempts := s.sgv.attempts - 1 }
  else s

/-- R120: a fall of DRIVE_READY by the station's state. -/
def driveFalls (s : Station) : Station :=
  match s.stc.state with
  | .run => fault (plainRecord .drive 0 s) s
  | .armed => fault (plainRecord .drive 0 s) s
  | .halting => fault (plainRecord .drive 0 s) s
  | .joining => s
  | .ready => s
  | .halted => s
  | .done => s

/-- The pins with DRIVE_READY at a level. -/
def drivePins (high : Bool) (p : Pins) : Pins := { p with driveReady := high }

/-- R120: a fall of DRIVE_READY, at a frame station whose input was high. -/
def driveReadyFall (s : Station) : Station :=
  let was := s.pins.driveReady
  let s := s.setPins (drivePins false s.pins)
  if s.stc.frameRole && was then driveFalls (creepLosesDrive s) else s

/-- DRIVE_READY_FALL (R120). -/
def execDriveReadyFall (s : State) : Host.Outcome State Fault Refusal :=
  takenPin s (drivePins false s.dev.pins) driveReadyFall

/-! ## DRIVE_READY_RISE (R120, R122, R124) -/

/-- R120, R124: a sequence that waits for the drive goes on: with the shaft at rest off top its next creep begins, at rest on top
nothing begins and nothing ends, and while the shaft turns it waits for the rest (log entry 18). -/
def sequenceGoesOn (s : Station) : Station :=
  if s.sht.atRest then (if restOnTop s then s else beginCreep s)
  else s.setSgv { s.sgv with reposition := some .awaitingRest }

/-- R122, R124: what a rise of DRIVE_READY lets begin: a sequence that waits for the drive goes on, and in the three states one begins
whenever the shaft is at rest off top, whether or not a low input had held one off (DESIGN CHOICE, log entry 53). -/
def driveRises (s : Station) : Station :=
  match s.sgv.reposition with
  | some .awaitingDrive => sequenceGoesOn s
  | some .creeping => s
  | some .awaitingRest => s
  | none =>
    match s.stc.state with
    | .armed => tryReposition s
    | .halted => tryReposition s
    | .done => tryReposition s
    | .joining => s
    | .ready => s
    | .run => s
    | .halting => s

/-- R120: a rise of DRIVE_READY, at a frame station whose input was low. -/
def driveReadyRise (s : Station) : Station :=
  let was := s.pins.driveReady
  let s := s.setPins (drivePins true s.pins)
  if s.stc.frameRole && !was then driveRises s else s

/-- DRIVE_READY_RISE (R120). -/
def execDriveReadyRise (s : State) : Host.Outcome State Fault Refusal :=
  takenPin s (drivePins true s.dev.pins) driveReadyRise

/-! ## CREEP_TIMEOUT (R124) -/

/-- R124: the rest reached event that ended a creep and this expiry of that creep's timer come together, the rest first: the
creep now in progress is the next one, whose timer stands at 0 (log entry 47). -/
def restCameFirst (s : Station) : Bool := decide (s.sgv.restAt = some s.now) && s.sht.atRest

/-- R124: the creep timer of a creep in progress reaches 3000 ms. -/
def creepEnds (s : Station) : Station :=
  let s := governorStop s
  if s.sht.atRest then creepOffTop s else s.setSgv { s.sgv with reposition := some .awaitingRest }

/-- R124: an expiry of the creep timer; one that finds its creep ended by a rest does nothing. -/
def creepRunsOut (s : Station) : Station :=
  if s.sgv.reposition = some .creeping then
    if restCameFirst s then s.setSgv { s.sgv with restAt := none } else creepEnds s
  else s

/-- CREEP_TIMEOUT (R124). -/
def execCreepTimeout (s : State) : Host.Outcome State Fault Refusal := taken s creepRunsOut

end Sys2Proof.Machine
end

