-- ==== Sys2Proof/Machine/Pantograph.lean ====
section
/-! DEFINITION. Machine/Pantograph.lean: Pantograph Go (6.5): HOME, PARK, RETURN, ABSOLUTE, SET_ORIGIN, TRACE, and the homing
events HOME_SWITCH_CLOSE, HOME_BACKOFF_DONE, HOME_SEEK_LIMIT. -/

namespace Sys2Proof.Machine

/-! ## Checks (R102) -/

/-- R102, row 2. -/
def goBusy (s : Station) : Bool :=
  s.ssq.walk.isSome || !movesComplete s || s.pnc.go.isSome || !s.sht.atRest

/-- R102: the first check that fails for a Go of the given variant. -/
def goRefusal (v : GoVariant) (p : Payload) (s : Station) : Option RefusalReason :=
  if variantOf p ≠ v.code then some .format
  else if goBusy s then some .busy
  else match v with
    | .home => none
    | .park => if s.pnc.homed then none else some .notHomed
    | .absolute => if s.pnc.homed then none else some .notHomed
    | .goReturn =>
      if !s.pnc.homed then some .notHomed
      else if (outsideField s (presentTarget s)).isSome then some .field
      else none
    | .setOrigin =>
      if !s.pnc.homed then some .notHomed
      else if s.stc.state ≠ .ready ∨ s.ssq.stitch ≠ 0 then some .state
      else none
    | .trace =>
      if !s.pnc.homed then some .notHomed
      else if s.pgs.header.isNone then some .noDesign
      else if cornersOutside s then some .field
      else none

/-- A Go that the acceptance table lets through: refused by R102, or carried out. -/
def goOwner (v : GoVariant) (p : Payload) (act : Station → Station) (s : Station) : Station :=
  match goRefusal v p s with
  | some reason => refuse .pantographGo reason s
  | none => act s

/-- A Pantograph Go notice of the given variant. -/
def takeGo (v : GoVariant) (src : Addr) (p : Payload) (act : Station → Station) (s : Station) : Station :=
  takeNotice .pantographGo (p.length == 6) src p (goOwner v p act) s

/-! ## HOME (R103, R104) -/

/-- A home switch at the acceptance of HOME: closed, the axis enters BACKOFF at once; open, it seeks. -/
def homeStart (now : Nat) (closed : Bool) : HomeAxis := if closed then .backoff else .seek now

/-- HOME accepted (R103). -/
def goHome (s : Station) : Station :=
  let g : Go := .home (homeStart s.now s.pins.xHome) (homeStart s.now s.pins.yHome)
  s.setPnc { s.pnc with homed := false, inPlace := false, go := some g }

/-- PANTOGRAPH_GO_HOME (R103). -/
def execPantographGoHome (src : Addr) (p : Payload) (xClosed yClosed : Bool) (s : State) : Host.Outcome State Fault Refusal :=
  let pins := { s.dev.pins with xHome := xClosed, yHome := yClosed }
  takenPin s pins (fun d => takeGo .home src p goHome (d.setPins pins))

/-- An axis of a HOME that has come to its end (R103). -/
def HomeAxis.ended : HomeAxis → Bool
  | .seek _ => false
  | .backoff => false
  | .done => true
  | .failed => true

/-- The HOME_FAIL record of a failed axis (R104). -/
def homeFail (a : Axis) (h : HomeAxis) (s : Station) : Station :=
  if h = .failed then fault (plainRecord .homeFail (axisCode a) s) s else s

/-- R104: HOME ends when the second axis does. Where both axes failed, the record of X is written before that of Y (DESIGN
CHOICE, log entry 42). -/
def homeEnd (x y : HomeAxis) (s : Station) : Station :=
  if x.ended && y.ended then
    let both := decide (x = .done) && decide (y = .done)
    homeFail .y y (homeFail .x x (s.setPnc { s.pnc with x := 0, y := 0, go := none, homed := both, inPlace := false }))
  else s.setPnc { s.pnc with go := some (.home x y) }

/-- A homing event of one axis: `f` gives the axis its next phase, and HOME may end. An axis in a phase that the event does not
move on is left as it is. -/
def homeEvent (a : Axis) (f : HomeAxis → HomeAxis) (s : Station) : Station :=
  match s.pnc.go with
  | some (.home x y) =>
    match a with
    | .x => if f x = x then s else homeEnd (f x) y s
    | .y => if f y = y then s else homeEnd x (f y) s
  | _ => s

/-- R103: the switch of a seeking axis closes. -/
def switchCloses : HomeAxis → HomeAxis
  | .seek _ => .backoff
  | h => h

/-- R103: the 40 steps of a BACKOFF are made. -/
def backoffEnds : HomeAxis → HomeAxis
  | .backoff => .done
  | h => h

/-- R103: a SEEK reaches its limit. -/
def seekFails : HomeAxis → HomeAxis
  | .seek _ => .failed
  | h => h

/-- The pins with the switch of an axis closed. -/
def closeSwitch (a : Axis) (p : Pins) : Pins :=
  match a with
  | .x => { p with xHome := true }
  | .y => { p with yHome := true }

/-- HOME_SWITCH_CLOSE (R103). -/
def execHomeSwitchClose (a : Axis) (s : State) : Host.Outcome State Fault Refusal :=
  takenPin s (closeSwitch a s.dev.pins) (fun d => homeEvent a switchCloses (d.setPins (closeSwitch a d.pins)))

/-- HOME_BACKOFF_DONE (R103). -/
def execHomeBackoffDone (a : Axis) (s : State) : Host.Outcome State Fault Refusal := taken s (homeEvent a backoffEnds)

/-- HOME_SEEK_LIMIT (R103). -/
def execHomeSeekLimit (a : Axis) (s : State) : Host.Outcome State Fault Refusal := taken s (homeEvent a seekFails)

/-- The number of steps at which a SEEK of an axis fails (R103). -/
def seekLimit (m : MotionSection) : Axis → Nat
  | .x => m.xMax + Config.homeOvertravel
  | .y => m.yMax + Config.homeOvertravel

/-- The steps a SEEK has made in `us` microseconds at the homing rate of V / 4 steps per millisecond (R103). -/
def seekSteps (m : MotionSection) (us : Nat) : Nat := m.topSpeed * us / 4000

/-! ## PARK, ABSOLUTE, RETURN (R105) -/

/-- The one leg of PARK, ABSOLUTE or RETURN; a leg of no displacement completes in the acceptance event (R105). -/
def goOneLeg (g : Go) (t : Int × Int) (s : Station) : Station :=
  let s := s.setPnc { s.pnc with go := some g, inPlace := false }
  if t.1 = s.pnc.x ∧ t.2 = s.pnc.y then
    let s := arrive t.1 t.2 s
    let s := if g = .goReturn then setInPlace s else s
    goLegDone s
  else startLeg t s

/-- The target of PARK (R105). -/
def parkTarget (s : Station) : Int × Int := ((motion s).parkX, (motion s).parkY)

/-- The target of ABSOLUTE: the notice's coordinates clamped into the field (R105). -/
def absoluteTarget (p : Payload) (s : Station) : Int × Int :=
  (clampCoord (motion s).xMax (goX p), clampCoord (motion s).yMax (goY p))

/-- PARK accepted (R105). -/
def goPark (s : Station) : Station := goOneLeg .park (parkTarget s) s

/-- ABSOLUTE accepted (R105). -/
def goAbsolute (p : Payload) (s : Station) : Station := goOneLeg .absolute (absoluteTarget p s) s

/-- RETURN accepted (R105). -/
def goReturn (s : Station) : Station := goOneLeg .goReturn (presentTarget s) s

/-- PANTOGRAPH_GO_PARK (R105). -/
def execPantographGoPark (src : Addr) (p : Payload) (s : State) : Host.Outcome State Fault Refusal :=
  taken s (takeGo .park src p goPark)

/-- PANTOGRAPH_GO_RETURN (R105). -/
def execPantographGoReturn (src : Addr) (p : Payload) (s : State) : Host.Outcome State Fault Refusal :=
  taken s (takeGo .goReturn src p goReturn)

/-- PANTOGRAPH_GO_ABSOLUTE (R105). -/
def execPantographGoAbsolute (src : Addr) (p : Payload) (s : State) : Host.Outcome State Fault Refusal :=
  taken s (takeGo .absolute src p (goAbsolute p))

/-! ## SET_ORIGIN (R106) -/

/-- SET_ORIGIN accepted (R106). -/
def setOrigin (s : Station) : Station :=
  recomputeFinding (setInPlace (s.setPnc { s.pnc with originX := s.pnc.x, originY := s.pnc.y }))

/-- PANTOGRAPH_GO_SET_ORIGIN (R106). -/
def execPantographGoSetOrigin (src : Addr) (p : Payload) (s : State) : Host.Outcome State Fault Refusal :=
  taken s (takeGo .setOrigin src p setOrigin)

/-! ## TRACE (R107) -/

/-- The five targets of a TRACE: the corners of the extents and the return point (R107). -/
def traceTargets (s : Station) : List (Int × Int) :=
  match s.pgs.header with
  | some h => cornerTargets s h ++ [(s.pnc.x, s.pnc.y)]
  | none => []

/-- TRACE accepted (R107). -/
def goTrace (s : Station) : Station := traceLegs (traceTargets s) s

/-- PANTOGRAPH_GO_TRACE (R107). -/
def execPantographGoTrace (src : Addr) (p : Payload) (s : State) : Host.Outcome State Fault Refusal :=
  taken s (takeGo .trace src p goTrace)

end Sys2Proof.Machine
end

