-- ==== Sys2Proof/Machine/Reset.lean ====
section
/-! DEFINITION. Machine/Reset.lean: the resets (2.2) and the address clash (R24): RESET_N_LOW, HARD_RESET, STATION_RESET. -/

namespace Sys2Proof.Machine

/-! ## RESET_N_LOW (R22, R108, R134) -/

/-- R22: while RESET_N is low the link is recessive, the gate low, SHAFT_STOP asserted and SHAFT_DEMAND at zero duty. A hard
reset ends every operation in progress at once: moves and Gos (R108), the case step (R134), the walk (R90), the knife
(R157). -/
def resetFalls (s : Station) : Station :=
  let s := (governorEnd s).setResetLow true
  let s := s.setSli { s.sli with sending := none, causeAgain := false }
  let s := s.setGtu { s.gtu with wanted := .low, drive := .low, seenHigh := false, stallTimer := none }
  let s := s.setPnc { s.pnc with move := none, pending := none, waiting := none, go := none, after := .normal }
  let s := s.setNcc { s.ncc with step := none, attempts := 0, stepWaiting := false }
  let s := s.setSsq { s.ssq with walk := none }
  knifeOff (dropDecision s)

/-- RESET_N_LOW (R22). -/
def execResetNLow (s : State) : Host.Outcome State Fault Refusal := .next { s with dev := resetFalls s.dev }

/-! ## HARD_RESET (R21, R22) -/

/-- HARD_RESET (R22): every block takes its hard-reset values, the straps as sampled (R21). -/
def execHardReset (addr : Addr) (head frame : Bool) (s : State) : Host.Outcome State Fault Refusal :=
  .next { s with dev := Station.hardReset s.dev.now s.dev.pins addr.toNat head frame }

/-! ## Entry to JOINING by a Station Reset or an address clash (R23, R24) -/

/-- R23: the Station Controller. The join window runs from 0, the fault list and the last refusal are cleared; neither at an
address clash (R24). The activity becomes ACTIVE (R163). -/
def joinStc (clash : Bool) (now : Nat) (c : StationControl) : StationControl :=
  { c with state := .joining, roster := none, timing := none, motion := none, thread := none,
           joinTimer := if clash then none else some now, former := .none, armTimer := none, haltReason := none,
           faults := if clash then c.faults else [], overflow := clash && c.overflow,
           lastRefusal := if clash then c.lastRefusal else none, activity := .active }

/-- What a Go becomes at a Station Reset, an address clash (R109): a HOME runs to its end, the others end with the leg in
progress. -/
def goWithoutLegs : Option Go → Option Go
  | some (.trace _) => some (.trace [])
  | g => g

/-- R109, R110: the Pantograph Controller at a Station Reset or an address clash. -/
def joinPnc (p : Pantograph) : Pantograph :=
  { p with inPlace := false, pending := none, waiting := none, finding := none, deferred := false,
           go := goWithoutLegs p.go, after := if p.move.isSome then .leave else .normal }

/-- R126: the Speed Governor; the measured speed is kept. -/
def joinSgv (g : Governor) : Governor := { Governor.reset with measured := g.measured }

/-- R138, R134: the Needle Case Controller; a step in progress completes, one that waits for a retry ends. -/
def joinNcc (n : NeedleCase) : NeedleCase :=
  { n with map := List.replicate Config.colourSlots 0, stopped := .none, settleTimer := none, settled := false }

/-- R151: the Thread Monitor; the fault counts and service flags are kept. -/
def joinThm (t : ThreadMonitor) : ThreadMonitor := { ThreadMonitor.reset with counts := t.counts, service := t.service }

/-- R163: Head Stitch Control; a knife cycle in progress goes on. -/
def joinHsc (h : HeadControl) : HeadControl := { h with mark := 0, decision := none, holdEngaged := true }

/-- Entry to JOINING with every effect R23 lists, or R24 with `clash`. The Shaft Tracker keeps its record (R6). -/
def toJoining (clash : Bool) (s : Station) : Station :=
  let s := caseLeaves s
  let s := s.setStc (joinStc clash s.now s.stc)
  let s := s.setGtu GateUnit.reset
  let s := s.setPrt []
  let s := s.setPgs PageStore.empty
  let s := s.setSsq Sequencer.reset
  let s := judgeField (s.setPnc (joinPnc s.pnc))
  let s := s.setSgv (joinSgv s.sgv)
  let s := s.setNcc (joinNcc s.ncc)
  let s := s.setThm (joinThm s.thm)
  s.setHsc (joinHsc s.hsc)

/-- An accepted Station Reset (R23); its acceptance is a cause for sending Status (R48). -/
def stationReset (s : Station) : Station := causeStatus (toJoining false s)

/-- STATION_RESET (R23). -/
def execStationReset (src : Addr) (p : Payload) (s : State) : Host.Outcome State Fault Refusal :=
  taken s (takeNotice .stationReset (p.length == 1) src p stationReset)

/-! ## ADDRESS_CLASH (R24, R50) -/

/-- R24: the station takes an ADDRESS_CLASH fault; the slot is emptied and stays empty (R47). -/
def addressClash (s : Station) : Station :=
  let record := plainRecord .addressClash s.stc.addr s
  let s := addRecord record (toJoining true s)
  let s := s.setStc { s.stc with lock := .addressClash }
  s.setSli { s.sli with slotPending := false, sending := none, causeAgain := false }

end Sys2Proof.Machine
end

