-- ==== Sys2Proof/Machine/Peers.lean ====
section
/-! DEFINITION. Machine/Peers.lean: the Station Link's events (chapter 3): NOTICE_DISCARDED, STATUS_RECEIVED, PEER_LOST and the
transmit slot's STATUS_INTERVAL, STATUS_ATTEMPT, LOST_ARBITRATION, STATUS_SENT. -/

namespace Sys2Proof.Machine

/-! ## NOTICE_DISCARDED (R41) -/

/-- NOTICE_DISCARDED (R41): a discarded notice reaches no block. -/
def execNoticeDiscarded (_bits : List Bool) (s : State) : Host.Outcome State Fault Refusal := taken s id

/-! ## STATUS_RECEIVED: the Peer Table (R52) -/

/-- The entry of an address, if there is one. -/
def peerOf (s : Station) (addr : Nat) : Option PeerEntry := s.prt.find? (fun e => e.addr == addr)

/-- A change of the entry of one address. -/
def setPeer (addr : Nat) (f : PeerEntry → PeerEntry) (s : Station) : Station :=
  s.setPrt (s.prt.map (fun e => if e.addr = addr then f e else e))

/-- R52: a Status heard from a peer. -/
def hear (now : Nat) (i : StatusItems) (e : PeerEntry) : PeerEntry :=
  { e with heard := true, last := some i, ageFrom := now, lost := false }

/-- R162: the activity of a roster head, handed to the frame station's count. -/
def handActivity (e : PeerEntry) (s : Station) : Station := if e.head then headCheck s else s

/-- A stitch number within a walk's span, both ends included (R86). -/
def inWalk (k : Walk) (n : Nat) : Bool := decide (min k.start k.target ≤ n ∧ n ≤ max k.start k.target)

/-- R88: a head takes the frame station's stitch number as the stitch of a cut. -/
def copyStitch (k : Walk) (n : Nat) (s : Station) : Station :=
  afterStitchChange (walkOver (cutReport k n (moveStitch n s)))

/-- R86: a head-only station ends its walk on a Status of the frame station that shows walking clear. -/
def headWalkEnd (k : Walk) (i : StatusItems) (s : Station) : Station :=
  if decide (i.state = .halted ∨ i.state = .done) && inWalk k i.stitch && decide (i.stitch ≠ s.ssq.stitch) then
    copyStitch k i.stitch s
  else walkOver s

/-- R86: the frame station's Status, handed to the Stitch Sequencer of a head-only station in a walk. -/
def handFrameStitch (e : PeerEntry) (i : StatusItems) (s : Station) : Station :=
  if s.stc.headRole && !s.stc.frameRole && e.frame && !i.walking then
    match s.ssq.walk with
    | some k => headWalkEnd k i s
    | none => s
  else s

/-- R122: a peer in ARMED at rest and not on top, while this frame station is in ARMED at rest on top. -/
def handPeerRest (i : StatusItems) (s : Station) : Station :=
  if decide (s.stc.state = .armed) && restOnTop s && decide (i.state = .armed) && i.atRest && !i.onTop && sequenceFree s then
    beginSequence s
  else s

/-- R54: a peer in HALTING turns a station in RUN to HALTING. -/
def judgePeerHalt (i : StatusItems) (s : Station) : Station :=
  if s.stc.state = .run ∧ i.state = .halting then haltCause .peerHalt s else s

/-- Both stations are in a state of the at-rest comparison, and neither walks (R55). -/
def comparedAtRest (i : StatusItems) (s : Station) : Bool :=
  restState s.stc.state && restState i.state && s.ssq.walk.isNone && !i.walking

/-- Both stations are in RUN with stitch numbers that differ by more than one, and neither walks (R55). -/
def runsApart (i : StatusItems) (s : Station) : Bool :=
  decide (s.stc.state = .run ∧ i.state = .run) && s.ssq.walk.isNone && !i.walking &&
  decide (s.ssq.stitch + 1 < i.stitch ∨ i.stitch + 1 < s.ssq.stitch)

/-- R55: the comparisons of the stitch numbers, and the mismatched-at-rest mark. -/
def judgeIndex (addr : Nat) (i : StatusItems) (s : Station) : Station :=
  let differ := comparedAtRest i s && decide (s.ssq.stitch ≠ i.stitch)
  let apart := runsApart i s || (differ && decide (s.stc.state = .armed))
  let s := setPeer addr (fun e => { e with mismatched := differ }) s
  if apart then fault (plainRecord .indexMismatch addr s) s else s

/-- R52, R54, R55: a Status from a roster peer, its hand-offs in the order in which R52 lists them: the count of R162 before the
re-positioning of R122 (DESIGN CHOICE, log entry 52). -/
def hearPeer (e : PeerEntry) (i : StatusItems) (s : Station) : Station :=
  let s := setPeer e.addr (hear s.now i) s
  judgeIndex e.addr i (judgePeerHalt i (handPeerRest i (handFrameStitch e i (handActivity e s))))

/-- R43, R50: a Status of another transmitter. -/
def takeStatus (src : Addr) (p : Payload) (s : Station) : Station :=
  if src.toNat = 0 then s
  else if src.toNat = s.stc.addr ∧ s.stc.lock = .none then addressClash s
  else match peerOf s src.toNat, decodeStatus p with
    | some e, some i => hearPeer e i s
    | _, _ => s

/-- STATUS_RECEIVED (R43). -/
def execStatusReceived (src : Addr) (p : Payload) (s : State) : Host.Outcome State Fault Refusal := taken s (takeStatus src p)

/-! ## PEER_LOST (R53) -/

/-- R53, R88: a peer lost during a walk in HALTED: the walk is cut, or on a head-only station that loses the frame station it
ends at once. -/
def walkLosesPeer (e : PeerEntry) (s : Station) : Station :=
  if s.ssq.walk.isSome && !s.stc.frameRole && e.frame then walkOver s else cutWalk s

/-- R53: a peer becomes lost. -/
def losePeer (e : PeerEntry) (s : Station) : Station :=
  let s := setPeer e.addr (fun e => { e with lost := true, mismatched := false }) s
  match s.stc.state with
  | .run => fault (plainRecord .peerLost e.addr s) s
  | .armed => fault (plainRecord .peerLost e.addr s) s
  | .halted => walkLosesPeer e s
  | .joining => s
  | .ready => s
  | .halting => s
  | .done => s

/-- R53: the age of an entry exceeds 200 ms; an entry already lost is not lost a second time. -/
def ageRunsOut (addr : Addr) (s : Station) : Station :=
  match peerOf s addr.toNat with
  | some e => if e.lost then s else losePeer e s
  | none => s

/-- PEER_LOST (R53). -/
def execPeerLost (addr : Addr) (s : State) : Host.Outcome State Fault Refusal := taken s (ageRunsOut addr)

/-! ## The transmit slot (R47, R48, R42) -/

/-- STATUS_INTERVAL (R48): the interval timer sets the slot pending. -/
def execStatusInterval (s : State) : Host.Outcome State Fault Refusal := taken s causeStatus

/-- R49: the Status notice of a station as it stands: kind 16, its own address as the source in the arbitration field, and the
items in force as its payload. -/
def statusNotice (s : Station) : Notice :=
  { kind := NoticeKind.code .status, src := s.stc.addr, payload := encodeStatus (statusOf s) }

/-- R47: an attempt begins on an idle line; the contents are read now. -/
def attemptStatus (s : Station) : Station :=
  if s.sli.slotPending && s.sli.sending.isNone && !muted s then
    s.setSli { s.sli with sending := some (statusNotice s), causeAgain := false }
  else s

/-- STATUS_ATTEMPT (R47). -/
def execStatusAttempt (s : State) : Host.Outcome State Fault Refusal := taken s attemptStatus

/-- R42: the transmitter stops driving; its notice stays pending. -/
def yieldLine (s : Station) : Station := s.setSli { s.sli with sending := none, causeAgain := false }

/-- LOST_ARBITRATION (R42). -/
def execLostArbitration (s : State) : Host.Outcome State Fault Refusal := taken s yieldLine

/-- R47, R48: a Status is sent through its end field: the slot is empty, unless a cause arose meanwhile, and the interval timer
restarts. -/
def statusIsSent (s : Station) : Station :=
  if s.sli.sending.isSome then
    s.setSli { slotPending := s.sli.causeAgain, sending := none, causeAgain := false, intervalFrom := s.now }
  else s

/-- STATUS_SENT (R47). -/
def execStatusSent (s : State) : Host.Outcome State Fault Refusal := taken s statusIsSent

end Sys2Proof.Machine
end

