-- ==== Sys2Proof/Machine/Timers.lean ====
section
/-! DEFINITION. Machine/Timers.lean: ARM_TIMEOUT (R33) and JOIN_TIMEOUT (R25). -/

namespace Sys2Proof.Machine

/-- R33: the arm timer of a station in ARMED reaches the arm timeout. -/
def armRunsOut (s : Station) : Station := if s.stc.state = .armed then returnToFormer s else s

/-- ARM_TIMEOUT (R33). -/
def execArmTimeout (s : State) : Host.Outcome State Fault Refusal := taken s armRunsOut

/-- The held sections are discarded and, with the roster, the Peer Table's entries (R25, R51); the field in force
is the default one again (R94). -/
def discardSections (s : Station) : Station :=
  judgeField ((s.setStc { s.stc with roster := none, timing := none, motion := none, thread := none }).setPrt [])

/-- R25: the join timer reaches 5000 ms with the station still in JOINING. -/
def joinRunsOut (s : Station) : Station :=
  if s.stc.state = .joining ∧ s.stc.lock = .none ∧ s.stc.joinTimer.isSome = true then
    let record : FaultRecord := { kind := .joinTimeout, stitch := 0, needle := none, value := some (sectionsHeld s) }
    let s := fault record (discardSections s)
    s.setStc { s.stc with joinTimer := some s.now }
  else s

/-- JOIN_TIMEOUT (R25). -/
def execJoinTimeout (s : State) : Host.Outcome State Fault Refusal := taken s joinRunsOut

end Sys2Proof.Machine
end

