-- ==== Sys2Proof/Machine/Dispatch.lean ====
section
/-! DEFINITION. Machine/Dispatch.lean: one arm per command, each a direct call of its meaning. -/

namespace Sys2Proof.Machine

/-- The effect of a command on everything but the queue (spec/opcode_table.json). -/
def exec (i : Instr) (s : State) : Host.Outcome State Fault Refusal :=
  match i with
  | .resetNLow => Sys2Proof.Machine.execResetNLow s
  | .hardReset addr head frame => Sys2Proof.Machine.execHardReset addr head frame s
  | .encoderForwardCount tension => Sys2Proof.Machine.execEncoderForwardCount tension s
  | .encoderReverseCount tension => Sys2Proof.Machine.execEncoderReverseCount tension s
  | .indexPulse => Sys2Proof.Machine.execIndexPulse s
  | .restReached => Sys2Proof.Machine.execRestReached s
  | .seenLevelChange high => Sys2Proof.Machine.execSeenLevelChange high s
  | .stallTimeout => Sys2Proof.Machine.execStallTimeout s
  | .armTimeout => Sys2Proof.Machine.execArmTimeout s
  | .joinTimeout => Sys2Proof.Machine.execJoinTimeout s
  | .noticeDiscarded bits => Sys2Proof.Machine.execNoticeDiscarded bits s
  | .stop src p => Sys2Proof.Machine.execStop src p s
  | .stationReset src p => Sys2Proof.Machine.execStationReset src p s
  | .start src p => Sys2Proof.Machine.execStart src p s
  | .back src p => Sys2Proof.Machine.execBack src p s
  | .forward src p => Sys2Proof.Machine.execForward src p s
  | .headSelect src p => Sys2Proof.Machine.execHeadSelect src p s
  | .faultClear src p => Sys2Proof.Machine.execFaultClear src p s
  | .pantographGoHome src p xClosed yClosed => Sys2Proof.Machine.execPantographGoHome src p xClosed yClosed s
  | .pantographGoPark src p => Sys2Proof.Machine.execPantographGoPark src p s
  | .pantographGoReturn src p => Sys2Proof.Machine.execPantographGoReturn src p s
  | .pantographGoAbsolute src p => Sys2Proof.Machine.execPantographGoAbsolute src p s
  | .pantographGoSetOrigin src p => Sys2Proof.Machine.execPantographGoSetOrigin src p s
  | .pantographGoTrace src p => Sys2Proof.Machine.execPantographGoTrace src p s
  | .needleMap src p => Sys2Proof.Machine.execNeedleMap src p s
  | .configureRoster src p => Sys2Proof.Machine.execConfigureRoster src p s
  | .configureTiming src p => Sys2Proof.Machine.execConfigureTiming src p s
  | .configureMotion src p => Sys2Proof.Machine.execConfigureMotion src p s
  | .configureThread src p => Sys2Proof.Machine.execConfigureThread src p s
  | .designOpen src p => Sys2Proof.Machine.execDesignOpen src p s
  | .designPage src p => Sys2Proof.Machine.execDesignPage src p s
  | .statusReceived src p => Sys2Proof.Machine.execStatusReceived src p s
  | .peerLost addr => Sys2Proof.Machine.execPeerLost addr s
  | .statusInterval => Sys2Proof.Machine.execStatusInterval s
  | .statusAttempt => Sys2Proof.Machine.execStatusAttempt s
  | .lostArbitration => Sys2Proof.Machine.execLostArbitration s
  | .statusSent => Sys2Proof.Machine.execStatusSent s
  | .moveComplete => Sys2Proof.Machine.execMoveComplete s
  | .homeSwitchClose axis => Sys2Proof.Machine.execHomeSwitchClose axis s
  | .homeBackoffDone axis => Sys2Proof.Machine.execHomeBackoffDone axis s
  | .homeSeekLimit axis => Sys2Proof.Machine.execHomeSeekLimit axis s
  | .driveReadyFall => Sys2Proof.Machine.execDriveReadyFall s
  | .driveReadyRise => Sys2Proof.Machine.execDriveReadyRise s
  | .creepTimeout => Sys2Proof.Machine.execCreepTimeout s
  | .caseSensorChange code latch => Sys2Proof.Machine.execCaseSensorChange code latch s
  | .stepTimeout => Sys2Proof.Machine.execStepTimeout s
  | .settleTimerExpiry => Sys2Proof.Machine.execSettleTimerExpiry s
  | .threadPulse => Sys2Proof.Machine.execThreadPulse s

end Sys2Proof.Machine
end

