-- ==== Sys2Proof/Machine/Step.lean ====
section
/-! DEFINITION. Machine/Step.lean: one step of the block: the command at the front of the queue, or, with none waiting, one microsecond of
the part's clock. -/

namespace Sys2Proof.Machine

/-- With no command waiting, one microsecond passes (DESIGN CHOICE, log entry 3). -/
def tick (s : State) : State := { s with dev := s.dev.setNow (s.dev.now + 1) }

/-- One step: the command at the front of the queue is taken, on the state with the rest of the queue. -/
def step (s : State) : Host.Outcome State Fault Refusal :=
  match s.pending with
  | [] => .next (tick s)
  | c :: rest => exec c { s with pending := rest }

/-- `s` with the command that a word spells put at the front of its queue; `s` where the word spells none. -/
def State.withFetchWord (s : State) (nbits w : Nat) : State :=
  match decodeTableWord nbits w with
  | some c => { s with pending := c :: s.pending }
  | none => s

end Sys2Proof.Machine
end

