-- ==== Sys2Proof/Safety.lean ====
section
/-! DEFINITION. Safety.lean: what counts as a safe run of the part, in the terms the statements use: what the invariants
say of a station, how a command's answer is written, and the input levels a command brings. -/

namespace Sys2Proof.Machine

/-! ## How an answer is written -/

/-- RESET_N is high: the part takes commands (R22). -/
abbrev Live (s : State) : Prop := s.dev.resetLow = false

/-- The state after a command that takes the station to `d`: `d` with the command closed (`finish`: R155, the gate's
drive by R10 to R13, a Status cause by R48), and the queue as it was. What closing does is stated of its own. -/
def closed (s : State) (d : Station) : State := { s with dev := finish s.dev d }

/-- The notice a command stands for, if it is a console notice: its kind, whether its length fits the kind (R44, check 3),
its source and its payload. -/
def noticeOf : Instr → Option (NoticeKind × Bool × Addr × Payload)
  | .stop a p => some (.stop, p.length == 1, a, p)
  | .stationReset a p => some (.stationReset, p.length == 1, a, p)
  | .start a p => some (.start, p.length == 1, a, p)
  | .back a p => some (.back, p.length == 4, a, p)
  | .forward a p => some (.forward, p.length == 4, a, p)
  | .headSelect a p => some (.headSelect, p.length == 5, a, p)
  | .faultClear a p => some (.faultClear, p.length == 2, a, p)
  | .pantographGoHome a p _ _ => some (.pantographGo, p.length == 6, a, p)
  | .pantographGoPark a p => some (.pantographGo, p.length == 6, a, p)
  | .pantographGoReturn a p => some (.pantographGo, p.length == 6, a, p)
  | .pantographGoAbsolute a p => some (.pantographGo, p.length == 6, a, p)
  | .pantographGoSetOrigin a p => some (.pantographGo, p.length == 6, a, p)
  | .pantographGoTrace a p => some (.pantographGo, p.length == 6, a, p)
  | .needleMap a p => some (.needleMap, p.length == 33, a, p)
  | .configureRoster a p => some (.configure, configureLengthFits .roster p, a, p)
  | .configureTiming a p => some (.configure, configureLengthFits .timing p, a, p)
  | .configureMotion a p => some (.configure, configureLengthFits .motion p, a, p)
  | .configureThread a p => some (.configure, configureLengthFits .thread p, a, p)
  | .designOpen a p => some (.designOpen, p.length == 22, a, p)
  | .designPage a p => some (.designPage, pageLengthFits p, a, p)
  | .resetNLow | .hardReset _ _ _ | .encoderForwardCount _ | .encoderReverseCount _ | .indexPulse | .restReached
  | .seenLevelChange _ | .stallTimeout | .armTimeout | .joinTimeout | .noticeDiscarded _ | .statusReceived _ _
  | .peerLost _ | .statusInterval | .statusAttempt | .lostArbitration | .statusSent | .moveComplete
  | .homeSwitchClose _ | .homeBackoffDone _ | .homeSeekLimit _ | .driveReadyFall | .driveReadyRise | .creepTimeout
  | .caseSensorChange _ _ | .stepTimeout | .settleTimerExpiry | .threadPulse => none

/-- Whether a command is a console notice that passes checks 1 to 5 of R44 at the station. -/
def passesChecks (c : Instr) (d : Station) : Bool :=
  match noticeOf c with
  | some (kind, lenOk, src, p) => noticeTaken d kind lenOk src p
  | none => false

/-- The console notice `c` passes checks 1 to 5 of R44 at the station and reaches its owner. -/
abbrev Taken (c : Instr) (d : Station) : Prop := passesChecks c d = true

/-- The input levels after a command (12.1): the readings and levels it brings, the others as they were. -/
def levelsAfter (c : Instr) (p : Pins) : Pins :=
  match c with
  | .encoderForwardCount t => { p with tension := t.toNat }
  | .encoderReverseCount t => { p with tension := t.toNat }
  | .pantographGoHome _ _ x y => { p with xHome := x, yHome := y }
  | .homeSwitchClose a => { p with xHome := p.xHome || decide (a = .x), yHome := p.yHome || decide (a = .y) }
  | .driveReadyFall => { p with driveReady := false }
  | .driveReadyRise => { p with driveReady := true }
  | .caseSensorChange code latch => { p with caseCode := code.toNat, caseLatch := latch }
  | .resetNLow | .hardReset _ _ _ | .indexPulse | .restReached | .seenLevelChange _ | .stallTimeout | .armTimeout
  | .joinTimeout | .noticeDiscarded _ | .stop _ _ | .stationReset _ _ | .start _ _ | .back _ _ | .forward _ _
  | .headSelect _ _ | .faultClear _ _ | .pantographGoPark _ _ | .pantographGoReturn _ _ | .pantographGoAbsolute _ _
  | .pantographGoSetOrigin _ _ | .pantographGoTrace _ _ | .needleMap _ _ | .configureRoster _ _ | .configureTiming _ _
  | .configureMotion _ _ | .configureThread _ _ | .designOpen _ _ | .designPage _ _ | .statusReceived _ _ | .peerLost _
  | .statusInterval | .statusAttempt | .lostArbitration | .statusSent | .moveComplete | .homeBackoffDone _
  | .homeSeekLimit _ | .creepTimeout | .stepTimeout | .settleTimerExpiry | .threadPulse => p

/-! ## What a count does in every case (R1, R5, R19, R139) -/

/-- The station after the part of an encoder count that every count has: the TENSION reading `t` at the pin, and in the
open penetration's peak while its window is open (R139); the still timer restarted (R1), and in RUN the stall timer (R19);
a shaft at rest leaves rest, which clears position given up (R5, R122). -/
def counted (t : Nat) (d : Station) : Station :=
  { d with
    pins := { d.pins with tension := t }
    sht := { d.sht with stillFrom := d.now, atRest := false, onTop := d.sht.onTop && !d.sht.atRest }
    gtu := { d.gtu with stallTimer := if d.stc.state = .run then some d.now else d.gtu.stallTimer }
    sgv := { d.sgv with givenUp := d.sgv.givenUp && !d.sht.atRest }
    thm := { d.thm with pen :=
      if d.stc.headRole then d.thm.pen.map (fun p => { p with peak := if p.window then max p.peak t else p.peak })
      else d.thm.pen } }

/-- No named angle is due at the present angle (R7): the station is not synchronised, or each name that stands for it has
been raised in this revolution. -/
def NothingDue (d : Station) : Prop :=
  d.sht.synced = false ∨ ∀ n : AngleName, angleOf (timing d) n = d.sht.angle → n ∈ d.sht.raised

/-- The name `n` alone is due at the present angle (R7). -/
def OnlyDue (n : AngleName) (d : Station) : Prop :=
  d.sht.synced = true ∧ angleOf (timing d) n = d.sht.angle ∧ n ∉ d.sht.raised ∧
    ∀ m : AngleName, m ≠ n → angleOf (timing d) m = d.sht.angle → m ∈ d.sht.raised

/-- The name `n` added to the raised set (R7). -/
def marked (n : AngleName) (d : Station) : Station := { d with sht := { d.sht with raised := d.sht.raised ++ [n] } }

/-- The names due at the present angle, in the order in which they are raised (R7, R9: A_arm before K_on, K_off before D): none
while the station is not synchronised, and no name twice in a revolution. -/
def dueNames (d : Station) : List AngleName :=
  [AngleName.m, .h, .aArm, .tuOpen, .kOn, .tuClose, .kOff, .d, .wOpen].filter (fun n =>
    d.sht.synced && decide (angleOf (timing d) n = d.sht.angle) && decide (n ∉ d.sht.raised))

/-- The events of the given names, one after another (R7): each name joins the raised set, its receivers act, and the gate takes the
level it is due. -/
def handed : List AngleName → Station → Station
  | [], d => d
  | n :: ns, d => handed ns (driveGate (receive n (marked n d)))

/-- The shaft comes to the angle `a`: the events due there are handed on (R2, R7). -/
def comesTo (a : Nat) (d : Station) : Station :=
  let e := { d with sht := { d.sht with angle := a } }
  handed (dueNames e) e

/-- The capture of an accepted index at lag 0 (R4, R121): with the chain set the period since the last such index, and on
a frame station the measured speed; with the chain cleared it sets the chain. -/
def captured (d : Station) : Station :=
  let p := min 16777215 (d.now - d.sht.indexAt)
  if d.sht.chain then
    { d with
      sht := { d.sht with period := p, indexAt := d.now }
      sgv := { d.sgv with measured :=
        if d.stc.frameRole then (if p = 0 then none else some (60000000 / p)) else d.sgv.measured } }
  else { d with sht := { d.sht with chain := true, indexAt := d.now } }

/-- R121: the capture of a frame station in RUN measures a speed above nine eighths of N_topE. -/
def Overspeed (d : Station) : Prop :=
  d.stc.frameRole = true ∧ d.stc.state = .run ∧ d.sht.chain = true ∧
    ∃ v, (captured d).sgv.measured = some v ∧ 9 * nTopE (motion d) < 8 * v

/-! ## What the rest and the station state do (R5, R32, R34) -/

/-- The station at the rest reached event, before its state acts on it (R5, R4, R121, R143, R155, R157). -/
def rested (d : Station) : Station :=
  { d with
    sht := { d.sht with atRest := true, onTop := d.sht.synced && inRestZone d.sht.angle, chain := false, period := 0 }
    sgv := { d.sgv with measured := none }
    hsc := { d.hsc with decision := none, holdEngaged := true, knife := false, knifePending := false }
    thm := { d.thm with pen := none } }

/-- The needle case of a station that leaves ARMED (R134): a step goes on, but one that waits for a retry ends. -/
def NeedleCase.left (n : NeedleCase) : NeedleCase :=
  { n with
    step := n.step.filter (fun k => k.timer.isSome)
    attempts := if n.step.any (fun k => k.timer.isNone) then 0 else n.attempts
    stepWaiting := false }

/-- A frame station whose shaft is at rest begins a re-positioning sequence in the states that have one (R122). -/
abbrev CreepDue (d : Station) : Prop :=
  d.stc.frameRole = true ∧ d.sht.atRest = true ∧ d.pins.driveReady = true ∧ d.sgv.reposition = none ∧
    d.sht.onTop = false ∧ d.sgv.givenUp = false

/-- The first creep of a sequence (R122, R123). -/
def creeps (d : Station) : Station :=
  { d with sgv := { d.sgv with mode := .creep, demand := (motion d).nHalt, reposition := some .creeping, attempts := 1,
                               creepTimer := some d.now, restAt := none } }

/-- The fault list with one more record (R164): appended, or lost to a full list, which sets the overflow flag. -/
def recorded (fr : FaultRecord) (d : Station) : Station :=
  { d with stc := { d.stc with
      faults := if d.stc.faults.length < 8 then d.stc.faults ++ [fr] else d.stc.faults
      overflow := d.stc.overflow || decide (8 ≤ d.stc.faults.length) } }

/-- A station in RUN that enters HALTING for a reason while the shaft turns (R34): the stall timer stops, SHAFT_STOP is
asserted with the demand at 0, a Status is due, and a reason that is no planned stop, after a commit, is a veto request at the
present angle (R12). -/
def halts (reason : HaltReason) (d : Station) : Station :=
  let planned := decide (reason = .colourStop ∨ reason = .endRecord)
  { d with
    stc := { d.stc with state := .halting, haltReason := some reason }
    gtu := { d.gtu with
      stallTimer := none
      commitSpan := planned && d.gtu.commitSpan
      vetoReq := if !planned && d.gtu.committed then d.gtu.vetoReq.or (some d.sht.angle) else d.gtu.vetoReq }
    sgv := { d.sgv with mode := .stopped, demand := 0, creepTimer := none }
    sli := (causeStatus d).sli }

/-- A station in ARMED that returns to READY (R33): any re-positioning ends (R119). -/
def returnsToReady (d : Station) : Station :=
  { d with
    stc := { d.stc with state := .ready, former := .none, armTimer := none }
    ncc := d.ncc.left
    sgv := { d.sgv with mode := .stopped, demand := 0, creepTimer := none, reposition := none, attempts := 0 }
    sli := (causeStatus d).sli }

/-- A station in ARMED that returns to HALTED (R33): a sequence in progress goes on, its creep with it (R119, R123); without one the
governor stops, and a sequence begins if the shaft rests off top (R122). -/
def returnsToHalted (d : Station) : Station :=
  let e := { d with
    stc := { d.stc with state := .halted, former := .none, armTimer := none }
    ncc := d.ncc.left
    sgv := if d.sgv.reposition = none then { d.sgv with mode := .stopped, demand := 0, creepTimer := none } else d.sgv
    sli := (causeStatus d).sli }
  if CreepDue e then creeps e else e

/-- No block finds anything wrong at an entry to ARMED, and none has anything to begin: no peer lost (R53), an ACTIVE head's
case latched on a wanted needle in service (R136), no finding (R95), and on a frame station the drive ready (R120), the shaft
at rest on top (R122), a head counted ACTIVE (R162). -/
abbrev ArmsQuietly (d : Station) : Prop :=
  (∀ e ∈ d.prt, e.lost = false) ∧
  (d.stc.headRole = true → d.stc.activity = .active →
    wantedNeedle d ≠ 0 ∧ inService d (wantedNeedle d) = true ∧ currentNeedle d = wantedNeedle d) ∧
  d.sgv.reposition = none ∧ d.pnc.finding = none ∧
  (d.stc.frameRole = true →
    d.pins.driveReady = true ∧ restOnTop d = true ∧ noActiveHead d = false)

/-- A station that enters ARMED so (R32, R136, R122). -/
def arms (former : Former) (d : Station) : Station :=
  { d with
    stc := { d.stc with state := .armed, former := former, haltReason := none, armTimer := some d.now }
    sgv := { d.sgv with mode := .stopped, demand := 0, creepTimer := none, givenUp := false }
    ncc := if d.stc.headRole = true ∧ d.stc.activity = .active then { d.ncc with stopped := .none, stepWaiting := false }
           else d.ncc
    sli := (causeStatus d).sli }

/-- HSC's verdict on a stitch with its record (R152): an ACTIVE head, a SEW or TRIM above the sewn-through mark, the case
settled, not stopped, on a wanted needle in service. -/
def penetrates (d : Station) (n : Nat) (fr : Option StitchRecord) : Bool :=
  decide (∃ r ∈ fr, r.kind = .sew ∨ r.kind = .trim) && decide (d.stc.activity = .active) && decide (d.hsc.mark < n) &&
  d.ncc.settled && decide (wantedNeedle d ≠ 0) && decide (d.ncc.stopped = .none) && inService d (wantedNeedle d)

/-- Whether a record is a TRIM. -/
def trims (fr : Option StitchRecord) : Bool := decide (∃ r ∈ fr, r.kind = .trim)

/-- An ACTIVE head withdrawn by its own fault (R161): the record written, the head WITHDRAWN, the station state and the halt reason as
they were; a step that waits for a retry ended (R134), a standing PENETRATE withheld (R155). -/
def withdraws (fr : FaultRecord) (d : Station) : Station :=
  { recorded fr d with
    stc := { (recorded fr d).stc with activity := .withdrawn }
    ncc := d.ncc.left
    hsc := match d.hsc.decision with
      | some x => if x.penetrate then
          { d.hsc with decision := some { x with penetrate := false }, holdEngaged := true } else d.hsc
      | none => d.hsc }

/-- A station in ARMED whose line is high, at its rest commit (R18): RUN, the former state none and the arm timer stopped; the dwell
count 0, lead set, committed cleared, the stall timer restarted; on a frame station SHAFT_STOP released with the demand at
N_halt; on a head the lead stitch r decided (R152, R153), a suppression and a filter restart begun (R142, R145); a step that
waits ended (R134), no entry mismatched at rest (R55), a Status due. -/
def restCommitted (d : Station) : Station :=
  let fr := d.pgs.read d.ssq.stitch
  let v := penetrates d d.ssq.stitch fr
  { d with
    stc := { d.stc with state := .run, former := .none, armTimer := none }
    sli := (causeStatus d).sli
    prt := d.prt.map (fun e => { e with mismatched := false })
    ncc := d.ncc.left
    gtu := { d.gtu with dwellCount := 0, lead := true, committed := false, commitSpan := false, stallTimer := some d.now }
    sgv := if d.stc.frameRole then { d.sgv with mode := .running, demand := (motion d).nHalt } else d.sgv
    hsc := if d.stc.headRole then
        { d.hsc with decision := some { stitch := d.ssq.stitch, penetrate := v, trim := trims fr, lead := true }, holdEngaged := !v }
      else d.hsc
    thm := if d.stc.headRole then { d.thm with suppression := (thread d).suppression, restart := true } else d.thm }

/-- Nothing turns a station back at its entry to RUN: no peer that is not lost was last seen in HALTING (R54), and a frame station
counts a head as ACTIVE (R162). -/
abbrev RunsOn (d : Station) : Prop := peerHalting d = false ∧ (d.stc.frameRole = true → noActiveHead d = false)

/-- The needle case of a station in ARMED has nothing to begin at a rest (R130, R132): no ACTIVE head, the shaft off top, a step
whose timer runs, or no step and none due. -/
abbrev CaseIdle (d : Station) : Prop :=
  d.stc.headRole = false ∨ d.stc.activity ≠ .active ∨ restOnTop d = false ∨ d.ncc.step.any (fun k => k.timer.isSome) = true ∨
    (d.ncc.step = none ∧ (d.ncc.stopped ≠ .none ∨ wantedNeedle d = 0 ∨ inService d (wantedNeedle d) = false ∨
      currentNeedle d = 0 ∨ currentNeedle d = wantedNeedle d))

/-- A step is due (R130): an ACTIVE head in ARMED, not stopped, with no step, latched on a needle that is not the wanted one, which
is in service. -/
abbrev StepDue (d : Station) : Prop :=
  d.stc.headRole = true ∧ d.stc.state = .armed ∧ d.stc.activity = .active ∧ d.ncc.stopped = .none ∧ d.ncc.step = none ∧
    wantedNeedle d ≠ 0 ∧ inService d (wantedNeedle d) = true ∧ currentNeedle d ≠ 0 ∧ currentNeedle d ≠ wantedNeedle d

/-- A step due with the shaft at rest on top (R130): the command to the adjacent needle toward the wanted one, one pulse with its
direction, attempts 1, the step timer from 0. -/
def steps (d : Station) : Station :=
  let up := decide (currentNeedle d < wantedNeedle d)
  { d with ncc := { d.ncc with
      step := some { fromNeedle := currentNeedle d, toNeedle := if up then currentNeedle d + 1 else currentNeedle d - 1,
                     up := up, timer := some d.now }
      attempts := 1, stepWaiting := false, dirUp := up, pulses := d.ncc.pulses + 1 } }

/-- The pending stitch move at rest (R98): with no move in progress it starts, in-place cleared; one of no displacement completes
at once, at its target with in-place set (R97, R101), homed kept only in the field (R94). -/
def pendingStarted (d : Station) : Station :=
  match d.pnc.move, d.pnc.pending with
  | none, some t =>
    if t.treq = 0 then
      let homed := d.pnc.homed && decide (outsideField d (t.x, t.y) = none)
      { d with pnc := { d.pnc with pending := none, x := t.x, y := t.y, homed := homed, inPlace := homed } }
    else
      { d with pnc := { d.pnc with
          pending := none, inPlace := false
          move := some { kind := .stitch, fromX := d.pnc.x, fromY := d.pnc.y, toX := t.x, toY := t.y, treq := t.treq,
                         started := d.now, atWOpen := false } } }
  | _, _ => d

/-- A station in RUN, its shaft at rest, that enters HALTING for a reason that is no planned stop (R34): the pending stitch move starts
(R98), the decision is dropped (log entry 14), and HALTING is left at once, to DONE at S and to HALTED otherwise (R36), where a frame
station off top begins its creep (R122). -/
def stops (reason : HaltReason) (d : Station) : Station :=
  let h := pendingStarted (halts reason d)
  let e := { h with
    stc := { h.stc with state := if atDesignEnd d then .done else .halted }
    hsc := { h.hsc with decision := none, holdEngaged := true } }
  if CreepDue e then creeps e else e

/-- The legs of a TRACE that are left at a position once those of no displacement are made (R97, R107). -/
def legsFrom (q : Int × Int) (legs : List (Int × Int)) : List (Int × Int) := legs.dropWhile (fun t => decide (t = q))

/-- The FIELD record of stitch r + 1 (R95). -/
def fieldFault (a : Axis) (d : Station) : FaultRecord :=
  { kind := .field, stitch := d.ssq.stitch + 1, needle := none, value := some (axisCode a) }

/-- A deferred FIELD whose event has come (R95): the record is written, and acts as R37 gives; with the finding back at NONE there is
none to write, and the flag is cleared (log entry 43). -/
def deferredWritten (d : Station) : Station :=
  let e := { d with pnc := { d.pnc with deferred := false } }
  match d.pnc.deferred, d.pnc.finding with
  | true, some a => fault (fieldFault a d) e
  | true, none => e
  | false, _ => d

/-- The next-target finding of a station at design position `px`, `py` and stitch `n`, with the pages `g` (R95): the first axis on
which the target of stitch n + 1 lies outside the field, or NONE, and NONE while that record is not held. -/
def nextFinding (d : Station) (g : PageStore) (n : Nat) (px py : Int) : Option Axis :=
  match g.read (n + 1) with
  | some r =>
    let q := targetOfPos d (px + r.dx) (py + r.dy)
    if q.1 < 0 ∨ ((motion d).xMax : Int) < q.1 then some .x
    else if q.2 < 0 ∨ ((motion d).yMax : Int) < q.2 then some .y else none
  | none => none

/-- A walk after its next `z` stitches (R85): for a Back the walk stitch falls by one, its position by the displacement of the record
left; for a Forward it rises by one, its position by that of the record entered. -/
def walkAfter (d : Station) (k : Walk) : Nat → Walk
  | 0 => k
  | z + 1 =>
    let j := walkAfter d k z
    match j.dir with
    | .back =>
      match d.pgs.read j.stitch with
      | some r => { j with stitch := j.stitch - 1, px := j.px - r.dx, py := j.py - r.dy }
      | none => { j with stitch := j.stitch - 1 }
    | .forward =>
      match d.pgs.read (j.stitch + 1) with
      | some r => { j with stitch := j.stitch + 1, px := j.px + r.dx, py := j.py + r.dy }
      | none => { j with stitch := j.stitch + 1 }

/-- The target of a walk after its next `z` stitches (R93). -/
def walkTarget (d : Station) (k : Walk) (z : Nat) : Int × Int := targetOfPos d (walkAfter d k z).px (walkAfter d k z).py

/-- The required time of the move to the stitch after the next `z` of a walk (R112, R113). -/
def walkTime (d : Station) (k : Walk) (z : Nat) : Nat :=
  moveTime (motion d) ((walkTarget d k (z + 1)).1 - (walkTarget d k z).1) ((walkTarget d k (z + 1)).2 - (walkTarget d k z).2)

/-- The next `z` stitches of a walk are short of its target and take no time to reach, each with its target in the field: the event
that makes the first of them makes them all (R85). -/
def Stands (d : Station) (k : Walk) (z : Nat) : Prop :=
  ∀ i, i < z → (walkAfter d k i).stitch ≠ k.target ∧ outsideField d (walkTarget d k (i + 1)) = none ∧ walkTime d k i = 0

/-- What R112 and R113 give for a leg from the present position to a target: the leg as the move in progress (R97). -/
def legStarted (d : Station) (t : Int × Int) : Move :=
  { kind := .go, fromX := d.pnc.x, fromY := d.pnc.y, toX := t.1, toY := t.2,
    treq := moveTime (motion d) (t.1 - d.pnc.x) (t.2 - d.pnc.y), started := d.now, atWOpen := false }

/-- A station that holds all four sections leaves JOINING (R26): READY, the join timer stopped, the governor at rest (R119), a
Status due; one that does not stays. -/
def joined (d : Station) : Station :=
  if d.stc.roster.isSome && d.stc.timing.isSome && d.stc.motion.isSome && d.stc.thread.isSome then
    { d with
      stc := { d.stc with state := .ready, joinTimer := none }
      sgv := { d.sgv with mode := .stopped, demand := 0, creepTimer := none, reposition := none, attempts := 0 }
      sli := (causeStatus d).sli }
  else d

/-- The last refusal recorded (R46), with a Status due (R48, R75); nothing else changes. -/
def refused (kind : NoticeKind) (why : RefusalReason) (d : Station) : Station :=
  { d with stc := { d.stc with lastRefusal := some (kind, why) }, sli := (causeStatus d).sli }

/-! ## The laws a safe run keeps -/

/-- The slot numbers of the four collections of the Page Store (4.3). -/
def PageStore.slots (g : PageStore) : List Nat :=
  g.free ++ (g.posted.map (·.slot) ++ (g.current.toList.map (·.slot) ++ g.retained.map (·.slot)))

/-- R62: each of the 512 page slots stands in exactly one of the four collections. -/
def SlotLaw (d : Station) : Prop := d.pgs.slots.Perm (List.range 512)

/-- The pages held, oldest first: the retained list, the current page, the posted queue (4.3). -/
def PageStore.pages (g : PageStore) : List Page := g.retained ++ (g.current.toList ++ g.posted)

/-- R58, R61, R70 to R73: the pages held are one run of consecutive numbers that ends below the next wanted page; a page has 1 to 12
records, and fewer than 12 only as the design's last; the retained list is within the retention depth; no page is held in JOINING or
without a design; the current page holds record r, and at stitch 0 there is no current page, nothing is retained, and the run begins at
page 0. A walk stands in HALTED with its target at r and its walk stitch between start and target, its start still held (R83, R87). -/
def PageLaw (d : Station) : Prop :=
  let g := d.pgs
  let r := d.ssq.stitch
  let held (n : Nat) : Prop := ∃ p ∈ g.pages, p.number = (n - 1) / 12 ∧ (n - 1) % 12 < p.records.length
  g.pages.length ≤ g.nextWanted ∧
  g.pages.map (·.number) = List.range' (g.nextWanted - g.pages.length) g.pages.length ∧
  (∀ p ∈ g.pages, 1 ≤ p.records.length ∧ p.records.length ≤ 12 ∧
    (p.records.length = 12 ∨ ∃ h ∈ g.header, h.pages = p.number + 1)) ∧
  (∀ h ∈ g.header, g.nextWanted ≤ h.pages) ∧
  ((g.header = none ∨ d.stc.state = .joining) → g.pages = []) ∧
  g.retained.length ≤ (motion d).retention ∧
  (r = 0 → g.current = none ∧ g.retained = [] ∧ g.pages.length = g.nextWanted) ∧
  (1 ≤ r → ∃ p ∈ g.current, p.number = (r - 1) / 12 ∧ (r - 1) % 12 < p.records.length) ∧
  (∀ k ∈ d.ssq.walk, d.stc.state = .halted ∧ k.target = r ∧
    ((k.dir = .back ∧ r ≤ k.stitch ∧ k.stitch ≤ k.start) ∨ (k.dir = .forward ∧ k.start ≤ k.stitch ∧ k.stitch ≤ r)) ∧
    (k.start = 0 → g.pages.length = g.nextWanted) ∧ (1 ≤ k.start → held k.start))

/-- R164: the fault list never holds more than 8 records. -/
def FaultLaw (d : Station) : Prop := d.stc.faults.length ≤ 8

/-- R10, R12, R13, R16: the gate is released only in ARMED while ready, in RUN, and in HALTING in the span after the commit of a
planned stop or while a pull-low waits for a guard to close; and a station whose drive is low sees the line low. -/
def GateLaw (d : Station) : Prop :=
  (d.gtu.drive = .released →
    (d.stc.state = .armed ∧ ready d = true) ∨ d.stc.state = .run ∨
    (d.stc.state = .halting ∧ (d.gtu.commitSpan = true ∨ d.gtu.waits.isSome = true))) ∧
  (d.gtu.seenHigh = true → d.gtu.drive = .released)

/-- R134: in RUN no step is in progress on an ACTIVE head. -/
def CaseLaw (d : Station) : Prop :=
  d.stc.headRole = true → d.stc.activity = .active → d.stc.state = .run → d.ncc.step = none

/-- R154: a PENETRATE stands only on an ACTIVE head whose case is settled on a wanted needle that is in service. -/
def PenetrationLaw (d : Station) : Prop :=
  ∀ x : Decision, d.hsc.decision = some x → x.penetrate = true → d.stc.activity = .active ∧ needleFit d = true

/-- R21, R24: a locked station is in JOINING. -/
def LockLaw (d : Station) : Prop := d.stc.lock ≠ .none → d.stc.state = .joining

/-- 1.1: the Shaft Tracker's items stay in their ranges, a name is raised at most once in a revolution (R7), none while
the station is not synchronised (R3), and on top means at rest, synchronised and in the rest zone (R5). -/
def ShaftLaw (d : Station) : Prop :=
  d.sht.angle < 1024 ∧ d.sht.lag ≤ 1023 ∧ d.sht.run ≤ 1027 ∧ d.sht.period ≤ 16777215 ∧ d.sht.raised.Nodup ∧
  (d.sht.synced = false → d.sht.raised = []) ∧
  (d.sht.onTop = true → d.sht.atRest = true ∧ d.sht.synced = true ∧ inRestZone d.sht.angle = true)

/-- R94, R101: a homed pantograph stands in the field, and only a homed one is in place. -/
def FieldLaw (d : Station) : Prop :=
  (d.pnc.homed = true → outsideField d (d.pnc.x, d.pnc.y) = none) ∧ (d.pnc.inPlace = true → d.pnc.homed = true)

/-- The items of a Status that its layout can carry (R172, 12.4): each number in its width, an oldest fault with a value
and with no needle 0. -/
def StatusItems.fits (i : StatusItems) : Prop :=
  i.sections < 16 ∧ i.faultCount < 16 ∧ i.dwellCount < 256 ∧ i.stitch < 2 ^ 24 ∧ i.report.requested < 2 ^ 24 ∧
  i.report.actual < 2 ^ 24 ∧ i.freePages < 2 ^ 16 ∧ i.nextWanted < 2 ^ 24 ∧
  (∀ h, i.head = some h → h.mark < 2 ^ 24 ∧ h.current < 16 ∧ h.wanted < 16 ∧ h.service < 2 ^ 12 ∧ h.filter < 2 ^ 16 ∧
    h.ceiling < 2 ^ 16) ∧
  (∀ f, i.frame = some f → f.demand < 2 ^ 16) ∧
  (∀ g, i.design = some g → g.ident < 2 ^ 16 ∧ g.stitches < 2 ^ 24 ∧ g.colourStops < 2 ^ 16) ∧
  (∀ r, i.oldest = some r → r.stitch < 2 ^ 24 ∧ r.needle ≠ some 0 ∧ (∀ n, r.needle = some n → n < 256) ∧
    ∃ v, r.value = some v ∧ v < 2 ^ 24)

/-- Five equal bits in a row (R40: a framing error). -/
def FiveEqual (bits : List Bool) : Prop :=
  ∃ (a z : List Bool) (b : Bool), bits = a ++ [b, b, b, b, b] ++ z

end Sys2Proof.Machine
end

