-- ==== Sys2Proof/Certificates/Slice0/Obligations.lean ====
section
/-! DEFINITION. Certificates/Slice0/Obligations.lean: the statements for the provers. Throughout, `closed s d` is the state
whose station is `d` with the command closed and whose queue is as it was; what closing does is stated by
`ClosingACommand`. -/

open Sys2Proof Sys2Proof.Machine

/-! ## Steps, answers, closing -/

/-- A step takes the command at the front of the queue: it runs that command on the state with the rest of the queue. -/
def Obligations.StepTakesFrontCommand : Prop :=
  ∀ (c : Instr) (rest : List Instr) (s : State), s.pending = c :: rest → step s = exec c { s with pending := rest }

/-- With no command waiting, a step lets one microsecond pass and nothing else (the model's choice, log entry 3). -/
def Obligations.IdleStepPassesOneMicrosecond : Prop :=
  ∀ s : State, s.pending = [] → step s = .next { s with dev := { s.dev with now := s.dev.now + 1 } }

/-- No command stops the part: every command, in every state, answers a next state, and leaves the queue as it was. The
input levels after it are those it brings, the others as they were (12.1).
Clauses rest on the model's choices of log entry 31. -/
def Obligations.EveryCommandAnswers : Prop :=
  ∀ (c : Instr) (s : State), ∃ t : State,
    exec c s = .next t ∧ t.pending = s.pending ∧ t.dev.pins = levelsAfter c s.dev.pins

/-- While RESET_N is low nothing but a rise of RESET_N acts on the part: every other command changes the input levels it
brings and nothing else (R22; that a low RESET_N holds off every event is the model's reading, log entry 5). -/
def Obligations.ResetLowHoldsThePart : Prop :=
  ∀ (c : Instr) (s : State), s.dev.resetLow = true → c ≠ .resetNLow → (∀ a h f, c ≠ .hardReset a h f) →
    exec c s = .next { s with dev := { s.dev with pins := levelsAfter c s.dev.pins } }

/-- Closing a command (R10 to R13, R16, R17, R137, R155, R47, R48). The hold reason is the first row of R11 whose condition
fails, row 7 failing while settled is clear or a step is in progress (log entry 54); row 2 is left out on a head-only
station that sits out (R168), and in ARMED and RUN on one of both roles whose WITHDRAWN head left the records of head faults
alone (R161, log entry 10); the wanted level is formed from it by R12. Status shows it, but for CASE_FAULT in place of
FAULTED on an ACTIVE head in HALTED that its case has stopped, with a record in its list (R137, log entry 44). The drive
follows the wanted level at once, but for a change that arises in a guard of R13: it waits, and goes on waiting until the D
event, or the H sample after the commit, is taken, wherever the angle goes meanwhile; then the drive takes the level wanted
at that moment. A pull-low makes the station see the line low and dates a standing veto request. A standing PENETRATE is
changed to HOLD, and HOLD engaged, unless the head is ACTIVE and its case settled, not stopped, on a wanted needle in
service. A change of an item of R48 (the state, the lock, the hold reason, formed and shown, the fault count and the
overflow flag, the activity, the tension state and with it the ceiling, walking, the set of sections, the last refusal, at
rest, on top; log entry 49) sets the transmit slot pending, or, while a Status is on the line, sets it to become pending
again, but on a muted station. Nothing else is touched. Clauses rest on the model's choices of log entries 4, 10, 12, 20,
29, 44, 49 and 54. -/
def Obligations.ClosingACommand : Prop :=
  ∀ b a : Station,
    let r := a.ssq.stitch
    let stitches : Nat := match a.pgs.header with
      | some h => h.stitches
      | none => 0
    let head := a.stc.headRole && decide (a.stc.activity = .active)
    let sits := a.stc.headRole && decide (a.stc.activity ≠ .active)
    let frame := a.stc.frameRole
    let headFaults := [FaultKind.threadBreak, .tensionLow, .tensionHigh, .caseJam, .caseLost, .noNeedle, .needleOut]
    let sewsOn := decide (a.stc.activity = .withdrawn ∧ (a.stc.state = .armed ∨ a.stc.state = .run) ∧
      ∀ fr ∈ a.stc.faults, fr.kind ∈ headFaults)
    let stopped := decide (a.ncc.stopped ≠ .none)
    let rows : List (Bool × HoldReason) := [
      (decide (a.stc.state = .halting), .halting),
      (decide (a.stc.faults ≠ []) && !(sits && (!frame || sewsOn)), .faulted),
      (decide (a.ssq.walk ≠ none), .walking),
      (head && stopped, .caseFault),
      (head && decide (wantedNeedle a = 0), .noNeedle),
      (head && !inService a (wantedNeedle a), .needleOut),
      (head && (!a.ncc.settled || a.ncc.step.isSome), .needleMoving),
      ((!sits || frame) && (decide (a.pgs.read (r + 1) = none) || decide (a.pgs.header ≠ none ∧ r = stitches)), .underrun),
      (frame && (List.range 15).any (fun j => decide (r + 2 + j ≤ stitches ∧ a.pgs.read (r + 2 + j) = none)), .lookahead),
      (frame && decide (a.pnc.finding ≠ none), .field),
      (frame && decide (a.pnc.move ≠ none ∨ a.pnc.pending ≠ none ∨ a.pnc.waiting ≠ none ∨ a.sgv.reposition ≠ none),
        .moveIncomplete),
      (decide (a.stc.state = .armed) && !(a.sht.atRest && a.sht.onTop), .offTop)]
    let hold : HoldReason := ((rows.find? (·.1)).map (·.2)).getD .none
    let shown : HoldReason :=
      if hold = .faulted ∧ head = true ∧ a.stc.state = .halted ∧ stopped = true then .caseFault else hold
    let wanted : Pull :=
      if (a.stc.state = .armed ∧ hold = .none) ∨
        (a.stc.state = .run ∧ a.gtu.commitSpan = true ∧ a.gtu.vetoReq = none) ∨
        (a.stc.state = .run ∧ a.gtu.commitSpan = false ∧ hold = .none) ∨
        (a.stc.state = .halting ∧ a.gtu.commitSpan = true ∧ a.gtu.vetoReq = none) then .released else .low
    let act := a.stc.state = .run ∨ a.stc.state = .halting
    let ahead := a.sht.synced = true ∧ AngleName.d ∉ a.sht.raised
    let sampled := a.sht.synced = true ∧ a.gtu.committed = true
    let atD := (timing a).d
    let atH := (timing a).h
    let arises : Option Guard :=
      if wanted = .released then (if act ∧ ahead ∧ atD ≤ a.sht.angle + 16 ∧ a.sht.angle < atD then some .d else none)
      else if act ∧ ahead ∧ atD < a.sht.angle + 16 ∧ a.sht.angle < atD then some .d
      else if act ∧ sampled ∧ atH < a.sht.angle + 16 ∧ a.sht.angle < atH then some .h else none
    let waits : Option Guard :=
      if a.gtu.drive = wanted then none
      else if a.gtu.waits = some .d then (if act ∧ ahead then some .d else none)
      else if a.gtu.waits = some .h then (if act ∧ sampled then some .h else none)
      else arises
    let pulled := wanted = .low ∧ a.gtu.drive = .released ∧ waits = none
    let sections (e : Station) := (e.stc.roster.isSome, e.stc.timing.isSome, e.stc.motion.isSome, e.stc.thread.isSome)
    let same := b.stc.state = a.stc.state ∧ b.stc.lock = a.stc.lock ∧ holdReason b = hold ∧ (statusOf b).hold = shown ∧
      b.stc.faults.length = a.stc.faults.length ∧ b.stc.overflow = a.stc.overflow ∧ b.stc.activity = a.stc.activity ∧
      b.thm.tension = a.thm.tension ∧ (b.ssq.walk = none ↔ a.ssq.walk = none) ∧ sections b = sections a ∧
      b.stc.lastRefusal = a.stc.lastRefusal ∧ b.sht.atRest = a.sht.atRest ∧
      (b.sht.atRest && b.sht.onTop) = (a.sht.atRest && a.sht.onTop)
    (holdReason a = hold ∧ (statusOf a).hold = shown ∧ wantedLevel a = wanted) ∧
    (finish b a).gtu =
      { a.gtu with
        wanted := wanted
        waits := waits
        drive := if waits = none then wanted else a.gtu.drive
        seenHigh := if pulled then false else a.gtu.seenHigh
        vetoReq := if pulled then a.gtu.vetoReq.map (fun _ => a.sht.angle) else a.gtu.vetoReq } ∧
    (finish b a).hsc =
      (match a.hsc.decision with
      | some x =>
        if x.penetrate = true ∧
            ¬(a.stc.activity = .active ∧ a.ncc.settled = true ∧ wantedNeedle a ≠ 0 ∧ a.ncc.stopped = .none ∧
              inService a (wantedNeedle a) = true)
        then { a.hsc with decision := some { x with penetrate := false }, holdEngaged := true } else a.hsc
      | none => a.hsc) ∧
    (finish b a).sli =
      (if same ∨ a.stc.lock = .addressClash ∨ (a.stc.lock = .strap ∧ a.stc.addr = 0) then a.sli
      else if a.sli.sending.isSome = true then { a.sli with causeAgain := true }
      else { a.sli with slotPending := true }) ∧
    finish b a = { a with gtu := (finish b a).gtu, hsc := (finish b a).hsc, sli := (finish b a).sli }

/-- R43 to R46: what the link interface does with a console notice before its owner sees it, for every kind: a notice that
is not the console's, has no payload, names another station or reaches a station without the role is ignored; a length that
does not fit is refused with FORMAT; a broadcast-only kind sent to one station with RANGE; then the acceptance table of R45,
written out with the three changes for a locked station and the READY entry of a Design Page, refuses it with STATE, or
takes it without effect. A refusal is recorded as the last refusal and is a cause for sending Status, be it equal to the one
that stood or not (R48, R75; log entry 50), and but for the home switch levels that a HOME brings nothing else changes. That
the payload of a Configure row which names another section does not fit, and is refused with FORMAT, is the model's choice
(log entry 28), for each section has a row of its own. -/
def Obligations.NoticeChecksBeforeOwner : Prop :=
  ∀ (c : Instr) (kind : NoticeKind) (lenOk : Bool) (src : Addr) (p : Payload) (s : State),
    Live s → noticeOf c = some (kind, lenOk, src, p) →
    let d := s.dev
    let A := Acceptance.accepted
    let N := Acceptance.noEffect
    let C := Acceptance.checked
    let S := Acceptance.refusedState
    let I := Acceptance.ignored
    let page := if d.pgs.header = none then I else C
    let row : List Acceptance := match kind with
      | .stop => [N, N, A, A, A, A, A]
      | .stationReset => [A, A, A, A, A, A, A]
      | .start => [S, C, N, N, S, C, C]
      | .back => [S, S, S, S, S, C, C]
      | .forward => [S, S, S, S, S, C, S]
      | .headSelect => [S, A, S, S, S, A, A]
      | .faultClear => [A, A, S, S, S, A, A]
      | .pantographGo => [S, C, S, S, S, C, C]
      | .needleMap => [S, A, S, S, S, A, A]
      | .configure => [C, S, S, S, S, S, S]
      | .designOpen => [S, A, S, S, S, A, A]
      | .designPage => [I, page, C, C, C, C, I]
      | .status => []
    let column := match d.stc.state with
      | .joining => 0
      | .ready => 1
      | .armed => 2
      | .run => 3
      | .halting => 4
      | .halted => 5
      | .done => 6
    let entry : Acceptance :=
      if d.stc.lock ≠ .none ∧ kind = .stationReset then I
      else if d.stc.lock ≠ .none ∧ (kind = .configure ∨ kind = .faultClear) then S
      else row.getD column I
    let reaches := src.toNat = 0 ∧ p ≠ [] ∧ (targetOf p = 0 ∨ targetOf p = d.stc.addr) ∧
      (kind = .pantographGo → d.stc.frameRole = true) ∧ (kind = .headSelect ∨ kind = .needleMap → d.stc.headRole = true)
    let broadcast := kind = .stop ∨ kind = .start ∨ kind = .back ∨ kind = .forward ∨ kind = .designOpen ∨ kind = .designPage ∨
      kind = .needleMap
    let e := { d with pins := levelsAfter c d.pins }
    let due : LinkInterface := if muted d then d.sli
      else if d.sli.sending.isSome then { d.sli with causeAgain := true } else { d.sli with slotPending := true }
    acceptance d kind = entry ∧
    (∀ why, refused kind why e = { e with stc := { d.stc with lastRefusal := some (kind, why) }, sli := due }) ∧
    (¬reaches → exec c s = .next (closed s e)) ∧
    (reaches → lenOk = false → exec c s = .next (closed s (refused kind .format e))) ∧
    (reaches → lenOk = true → broadcast → targetOf p ≠ 0 → exec c s = .next (closed s (refused kind .range e))) ∧
    (reaches → lenOk = true → ¬(broadcast ∧ targetOf p ≠ 0) → entry = S →
      exec c s = .next (closed s (refused kind .state e))) ∧
    (reaches → lenOk = true → ¬(broadcast ∧ targetOf p ≠ 0) → (entry = N ∨ entry = I) →
      exec c s = .next (closed s e)) ∧
    (reaches → lenOk = true → ¬(broadcast ∧ targetOf p ≠ 0) → (entry = A ∨ entry = C) → Taken c d)

/-! ## Laws that every step keeps -/

/-- R62: if each of the 512 page slots stands in exactly one collection, every step leaves it so. R70 to R73: if the pages
held follow the stitch number (`PageLaw`: one run of consecutive pages below the next wanted page, the current page holding
record r, the retained list within its depth, the pages of a walk's start and of every stitch it passes held), every step
leaves it so. A crossing is written out: forward from the last stitch of a page, or from 0, the head of the posted queue
becomes the current page, the one before it joins the tail of the retained list, and a list then above the depth returns its
oldest slot to the tail of the free list; backward, the current page goes back to the head of the posted queue and the
newest retained page becomes current, or none at 0; a change within a page moves none, and a longer one makes the crossings
on its way in turn. -/
def Obligations.PageSlotsConserved : Prop :=
  (∀ s t : State, SlotLaw s.dev → step s = .next t → SlotLaw t.dev) ∧
  (∀ s t : State, PageLaw s.dev → step s = .next t → PageLaw t.dev) ∧
  (∀ (g : PageStore) (depth r : Nat),
    let kept := g.retained ++ g.current.toList
    let spills := decide (depth < kept.length)
    (∀ p ps, r % 12 = 0 → g.posted = p :: ps → g.moveTo depth r (r + 1) = { g with
      current := some p
      posted := ps
      retained := if spills then kept.tail else kept
      free := g.free ++ (if spills then kept.take 1 else []).map (·.slot) }) ∧
    (∀ p, r % 12 = 0 → g.current = some p → g.moveTo depth (r + 1) r = { g with
      posted := p :: g.posted
      current := g.retained.getLast?
      retained := g.retained.dropLast }) ∧
    (r % 12 ≠ 0 → g.moveTo depth r (r + 1) = g ∧ g.moveTo depth (r + 1) r = g) ∧
    g.moveTo depth r r = g ∧
    (∀ m n, r ≤ m → m ≤ n →
      g.moveTo depth r n = (g.moveTo depth r m).moveTo depth m n ∧
      g.moveTo depth n r = (g.moveTo depth n m).moveTo depth m r))

/-- R164: if the fault list holds no more than 8 records, every step leaves it so. -/
def Obligations.FaultListNeverExceedsEight : Prop :=
  ∀ s t : State, FaultLaw s.dev → step s = .next t → FaultLaw t.dev

/-- R10, R12, R13, R16: if the gate is released only in ARMED while ready, in RUN, and in HALTING after the commit of a
planned stop or while a pull-low waits for a guard to close, and a low drive is seen low, every step leaves it so. R134:
then, if in RUN no step is in progress on an ACTIVE head, every step leaves that so too: no such head passes from ARMED to
RUN with its case moving. Clauses rest on the model's choices of log entries 12, 23 and 54. -/
def Obligations.GateHeldLowOutsideRun : Prop :=
  (∀ s t : State, GateLaw s.dev → step s = .next t → GateLaw t.dev) ∧
  (∀ s t : State, GateLaw s.dev → CaseLaw s.dev → step s = .next t → CaseLaw t.dev)

/-- R154, R155: if a PENETRATE stands only on a fit ACTIVE head, every step leaves it so. -/
def Obligations.PenetrateOnlyWhileFit : Prop :=
  ∀ s t : State, PenetrationLaw s.dev → step s = .next t → PenetrationLaw t.dev

/-- R21, R24: a locked station in JOINING stays there, under the same lock, through every command but a hard reset. -/
def Obligations.LockedStationStaysJoining : Prop :=
  (∀ s t : State, LockLaw s.dev → step s = .next t → LockLaw t.dev) ∧
  (∀ (c : Instr) (s t : State), s.dev.stc.lock ≠ .none → s.dev.stc.state = .joining → (∀ a h f, c ≠ .hardReset a h f) →
    exec c s = .next t → t.dev.stc.lock = s.dev.stc.lock ∧ t.dev.stc.state = .joining)

/-- 1.1, R3, R5, R7: if the Shaft Tracker's items are in their ranges and agree, every step leaves them so. -/
def Obligations.ShaftItemsStayInRange : Prop :=
  ∀ s t : State, ShaftLaw s.dev → step s = .next t → ShaftLaw t.dev

/-- R94, R101: if a homed pantograph stands in the field and only a homed one is in place, every step leaves it so. -/
def Obligations.HomedPantographInField : Prop :=
  ∀ s t : State, FieldLaw s.dev → step s = .next t → FieldLaw t.dev

/-- The state after reset meets every law above (R6, R10, R21, R22, R56, R62, R126, R163, R164). -/
def Obligations.ResetMeetsTheLaws : Prop :=
  SlotLaw State.reset.dev ∧ PageLaw State.reset.dev ∧
  FaultLaw State.reset.dev ∧ GateLaw State.reset.dev ∧ CaseLaw State.reset.dev ∧ PenetrationLaw State.reset.dev ∧
  LockLaw State.reset.dev ∧ ShaftLaw State.reset.dev ∧ FieldLaw State.reset.dev ∧
  State.reset.pending = []

/-! ## The line and its payloads -/

/-- R40, R41, R171: a receiver takes from the line's bits exactly the notice that was sent, for every kind and source that
the arbitration field can carry and every payload of up to 56 bytes. -/
def Obligations.FrameRoundTrip : Prop :=
  ∀ n : Notice, n.kind < 64 → n.src < 32 → n.payload.length ≤ 56 → receiveFrame n.frame = some n

/-- R40, R41: inserted bits leave no run of five equal bits between the start bit and the end field, whatever is sent. A
receiver that takes a notice has one of at most 56 bytes, whose CRC-16 over arbitration field, length and payload is the one
received; with any other CRC the notice is discarded. -/
def Obligations.StuffedBitsAndCrc : Prop :=
  (∀ n : Notice, ¬FiveEqual (stuffFrom true 0 n.body)) ∧
  ∀ (n : Notice) (crc : Nat), n.kind < 64 → n.src < 32 → crc < 2 ^ 16 →
    readBody (n.covered ++ bitsMsb 16 crc) =
      if crc = (crc16 n.covered).toNat ∧ n.payload.length ≤ 56 then some n else none

/-- R172: the payload of a Status is read back as the items it was made of, and is at most 52 bytes long. -/
def Obligations.StatusRoundTrip : Prop :=
  ∀ i : StatusItems, i.fits → decodeStatus (encodeStatus i) = some i ∧ (encodeStatus i).length ≤ 52

/-! ## Arithmetic of the moves and the speed -/

/-- R112, the axis move time: 0 for no move; in the triangle twice the integer square root of the quotient, the greatest
root whose square does not exceed it; in the trapezoid the sum of the two ceilings. -/
def Obligations.AxisMoveTime : Prop :=
  ∀ a v d : Nat, 1 ≤ a → 1 ≤ v → d ≤ 2 ^ 64 →
    (d = 0 → axisTime a v d = 0) ∧
    (1 ≤ d → d * a ≤ v * v * 1000 →
      ∃ k : Nat, axisTime a v d = 2 * k ∧ k * k ≤ d * 1000000000 / a ∧ d * 1000000000 / a < (k + 1) * (k + 1)) ∧
    (v * v * 1000 < d * a →
      ∃ m n : Nat, axisTime a v d = m + n ∧
        (d * 1000 ≤ m * v ∧ (m - 1) * v < d * 1000) ∧ (v * 1000000 ≤ n * a ∧ (n - 1) * a < v * 1000000))

/-- R114, the geometric ceiling: the greatest speed at which the L_w counts of the move window last at least t_req. -/
def Obligations.GeometricCeilingFitsTheWindow : Prop :=
  ∀ (t : TimingSection) (m : MotionSection) (treq n : Nat),
    (treq = 0 → geoCeiling t m treq = nTopE m) ∧
    (1 ≤ treq → (n ≤ geoCeiling t m treq ↔ 1024 * n * treq ≤ 60000000 * moveWindow t))

/-- R92: the transform exchanges, then mirrors, then scales; on each axis the result is within half a step of the exact
u × s / 25 (fifty times the distance is at most 25, and less than that), and a mirrored position gives the mirror image. -/
def Obligations.TransformRoundsToNearestStep : Prop :=
  ∀ (h : Header) (px py : Int),
    let u := if h.exchange then py else px
    let v := if h.exchange then px else py
    transform h px py =
      (scaleCoord h.scale (if h.mirrorX then -u else u), scaleCoord h.scale (if h.mirrorY then -v else v)) ∧
    (∀ w : Int, 2 * (25 * scaleCoord h.scale w - w * (h.scale : Int)) < 25 ∧
      -25 < 2 * (25 * scaleCoord h.scale w - w * (h.scale : Int)) ∧
      scaleCoord h.scale (-w) = -scaleCoord h.scale w)

/-! ## Resets -/

/-- RESET_N_LOW (R22): the gate is held low, SHAFT_STOP asserted, SHAFT_DEMAND at zero duty, nothing transmitted, HOLD
engaged and KNIFE off; moves, Gos, the case step and the walk end at once (R90, R108, R134). What the hard reset then sets
anew is left alone until it. R170: in every state the duty of SHAFT_DEMAND is the demand over 1500, in whole 1024ths rounded
down; SHAFT_STOP is asserted but in the mode RUNNING. Clauses rest on the model's choices of log entry 5. -/
def Obligations.ResetNLowStopsEverything : Prop :=
  (∀ s : State, ∃ t : State,
    exec .resetNLow s = .next t ∧ t.pending = s.pending ∧ t.dev.resetLow = true ∧
    (outputs t.dev).gateLow = true ∧ (outputs t.dev).shaftStop = true ∧ (outputs t.dev).demandDuty = 0 ∧
    (outputs t.dev).transmitting = false ∧ (outputs t.dev).hold = true ∧ (outputs t.dev).knife = false ∧
    t.dev.pnc.move = none ∧ t.dev.pnc.go = none ∧ t.dev.ncc.step = none ∧ t.dev.ssq.walk = none ∧
    t.dev.now = s.dev.now ∧ t.dev.pins = s.dev.pins ∧ t.dev.sht = s.dev.sht ∧ t.dev.stc = s.dev.stc ∧
    t.dev.prt = s.dev.prt ∧ t.dev.pgs = s.dev.pgs ∧ t.dev.thm = s.dev.thm ∧
    t.dev.ssq = { s.dev.ssq with walk := none } ∧
    t.dev.pnc = { s.dev.pnc with move := none, pending := none, waiting := none, go := none, after := .normal } ∧
    t.dev.ncc = { s.dev.ncc with step := none, attempts := 0, stepWaiting := false }) ∧
  (∀ d : Station, let k := (outputs d).demandDuty
    k * 1500 ≤ d.sgv.demand * 1024 ∧ d.sgv.demand * 1024 < (k + 1) * 1500 ∧
    ((outputs d).shaftStop = true ↔ d.sgv.mode ≠ .running))

/-- HARD_RESET (R21, R22): every block takes its hard-reset values, whatever stood before; the input levels stay. With valid
straps the lock is none, the join window runs and the fault list is empty; with an address of 0 or no role the station is
locked by STRAP with one STRAP record of the sampled address, and no join window runs. A Status is pending, but with an
address of 0 (R47). Clauses rest on the model's choices of log entries 2, 3 and 33. -/
def Obligations.HardResetValues : Prop :=
  ∀ (a : Addr) (h f : Bool) (s : State), ∃ t : State,
    exec (.hardReset a h f) s = .next t ∧ t.pending = s.pending ∧ t.dev.resetLow = false ∧ t.dev.now = s.dev.now ∧
    t.dev.pins = s.dev.pins ∧
    (t.dev.sht.angle = 0 ∧ t.dev.sht.synced = false ∧ t.dev.sht.lag = 0 ∧ t.dev.sht.run = 0 ∧ t.dev.sht.raised = [] ∧
      t.dev.sht.period = 0 ∧ t.dev.sht.chain = false ∧ t.dev.sht.stillFrom = s.dev.now ∧ t.dev.sht.atRest = false) ∧
    (t.dev.gtu.wanted = .low ∧ t.dev.gtu.drive = .low ∧ t.dev.gtu.committed = false ∧ t.dev.gtu.lead = false ∧
      t.dev.gtu.dwellCount = 0 ∧ t.dev.gtu.vetoReq = none ∧ t.dev.gtu.stallTimer = none ∧ t.dev.gtu.waits = none) ∧
    (t.dev.stc.state = .joining ∧ t.dev.stc.addr = a.toNat ∧ t.dev.stc.headRole = h ∧ t.dev.stc.frameRole = f ∧
      t.dev.stc.roster = none ∧ t.dev.stc.timing = none ∧ t.dev.stc.motion = none ∧ t.dev.stc.thread = none ∧
      t.dev.stc.former = .none ∧ t.dev.stc.armTimer = none ∧ t.dev.stc.haltReason = none ∧ t.dev.stc.overflow = false ∧
      t.dev.stc.lastRefusal = none ∧ t.dev.stc.activity = .active) ∧
    (if a = 0 ∨ (h = false ∧ f = false) then
        t.dev.stc.lock = .strap ∧ t.dev.stc.joinTimer = none ∧
        t.dev.stc.faults = [{ kind := .strap, stitch := 0, needle := none, value := some a.toNat }]
      else t.dev.stc.lock = .none ∧ t.dev.stc.joinTimer = some s.dev.now ∧ t.dev.stc.faults = []) ∧
    (t.dev.sli.slotPending = decide (a ≠ 0) ∧ t.dev.sli.sending = none) ∧ t.dev.prt = [] ∧
    (t.dev.pgs.header = none ∧ t.dev.pgs.free = List.range 512 ∧ t.dev.pgs.posted = [] ∧ t.dev.pgs.current = none ∧
      t.dev.pgs.retained = [] ∧ t.dev.pgs.nextWanted = 0 ∧ t.dev.pgs.gap = false) ∧
    (t.dev.ssq.stitch = 0 ∧ t.dev.ssq.px = 0 ∧ t.dev.ssq.py = 0 ∧ t.dev.ssq.slot = 0 ∧ t.dev.ssq.mark = 0 ∧
      t.dev.ssq.walk = none ∧ t.dev.ssq.report = { dir := .back, requested := 0, actual := 0, outcome := .none }) ∧
    (t.dev.pnc.homed = false ∧ t.dev.pnc.x = 0 ∧ t.dev.pnc.y = 0 ∧ t.dev.pnc.originX = 0 ∧ t.dev.pnc.originY = 0 ∧
      t.dev.pnc.inPlace = false ∧ t.dev.pnc.move = none ∧ t.dev.pnc.pending = none ∧ t.dev.pnc.waiting = none ∧
      t.dev.pnc.go = none ∧ t.dev.pnc.finding = none ∧ t.dev.pnc.deferred = false) ∧
    (t.dev.sgv.mode = .stopped ∧ t.dev.sgv.demand = 0 ∧ t.dev.sgv.reposition = none ∧ t.dev.sgv.attempts = 0 ∧
      t.dev.sgv.creepTimer = none ∧ t.dev.sgv.givenUp = false ∧ t.dev.sgv.restAt = none ∧ t.dev.sgv.measured = none) ∧
    (t.dev.ncc.map = List.replicate 64 0 ∧ t.dev.ncc.step = none ∧ t.dev.ncc.attempts = 0 ∧ t.dev.ncc.stepWaiting = false ∧
      t.dev.ncc.stopped = .none ∧ t.dev.ncc.settleTimer = none ∧ t.dev.ncc.settled = false ∧ t.dev.ncc.settledNeedle = 0 ∧
      t.dev.ncc.successAt = none) ∧
    (t.dev.thm.pen = none ∧ t.dev.thm.suppression = 0 ∧ t.dev.thm.runStart = none ∧ t.dev.thm.dryCount = 0 ∧
      t.dev.thm.filter = 0 ∧ t.dev.thm.restart = true ∧ t.dev.thm.samples = 0 ∧ t.dev.thm.tension = .clear ∧
      t.dev.thm.counts = List.replicate 12 0 ∧ t.dev.thm.service = List.replicate 12 true) ∧
    (t.dev.hsc.mark = 0 ∧ t.dev.hsc.decision = none ∧ t.dev.hsc.holdEngaged = true ∧ t.dev.hsc.knife = false ∧
      t.dev.hsc.knifePending = false)

/-- STATION_RESET (R23): an accepted Station Reset takes the station to JOINING in any state, discards the sections,
restarts the join window, empties the fault list and the last refusal, and resets every block as its chapter says: the Shaft
Tracker keeps its record (R6); homed is kept while the position lies in the default field (R94, R110), a hoop move and a
HOME go on; a case step goes on but one that waits for a retry ends (R134); fault counts and service flags are kept (R151);
a knife cycle goes on (R163); the measured speed is kept (R126). Its acceptance sets the transmit slot pending (R48).
Clauses rest on the model's choices of log entries 3, 33 and 38. -/
def Obligations.StationResetRejoins : Prop :=
  ∀ (src : Addr) (p : Payload) (s : State), Live s → Taken (.stationReset src p) s.dev →
    let inField := decide (0 ≤ s.dev.pnc.x ∧ s.dev.pnc.x ≤ 24000 ∧ 0 ≤ s.dev.pnc.y ∧ s.dev.pnc.y ≤ 16000)
    exec (.stationReset src p) s = .next (closed s { s.dev with
      stc := { state := .joining, addr := s.dev.stc.addr, headRole := s.dev.stc.headRole, frameRole := s.dev.stc.frameRole,
               lock := s.dev.stc.lock, roster := none, timing := none, motion := none, thread := none,
               joinTimer := some s.dev.now, former := .none, armTimer := none, haltReason := none, faults := [],
               overflow := false, lastRefusal := none, activity := .active }
      gtu := { wanted := .low, drive := .low, seenHigh := false, committed := false, lead := false, commitSpan := false,
               dwellCount := 0, vetoReq := none, waits := none, stallTimer := none }
      sli := (causeStatus s.dev).sli
      prt := []
      pgs := { header := none, free := List.range 512, posted := [], current := none, retained := [], nextWanted := 0,
               gap := false }
      ssq := { stitch := 0, px := 0, py := 0, slot := 0, mark := 0, walk := none,
               report := { dir := .back, requested := 0, actual := 0, outcome := .none } }
      pnc := { s.dev.pnc with
        homed := s.dev.pnc.homed && inField
        inPlace := false
        pending := none, waiting := none, finding := none, deferred := false
        go := match s.dev.pnc.go with
          | some (.trace _) => some (.trace [])
          | g => g
        after := if s.dev.pnc.move.isSome then .leave else .normal }
      sgv := { mode := .stopped, demand := 0, reposition := none, attempts := 0, creepTimer := none, givenUp := false,
               restAt := none, measured := s.dev.sgv.measured }
      ncc := { s.dev.ncc with
        map := List.replicate 64 0
        step := s.dev.ncc.step.filter (fun k => k.timer.isSome)
        attempts := if s.dev.ncc.step.any (fun k => k.timer.isNone) then 0 else s.dev.ncc.attempts
        stepWaiting := false, stopped := .none, settleTimer := none, settled := false }
      thm := { pen := none, suppression := 0, runStart := none, dryCount := 0, filter := 0, restart := true, samples := 0,
               tension := .clear, counts := s.dev.thm.counts, service := s.dev.thm.service }
      hsc := { s.dev.hsc with mark := 0, decision := none, holdEngaged := true } })

/-! ## Shaft Tracker -/

/-- ENCODER_FORWARD_COUNT (R1, R3, R7): at a lag above 0 a forward count raises the angle, lowers the lag and does nothing
more. At lag 0 it also advances the run (which stops at 1027 on a station that is not synchronised, the model's choice, log
entry 7) and begins a revolution at 0. Then the names due at the new angle, none, one or several (R9 lets K_on stand at
A_arm and K_off at D), are raised, once in a revolution and in their order: each joins the raised set, its receivers act,
and the gate takes the level it is due (here and at the end of the command). The receivers, by name and role (R7): H, A_arm,
D and W_open reach the station, M the frame role alone, and on the head role TU_open opens the window of the open
penetration (R139), TU_close closes it, K_on turns the knife on if knife pending is set and K_off turns it off (R157). A
count that brings the run of a synchronised station to 1027 has missed its index: an ENCODER fault. Clauses rest on the
model's choices of log entries 7, 8 and 12. -/
def Obligations.ForwardCount : Prop :=
  ∀ (t : BitVec 10) (s : State), Live s →
    let c := counted t.toNat s.dev
    let a := (s.dev.sht.angle + 1) % 1024
    let d := { c with sht := { c.sht with
      angle := a, run := min 1027 (s.dev.sht.run + 1), raised := if a = 0 then [] else s.dev.sht.raised } }
    let missed := s.dev.sht.synced = true ∧ 1026 ≤ s.dev.sht.run
    (∀ (n : AngleName) (e : Station), receive n e =
      match n with
      | .m => if e.stc.frameRole = true then eventM e else e
      | .h => eventH e
      | .aArm => eventAArm e
      | .tuOpen =>
        if e.stc.headRole = true then
          { e with thm := { e.thm with pen := e.thm.pen.map (fun p => { p with window := true }) } } else e
      | .kOn => if e.stc.headRole = true ∧ e.hsc.knifePending = true then { e with hsc := { e.hsc with knife := true } } else e
      | .tuClose => if e.stc.headRole = true then closePenetration e else e
      | .kOff => if e.stc.headRole = true then { e with hsc := { e.hsc with knife := false, knifePending := false } } else e
      | .d => eventD e
      | .wOpen => eventWOpen e) ∧
    (1 ≤ s.dev.sht.lag →
      exec (.encoderForwardCount t) s =
        .next (closed s { c with sht := { c.sht with angle := a, lag := s.dev.sht.lag - 1 } })) ∧
    (s.dev.sht.lag = 0 → ¬missed → exec (.encoderForwardCount t) s = .next (closed s (handed (dueNames d) d))) ∧
    (s.dev.sht.lag = 0 → ¬missed → NothingDue d → exec (.encoderForwardCount t) s = .next (closed s d)) ∧
    (∀ n, s.dev.sht.lag = 0 → ¬missed → OnlyDue n d →
      exec (.encoderForwardCount t) s = .next (closed s (driveGate (receive n (marked n d))))) ∧
    (s.dev.sht.lag = 0 → s.dev.sht.synced = true → s.dev.sht.run = 1026 →
      exec (.encoderForwardCount t) s = .next (closed s (encoderFault d)))

/-- ENCODER_REVERSE_COUNT (R1, R4): a reverse count lowers the angle, raises the lag, clears the period chain and sets the
period to 0, with it the measured speed unknown (R121); at lag 1023 the shaft has turned a whole revolution backwards: the lag
becomes 0 and an ENCODER fault is raised. Clauses rest on the model's choices of log entries 6 and 8. -/
def Obligations.ReverseCount : Prop :=
  ∀ (t : BitVec 10) (s : State), Live s →
    let c := counted t.toNat s.dev
    let d := { c with
      sht := { c.sht with angle := (s.dev.sht.angle + 1023) % 1024, chain := false, period := 0,
                          lag := if s.dev.sht.lag = 1023 then 0 else s.dev.sht.lag + 1 }
      sgv := { c.sgv with measured := none } }
    exec (.encoderReverseCount t) s = .next (closed s (if s.dev.sht.lag = 1023 then encoderFault d else d))

/-- R3, R155, R157, R143, R121, R95: an ENCODER fault leaves the station not synchronised, with the raised set empty, the
period chain cleared and the period 0, the measured speed unknown, HOLD engaged with no decision, the knife off and the open
penetration abandoned, and writes an ENCODER record of the present stitch with the angle as value, which acts as R37 gives.
A deferred FIELD is written after it, with stitch r+1 and the axis found. Clauses rest on the model's choices of log entries
11 and 43. -/
def Obligations.EncoderFaultLosesSync : Prop :=
  ∀ d : Station,
    encoderFault d = deferredWritten (
      fault { kind := .encoder, stitch := d.ssq.stitch, needle := none, value := some d.sht.angle }
        { d with
          sht := { d.sht with synced := false, raised := [], chain := false, period := 0, onTop := false }
          sgv := { d.sgv with measured := none }
          hsc := { d.hsc with decision := none, holdEngaged := true, knife := false, knifePending := false }
          thm := { d.thm with pen := none } })

/-- INDEX_PULSE (R2, R4, R5, R121): a station that is not synchronised becomes so, the revolution beginning at 0 (with the
events of the names at 0, at their receivers as `ForwardCount` gives them); an index outside the window is an ENCODER fault;
one at a lag above 0 clears angle, run, lag and the period chain; one at angle 0..2 sets angle and run to 0 and captures;
one at 1021..1023 first raises the events of the angles passed over, up to 1023 and in their order, then begins the
revolution, with the events of the names at 0, and captures. A capture on a frame station that finds the shaft over nine
eighths of N_topE in RUN is a DRIVE fault with the speed as value. Clauses rest on the model's choices of log entries 16 and
19. -/
def Obligations.IndexPulse : Prop :=
  ∀ s : State, Live s →
    let d := s.dev
    let fresh := { d with sht := { d.sht with
      angle := 0, run := 0, lag := 0, synced := true, raised := [], chain := false, onTop := d.sht.atRest } }
    let again := { d with sht := { d.sht with angle := 0, run := 0 } }
    let begun := { d with sht := { d.sht with angle := 0, run := 0, raised := [] } }
    let passed := if d.sht.angle = 1021 then comesTo 1023 (comesTo 1022 d) else if d.sht.angle = 1022 then comesTo 1023 d else d
    let zero := { passed with sht := { passed.sht with angle := 0, run := 0, raised := [] } }
    let swept := handed (dueNames zero) zero
    let record (e : Station) : FaultRecord :=
      { kind := .drive, stitch := e.ssq.stitch, needle := none, value := (captured e).sgv.measured }
    (d.sht.synced = false → NothingDue fresh → exec .indexPulse s = .next (closed s fresh)) ∧
    (d.sht.synced = false → exec .indexPulse s = .next (closed s (handed (dueNames fresh) fresh))) ∧
    (∀ n, d.sht.synced = false → OnlyDue n fresh →
      exec .indexPulse s = .next (closed s (driveGate (receive n (marked n fresh))))) ∧
    (d.sht.synced = true → 3 ≤ d.sht.angle → d.sht.angle ≤ 1020 →
      exec .indexPulse s = .next (closed s (encoderFault d))) ∧
    (d.sht.synced = true → (d.sht.angle ≤ 2 ∨ 1021 ≤ d.sht.angle) → 1 ≤ d.sht.lag →
      exec .indexPulse s = .next (closed s { d with sht := { d.sht with angle := 0, run := 0, lag := 0, chain := false } })) ∧
    (d.sht.synced = true → d.sht.angle ≤ 2 → d.sht.lag = 0 →
      (¬Overspeed again → exec .indexPulse s = .next (closed s (captured again))) ∧
      (Overspeed again → exec .indexPulse s = .next (closed s (fault (record again) (captured again))))) ∧
    (d.sht.synced = true → 1021 ≤ d.sht.angle → d.sht.angle ≤ 1023 → d.sht.lag = 0 →
      (∀ n, angleOf (timing d) n ≠ 0 ∧ angleOf (timing d) n ≠ 1022 ∧ angleOf (timing d) n ≠ 1023) →
      (¬Overspeed begun → exec .indexPulse s = .next (closed s (captured begun))) ∧
      (Overspeed begun → exec .indexPulse s = .next (closed s (fault (record begun) (captured begun))))) ∧
    (d.sht.synced = true → 1021 ≤ d.sht.angle → d.sht.angle ≤ 1023 → d.sht.lag = 0 →
      (¬Overspeed swept → exec .indexPulse s = .next (closed s (captured swept))) ∧
      (Overspeed swept → exec .indexPulse s = .next (closed s (fault (record swept) (captured swept)))))

/-- REST_REACHED (R4, R5, R18, R36, R95, R98, R122, R124, R125, R130, R132): the shaft comes to rest, on top or not: the
decision, the knife and the open penetration end, the period is unknown. A shaft already at rest does not come to rest
again. But in RUN a pending stitch move starts. A deferred FIELD is written: from RUN the station goes through HALTING to
HALTED or DONE. In HALTED, DONE and ARMED, off top, the frame station begins its first creep; a sequence in progress ends on
top, and off top its second creep begins or, after two, SHAFT_POSITION is written; one that waits for the drive goes on
waiting while DRIVE_READY is low, and with the input high goes on at this rest (log entry 57). In HALTING the rest, at any
angle, takes the station at S to DONE; from a COLOUR_STOP that still stands, with the pause off and an empty fault list, it
arms again (a finding then standing is the FIELD record of that entry); otherwise to HALTED. In ARMED on top a step that is
due begins and one that waits is retried; and in ARMED, entered here or before, on top, the line seen high and the station
ready, this rest is the rest commit. Clauses rest on the model's choices of log entries 14, 17, 18, 31, 46, 47, 51 and 57.
-/
def Obligations.RestReached : Prop :=
  ∀ s : State, Live s →
    let d := s.dev
    let c : Instr := .restReached
    let r := rested d
    let m := pendingStarted r
    let ready_ (e : Station) : Prop := d.gtu.seenHigh = true ∧ d.gtu.drive = .released ∧ ready e = true
    let unready (e : Station) : Prop :=
      restOnTop r = false ∨ d.gtu.seenHigh = false ∨ (d.gtu.drive = .released ∧ ready e = false)
    let committed (e : Station) : Station :=
      restCommitted { e with gtu := { e.gtu with wanted := .released, waits := none } }
    let creepsOn (q : Reposition) (e : Station) : Governor :=
      { e.sgv with mode := .creep, demand := (motion d).nHalt, reposition := some .creeping, attempts := e.sgv.attempts + 1
                   creepTimer := some d.now, restAt := if q = .creeping then some d.now else none }
    let ends (e : Station) : Governor :=
      { e.sgv with mode := .stopped, demand := 0, creepTimer := none, reposition := none, attempts := 0 }
    let off : FaultRecord := { kind := .shaftPosition, stitch := d.ssq.stitch, needle := none
                               value := some (if d.sht.synced then d.sht.angle else 0) }
    let crept (e : Station) : Station := if CreepDue e then creeps e else e
    let in_ (st : StationState) (e : Station) : Station := { e with stc := { e.stc with state := st } }
    let caused (e : Station) : Station := { e with sli := (causeStatus d).sli }
    let undeferred (e : Station) : Station := { e with pnc := { e.pnc with deferred := false } }
    let after_ : StationState := if atDesignEnd d = true then .done else .halted
    let arming := atDesignEnd d = false ∧ d.stc.haltReason = some .colourStop ∧ (thread d).pause = false ∧ d.stc.faults = []
    (d.sht.atRest = true → exec c s = .next (closed s d)) ∧
    (d.sht.atRest = false → d.sgv.reposition = none → d.pnc.deferred = false →
      (d.stc.state = .run → exec c s = .next (closed s r)) ∧
      ((d.stc.state = .joining ∨ d.stc.state = .ready) → exec c s = .next (closed s m)) ∧
      ((d.stc.state = .halted ∨ d.stc.state = .done) → exec c s = .next (closed s (crept m))) ∧
      (d.stc.state = .halting → ¬arming → exec c s = .next (closed s (crept (in_ after_ (caused m))))) ∧
      (d.stc.state = .halting → arming → ArmsQuietly r → d.ncc.step = none → unready (arms .halted m) →
        exec c s = .next (closed s (arms .halted m))) ∧
      (d.stc.state = .halting → arming → ArmsQuietly r → d.ncc.step = none → restOnTop r = true → RunsOn d →
        ready_ (arms .halted m) → exec c s = .next (closed s (committed (arms .halted m)))) ∧
      (d.stc.state = .armed → CaseIdle r →
        (CreepDue m → exec c s = .next (closed s (creeps m))) ∧
        (¬CreepDue m → unready m → exec c s = .next (closed s m)) ∧
        (restOnTop r = true → RunsOn d → ready_ m → exec c s = .next (closed s (committed m)))) ∧
      (StepDue r → restOnTop r = true → d.gtu.seenHigh = false → exec c s = .next (closed s (steps m))) ∧
      (∀ k, d.stc.state = .armed → d.stc.headRole = true → d.stc.activity = .active → d.ncc.step = some k → k.timer = none →
        restOnTop r = true → d.gtu.seenHigh = false →
        exec c s = .next (closed s { m with ncc := { d.ncc with
          step := some { k with timer := some d.now }, attempts := d.ncc.attempts + 1, stepWaiting := false
          pulses := d.ncc.pulses + 1 } }))) ∧
    (∀ a, d.sht.atRest = false → d.sgv.reposition = none → d.pnc.deferred = true → d.pnc.finding = some a →
      (d.stc.state = .run →
        exec c s = .next (closed s
          (crept (in_ after_ (pendingStarted (halts (.fault .field) (recorded (fieldFault a d) (undeferred r)))))))) ∧
      (d.stc.state = .halting → ¬arming →
        exec c s = .next (closed s (crept (in_ after_ (caused (recorded (fieldFault a d) (undeferred m)))))))) ∧
    (∀ a, d.sht.atRest = false → d.stc.state = .halting → arming → d.pnc.finding = some a → d.ncc.step = none →
      ArmsQuietly { r with pnc := { r.pnc with finding := none } } →
      exec c s = .next (closed s (returnsToHalted (recorded (fieldFault a d) (arms .halted (undeferred m)))))) ∧
    (∀ q, d.sht.atRest = false → d.stc.frameRole = true → d.sgv.reposition = some q → d.pnc.deferred = false →
      (d.stc.state = .halted ∨ d.stc.state = .done ∨ (d.stc.state = .armed ∧ CaseIdle r ∧ d.gtu.seenHigh = false)) →
      (restOnTop r = true → exec c s = .next (closed s { m with sgv := ends m })) ∧
      (restOnTop r = false → q = .awaitingDrive → d.pins.driveReady = false →
        exec c s = .next (closed s { m with sgv := { m.sgv with mode := .stopped, demand := 0, creepTimer := none } })) ∧
      (restOnTop r = false → (q ≠ .awaitingDrive ∨ d.pins.driveReady = true) → d.sgv.attempts < 2 →
        exec c s = .next (closed s { m with sgv := creepsOn q m })) ∧
      (restOnTop r = false → (q ≠ .awaitingDrive ∨ d.pins.driveReady = true) → 2 ≤ d.sgv.attempts →
        exec c s = .next (closed s (fault off { m with sgv := { ends m with givenUp := true } }))))

/-! ## Gate, commit, dwell, veto -/

/-- SEEN_LEVEL_CHANGE (R10, R18, R54, R55, R142, R145, R152, R162): the seen level follows the line, but a station whose
drive is low sees it low. Where that is not the second condition of a rest commit, nothing else changes. In ARMED, with the
shaft at rest on top, a rise of the line is the rest commit: the station enters RUN; the dwell count is 0, lead is set,
committed cleared, the stall timer restarted; on a frame station the demand is N_halt and SHAFT_STOP is released; on a head
the lead stitch r is decided (R152, R153) and a suppression and a filter restart begin (R142, R145); no entry is mismatched
at rest (R55). A peer seen in HALTING, the entry not lost, turns the new RUN to HALTING with PEER_HALT, and, judged after it
(log entry 48), with no head counted ACTIVE the frame station does so with NO_ACTIVE_HEAD; at rest as the shaft is, HALTING
is left at once (R36), the decision dropped (log entry 14). Clauses rest on the model's choices of log entries 4, 14 and 48.
-/
def Obligations.SeenLevelAndRestCommit : Prop :=
  (∀ (high : Bool) (s : State), Live s →
    (high = false ∨ s.dev.gtu.drive = .low ∨ s.dev.stc.state ≠ .armed ∨ restOnTop s.dev = false) →
    exec (.seenLevelChange high) s =
      .next (closed s { s.dev with gtu := { s.dev.gtu with seenHigh := high && decide (s.dev.gtu.drive = .released) } })) ∧
  (∀ s : State, Live s → s.dev.stc.state = .armed → s.dev.gtu.drive = .released → restOnTop s.dev = true →
    let runs := restCommitted { s.dev with gtu := { s.dev.gtu with seenHigh := true } }
    (RunsOn s.dev → exec (.seenLevelChange true) s = .next (closed s runs)) ∧
    (peerHalting s.dev = true → exec (.seenLevelChange true) s = .next (closed s (stops .peerHalt runs))) ∧
    (peerHalting s.dev = false → s.dev.stc.frameRole = true → noActiveHead s.dev = true →
      exec (.seenLevelChange true) s = .next (closed s (stops .noActiveHead runs))))

/-- R14, R77, R78, R79, R95, R98, R127, R152: a station in RUN that sees the line high at D commits: the stitch number rises
by one with the page crossing, the position follows the record, the dwell count is 0, lead cleared, committed set; on a
frame station the move to the new target waits for W_open, the next-target finding is formed for the stitch after, and one
that arises is a deferred FIELD; on a head the stitch is decided. A COLOR_STOP also sets slot and mark, and it and END put
the station into HALTING as planned stops without a veto request. Without the record (R79) the stitch number, position,
slot, mark and pages stand, and the commit is an INDEX_MISMATCH fault with the station's own address. (The shaft turns.)
R16, the exception: a station in HALTING whose drive is still released commits a high line in the same way, but the pull-low
that waited is a veto request at the present angle (one that stands is kept), the wanted level stays low, the halt reason
stands, and no demand is formed. Clauses rest on the model's choices of log entries 23 and 24. -/
def Obligations.HighLineAtDCommits : Prop :=
  ∀ (d : Station), d.gtu.seenHigh = true →
    let t := eventD d
    let n := d.ssq.stitch + 1
    let running := d.stc.state = .run ∧ d.sht.atRest = false
    let halting := d.stc.state = .halting ∧ d.gtu.drive = .released
    let fr : FaultRecord := { kind := .indexMismatch, stitch := d.ssq.stitch, needle := none, value := some d.stc.addr }
    let veto : Option Nat := if d.stc.state = .halting then d.gtu.vetoReq.or (some d.sht.angle) else d.gtu.vetoReq
    (d.pgs.read n = none →
      (running → t.ssq = d.ssq ∧ t.pgs = d.pgs ∧ t.stc.faults = (recorded fr d).stc.faults ∧
        t.stc.overflow = (recorded fr d).stc.overflow ∧ t.stc.state = .halting ∧
        t.stc.haltReason = some (.fault .indexMismatch)) ∧
      (halting → t.ssq = d.ssq ∧ t.pgs = d.pgs ∧ t.stc = (fault fr d).stc ∧ t.gtu =
        { d.gtu with dwellCount := 0, lead := false, committed := true, commitSpan := false, vetoReq := veto })) ∧
    (∀ r, d.pgs.read n = some r → (running ∨ halting) →
      let g := d.pgs.moveTo (motion d).retention d.ssq.stitch n
      let px := d.ssq.px + r.dx
      let py := d.ssq.py + r.dy
      let stop := decide (r.kind = .colorStop)
      let planned := decide (r.kind = .colorStop ∨ r.kind = .endRecord)
      let a := targetOfPos d d.ssq.px d.ssq.py
      let b := targetOfPos d px py
      let found := nextFinding d g n px py
      t.ssq = { d.ssq with stitch := n, px := px, py := py,
                           slot := if stop then r.aux else d.ssq.slot, mark := if stop then n else d.ssq.mark } ∧
      t.pgs = g ∧
      (d.stc.frameRole = true →
        t.pnc = { d.pnc with
          pending := some { x := b.1, y := b.2, treq := moveTime (motion d) (b.1 - a.1) (b.2 - a.2) }
          finding := found
          deferred := d.pnc.deferred || decide (d.stc.state = .run ∧ d.pnc.finding = none ∧ found ≠ none) }) ∧
      (d.stc.frameRole = false → t.pnc = d.pnc) ∧
      (d.stc.headRole = true → ∃ x, t.hsc.decision = some x ∧ x.stitch = n ∧ x.trim = trims (some r) ∧ x.lead = false ∧
        (x.penetrate = true ↔
          (r.kind = .sew ∨ r.kind = .trim) ∧ d.stc.activity = .active ∧ d.hsc.mark < n ∧ needleFit d = true)) ∧
      (d.stc.headRole = false → t.hsc = d.hsc) ∧
      t.hsc.mark = d.hsc.mark ∧ t.hsc.knife = d.hsc.knife ∧ t.sht = d.sht ∧ t.pins = d.pins ∧ t.prt = d.prt ∧
      (running →
        t.gtu = { d.gtu with dwellCount := 0, lead := false, committed := true, commitSpan := true,
                             stallTimer := if planned then none else d.gtu.stallTimer } ∧
        t.stc = { d.stc with
          state := if planned then .halting else .run
          haltReason := if stop then some .colourStop else if planned then some .endRecord else d.stc.haltReason }) ∧
      (halting →
        t.gtu = { d.gtu with dwellCount := 0, lead := false, committed := true, commitSpan := false, vetoReq := veto } ∧
        t.stc = d.stc ∧ t.sgv = d.sgv ∧ t.sli = d.sli))

/-- R114 to R117: the demand put into force at a commit in RUN of a SEW, JUMP or TRIM, r+1 its stitch, is the standing
demand plus U, but at most the look-ahead L, clamped into N_halt..N_topE. L is the least of C(r+1+j) + j × W for j = 0..15,
a stitch beyond S omitted; C is the least of the kind, geometric and head ceilings but at least N_halt, and N_halt for a
record that is not held. So it lies between N_halt and N_topE, at or below the ceiling of the stitch the revolution sews,
and at most U above the demand before it. -/
def Obligations.CommitDemandLaw : Prop :=
  ∀ (d : Station) (r : StitchRecord) (h : Header), d.stc.state = .run → d.gtu.seenHigh = true → d.stc.frameRole = true →
    d.pgs.header = some h → d.pgs.read (d.ssq.stitch + 1) = some r → (r.kind = .sew ∨ r.kind = .jump ∨ r.kind = .trim) →
    let m := motion d
    let n := d.ssq.stitch + 1
    let g := d.pgs.moveTo m.retention d.ssq.stitch n
    let target (j : Nat) : Int × Int :=
      targetOfPos d (d.ssq.px + (g.displacement d.ssq.stitch j).1) (d.ssq.py + (g.displacement d.ssq.stitch j).2)
    let kindTop : StitchKind → Nat
      | .sew => nTopE m
      | .jump => nTopE m
      | .trim => m.nTrim
      | .colorStop => m.nHalt
      | .endRecord => m.nHalt
    let ceiling (j : Nat) : Nat := match g.read (n + j) with
      | some q => max m.nHalt (min (kindTop q.kind) (min (geoCeiling (timing d) m
          (moveTime m ((target (j + 1)).1 - (target j).1) ((target (j + 1)).2 - (target j).2))) (nHead d)))
      | none => m.nHalt
    let terms := ((List.range 16).filter (fun j => decide (n + j ≤ h.stitches))).map (fun j => ceiling j + j * m.rampDown)
    let wish := terms.foldl min (d.sgv.demand + m.rampUp)
    let demand := (eventD d).sgv.demand
    demand = (if wish < m.nHalt then m.nHalt else if nTopE m < wish then nTopE m else wish) ∧
    (n ≤ h.stitches → g.read n = some r → m.nHalt ≤ nTopE m → m.nHalt ≤ d.sgv.demand →
      m.nHalt ≤ demand ∧ demand ≤ nTopE m ∧ demand ≤ ceiling 0 ∧ demand ≤ d.sgv.demand + m.rampUp)

/-- R14, R15, R16, R118: a station in RUN that sees the line low at D dwells: committed and lead are cleared, the head holds, the stitch
number stands, the dwell count rises by one up to K, the demand of a frame station falls by W, not below N_halt. At K the
station writes DWELL_LIMIT with its hold reason and halts. In HALTING (R16) it dwells whatever it sees, its dwell count and demand
as they were, unless its drive is still released and the line high; other states take no sample.
Clauses rest on the model's choices of log entry 22. -/
def Obligations.LowLineAtDDwells : Prop :=
  ∀ d : Station,
    let k := (timing d).dwellLimit
    let e := { d with
      gtu := { d.gtu with committed := false, lead := false, commitSpan := false, dwellCount := min k (d.gtu.dwellCount + 1) }
      hsc := if d.stc.headRole then { d.hsc with decision := none, holdEngaged := true } else d.hsc
      sgv := if d.stc.frameRole then
          { d.sgv with demand := max (motion d).nHalt (d.sgv.demand - (motion d).rampDown) } else d.sgv }
    (d.stc.state = .run → d.gtu.seenHigh = false → d.gtu.dwellCount + 1 < k → eventD d = e) ∧
    (d.stc.state = .run → d.gtu.seenHigh = false → k ≤ d.gtu.dwellCount + 1 →
      eventD d = fault { kind := .dwellLimit, stitch := d.ssq.stitch, needle := none, value := some (holdReason d).code } e) ∧
    (d.stc.state = .halting → (d.gtu.drive = .low ∨ d.gtu.seenHigh = false) →
      eventD d = { d with
        gtu := { d.gtu with committed := false, lead := false, commitSpan := false }
        hsc := if d.stc.headRole then { d.hsc with decision := none, holdEngaged := true } else d.hsc }) ∧
    (d.stc.state ≠ .run → d.stc.state ≠ .halting → eventD d = d)

/-- R17, R95: at H, after a commit, a high line lets the penetration proceed. A low line is a veto: the penetration is held,
the stitch number and the mark stand, committed is cleared; the station whose own drive was low writes VETO with the angle
at which its pull-low took effect, one that saw it writes nothing, and both halt with VETO. Without a commit nothing is
sampled. A deferred FIELD is written after the sample, with stitch r+1 and the axis found, and acts as R37 gives. Clauses
rest on the model's choices of log entries 11, 15, 29 and 43. -/
def Obligations.VetoAtH : Prop :=
  ∀ d : Station,
    let e := { d with gtu := { d.gtu with committed := false } }
    let held := { e with hsc :=
      match d.hsc.decision with
      | some x => if x.penetrate then { d.hsc with decision := some { x with penetrate := false }, holdEngaged := true } else d.hsc
      | none => d.hsc }
    let act := d.gtu.committed = true ∧ (d.stc.state = .run ∨ d.stc.state = .halting)
    (¬act → eventH d = deferredWritten d) ∧
    (act → d.gtu.seenHigh = true → eventH d = deferredWritten e) ∧
    (act → d.gtu.seenHigh = false → d.gtu.drive = .low →
      eventH d = deferredWritten (fault { kind := .veto, stitch := d.ssq.stitch, needle := none,
                                          value := some (d.gtu.vetoReq.getD d.sht.angle) } held)) ∧
    (act → d.gtu.seenHigh = false → d.gtu.drive = .released →
      eventH d = deferredWritten (haltCause (.fault .veto) held))

/-- R12, R139, R154, R157: at A_arm a station in RUN or HALTING pulls the gate low and its veto request returns to none; a
head carries out its decision: a PENETRATE, the head ACTIVE and fit, releases HOLD, raises the mark to the stitch, sets
knife pending for a TRIM and opens a penetration on the current needle; anything else engages HOLD, leaves the mark and
clears knife pending. Of a head, K_on turns KNIFE on if knife pending is set, and K_off turns it off and clears knife
pending (R157); without the head role both do nothing. Clauses rest on the model's choices of log entry 23. -/
def Obligations.DecisionCarriedOutAtAArm : Prop :=
  ∀ d : Station,
    let g := { d with gtu := { d.gtu with
      vetoReq := none, commitSpan := false
      drive := if d.stc.state = .run ∨ d.stc.state = .halting then .low else d.gtu.drive
      seenHigh := if d.stc.state = .run ∨ d.stc.state = .halting then false else d.gtu.seenHigh
      waits := if d.stc.state = .run ∨ d.stc.state = .halting then none else d.gtu.waits } }
    let fit := d.stc.activity = .active ∧ needleFit d = true
    (d.stc.headRole = false → eventAArm d = g) ∧
    (∀ x, d.stc.headRole = true → d.hsc.decision = some x → x.penetrate = true → fit →
      eventAArm d = { g with
        hsc := { d.hsc with decision := none, holdEngaged := false, mark := x.stitch, knifePending := x.trim }
        thm := { d.thm with pen := some { stitch := x.stitch, needle := currentNeedle d, trim := x.trim, pulses := 0, peak := 0,
                                          window := false } } }) ∧
    (d.stc.headRole = true → (∀ x, d.hsc.decision = some x → x.penetrate = true → ¬fit) →
      eventAArm d = { g with hsc := { d.hsc with decision := none, holdEngaged := true, knifePending := false } }) ∧
    (d.stc.headRole = true → d.hsc.knifePending = true → receive .kOn d = { d with hsc := { d.hsc with knife := true } }) ∧
    (d.stc.headRole = true → d.hsc.knifePending = false → receive .kOn d = d) ∧
    (d.stc.headRole = true → receive .kOff d = { d with hsc := { d.hsc with knife := false, knifePending := false } }) ∧
    (d.stc.headRole = false → receive .kOn d = d ∧ receive .kOff d = d)

/-- R97 to R99, R101, R156: at W_open the frame role starts the pending stitch move if no move is in progress, clearing
in-place; one of no displacement completes in that event, at its target with in-place set (homed kept only in the field,
R94); with a move in progress the pending move waits, and that move is no longer the one M checks. The head role sets HOLD
by its decision of source COMMIT, or engages it without one. A station of both roles does both. At M the frame station, if
the move that W_open started is still in progress, writes MOVE_LATE with the axis of the longer move and asks for a veto;
otherwise M does nothing. -/
def Obligations.MoveWindow : Prop :=
  ∀ d : Station,
    let hold : HeadControl := if d.stc.headRole = false then d.hsc else { d.hsc with holdEngaged :=
      match d.hsc.decision with
      | some x => if x.lead then d.hsc.holdEngaged else !x.penetrate
      | none => true }
    (∀ t, d.stc.frameRole = true → d.pnc.move = none → d.pnc.pending = some t → t.treq ≠ 0 →
      eventWOpen d = { d with
        hsc := hold
        pnc := { d.pnc with
          pending := none, inPlace := false
          move := some { kind := .stitch, fromX := d.pnc.x, fromY := d.pnc.y, toX := t.x, toY := t.y, treq := t.treq,
                         started := d.now, atWOpen := true } } }) ∧
    (∀ t, d.stc.frameRole = true → d.pnc.move = none → d.pnc.pending = some t → t.treq = 0 →
      let homed := d.pnc.homed && decide (outsideField d (t.x, t.y) = none)
      eventWOpen d = { d with
        hsc := hold
        pnc := { d.pnc with pending := none, x := t.x, y := t.y, homed := homed, inPlace := homed } }) ∧
    (∀ m, d.stc.frameRole = true → d.pnc.move = some m →
      eventWOpen d = { d with hsc := hold, pnc := { d.pnc with move := some { m with atWOpen := false } } }) ∧
    ((d.stc.frameRole = false ∨ (d.pnc.move = none ∧ d.pnc.pending = none)) → eventWOpen d = { d with hsc := hold }) ∧
    (∀ m, d.pnc.move = some m → m.kind = .stitch → m.atWOpen = true →
      ∃ axis : Axis,
        (axis = .y ↔ axisTime (motion d).accel (motion d).topSpeed (m.toX - m.fromX).natAbs <
          axisTime (motion d).accel (motion d).topSpeed (m.toY - m.fromY).natAbs) ∧
        eventM d = requestVeto (fault { kind := .moveLate, stitch := d.ssq.stitch, needle := none,
                                        value := some (axisCode axis) } d)) ∧
    ((∀ m, d.pnc.move = some m → m.kind ≠ .stitch ∨ m.atWOpen = false) → eventM d = d)

/-! ## Thread Monitor -/

/-- THREAD_PULSE (R139) raises the pulse count of the open penetration by one, up to 255; with none open it is not counted.
TU_open opens its tension window, and an encoder count's TENSION reading raises its peak while the window is open (R139).
R140, R141, R142, R144: TU_close closes the open penetration. A TRIM leaves the run and sets the suppression count to C, and
gives no sample; a suppressed one lowers the count, and with no pulses begins a run; a judged one with pulses ends the run;
a suppressed or judged one with pulses then gives its peak reading as the tension sample (`TensionFilterAndState`); a dry
one raises the dry count and begins a run; the dry one that brings the count to B is a break: the run ends, the mark falls
to at most one below the run start, and THREAD_BREAK is written with the run start, the needle and the last dry stitch,
under the policy HALT acting as any fault, under WITHDRAW withdrawing an ACTIVE head (R161; here head-only, or with another
head counted ACTIVE). -/
def Obligations.ThreadPulsesAndVerdict : Prop :=
  (∀ s : State, Live s →
    exec .threadPulse s = .next (closed s { s.dev with thm := { s.dev.thm with
      pen := s.dev.thm.pen.map (fun p => { p with pulses := if p.pulses < 255 then p.pulses + 1 else 255 }) } })) ∧
  (∀ d : Station, d.stc.headRole = true →
    receive .tuOpen d = { d with thm := { d.thm with pen := d.thm.pen.map (fun p => { p with window := true }) } } ∧
    receive .tuClose d = closePenetration d) ∧
  (∀ (t : BitVec 10) (p : Penetration) (s : State), Live s → s.dev.stc.headRole = true → 1 ≤ s.dev.sht.lag →
    s.dev.thm.pen = some p →
    ∃ u : State, exec (.encoderForwardCount t) s = .next u ∧ u.dev.thm = { s.dev.thm with
      pen := some { p with peak := if p.window = true ∧ p.peak < t.toNat then t.toNat else p.peak } }) ∧
  (∀ d : Station, d.thm.pen = none → closePenetration d = d) ∧
  (∀ (d : Station) (p : Penetration), d.thm.pen = some p →
    let start := (d.thm.runStart.or (some p.stitch))
    let after (suppression dry : Nat) (run : Option Nat) : Station :=
      { d with thm := { d.thm with pen := none, suppression := suppression, dryCount := dry, runStart := run } }
    let first := d.thm.runStart.getD p.stitch
    let fr : FaultRecord := { kind := .threadBreak, stitch := first, needle := some p.needle, value := some p.stitch }
    let broken := { after 0 0 none with hsc := { d.hsc with mark := min (first - 1) d.hsc.mark } }
    (p.trim = true → closePenetration d = after (thread d).suppression d.thm.dryCount d.thm.runStart) ∧
    (p.trim = false → 0 < d.thm.suppression →
      (p.pulses = 0 → closePenetration d = after (d.thm.suppression - 1) d.thm.dryCount start) ∧
      (0 < p.pulses →
        closePenetration d = takeSample p (after (d.thm.suppression - 1) d.thm.dryCount d.thm.runStart))) ∧
    (p.trim = false → d.thm.suppression = 0 → 0 < p.pulses → closePenetration d = takeSample p (after 0 0 none)) ∧
    (p.trim = false → d.thm.suppression = 0 → p.pulses = 0 →
      (d.thm.dryCount + 1 ≠ (thread d).dryLimit → closePenetration d = after 0 (d.thm.dryCount + 1) start) ∧
      (d.thm.dryCount + 1 = (thread d).dryLimit →
        ((thread d).withdraw = false → closePenetration d = fault fr broken) ∧
        ((thread d).withdraw = true → d.stc.activity ≠ .active → closePenetration d = recorded fr broken) ∧
        ((thread d).withdraw = true → d.stc.activity = .active →
          (d.stc.frameRole = false ∨ noActiveHead (withdraws fr broken) = false) →
          closePenetration d = withdraws fr broken))))

/-- R144, R145, R146, R148: a sample of tension P: after a restart F becomes P; otherwise the rounded seven-eighths filter,
and the sample count rises to at most 4. Only a sample that finds or brings the count to 4 is judged: the tension state by
its limits with eight counts of hysteresis, then the fault bands; with F within the fault bands nothing more happens. With F
outside them the count of the needle rises, the third takes the needle out of service, the filter restarts, and TENSION_LOW
or TENSION_HIGH with the needle and F is a head fault of the station as it then stands, the tension state formed from this
sample among it (R161, as `StepBeginsAndHeadFault` gives it). -/
def Obligations.TensionFilterAndState : Prop :=
  ∀ (d : Station) (p : Penetration),
    let f := (7 * d.thm.filter + p.peak + 4) / 8
    let state : TensionState := match d.thm.tension with
      | .clear => if f < (thread d).tLoC ∨ (thread d).tHiC < f then .caution else .clear
      | .caution => if (thread d).tLoC + 8 ≤ f ∧ f + 8 ≤ (thread d).tHiC then .clear else .caution
    (d.thm.restart = true →
      takeSample p d = { d with thm := { d.thm with filter := p.peak, samples := 0, restart := false } }) ∧
    (d.thm.restart = false → d.thm.samples < 3 →
      takeSample p d = { d with thm := { d.thm with filter := f, samples := d.thm.samples + 1 } }) ∧
    (d.thm.restart = false → 3 ≤ d.thm.samples → (thread d).tLoF ≤ f → f ≤ (thread d).tHiF →
      takeSample p d = { d with thm := { d.thm with filter := f, samples := 4, tension := state } }) ∧
    (d.thm.restart = false → 3 ≤ d.thm.samples → (f < (thread d).tLoF ∨ (thread d).tHiF < f) →
      let count := min 3 (d.thm.counts.getD (p.needle - 1) 0 + 1)
      takeSample p d = headFault
        { kind := if f < (thread d).tLoF then .tensionLow else .tensionHigh
          stitch := d.ssq.stitch, needle := some p.needle, value := some f }
        { d with thm := { d.thm with
          filter := f, samples := 4, tension := state, restart := true
          counts := d.thm.counts.set (p.needle - 1) count
          service := if count = 3 then d.thm.service.set (p.needle - 1) false else d.thm.service } })

/-! ## Station states -/

/-- R37, R33 to R35, R164: what a fault record does. It is appended, or lost to a full list; in JOINING, READY, HALTED and
DONE nothing more; in RUN, the shaft turning, the station enters HALTING for it, and with the shaft at rest it leaves
HALTING at once, to DONE at S and to HALTED otherwise, the pending stitch move started and the decision dropped, a frame
station off top beginning its creep (R36, R98, R122); in HALTING it replaces a planned stop's reason alone; in ARMED the
station returns to its former state: to READY with any sequence ended, to HALTED with a sequence in progress running on
(R119, R123), or with one begun off top (R122). Clauses rest on the model's choices of log entries 14, 23 and 34. -/
def Obligations.FaultActsOnTheState : Prop :=
  ∀ (d : Station) (fr : FaultRecord),
    ((d.stc.state = .joining ∨ d.stc.state = .ready ∨ d.stc.state = .halted ∨ d.stc.state = .done) →
      fault fr d = recorded fr d) ∧
    (d.stc.state = .run → d.sht.atRest = false → fault fr d = halts (.fault fr.kind) (recorded fr d)) ∧
    (d.stc.state = .run → d.sht.atRest = true → fault fr d = stops (.fault fr.kind) (recorded fr d)) ∧
    (d.stc.state = .halting →
      ((d.stc.haltReason = some .colourStop ∨ d.stc.haltReason = some .endRecord) →
        fault fr d = { recorded fr d with stc := { (recorded fr d).stc with haltReason := some (.fault fr.kind) } }) ∧
      (d.stc.haltReason ≠ some .colourStop → d.stc.haltReason ≠ some .endRecord → fault fr d = recorded fr d)) ∧
    (d.stc.state = .armed → d.stc.former = .ready → fault fr d = returnsToReady (recorded fr d)) ∧
    (d.stc.state = .armed → d.stc.former ≠ .ready →
      fault fr d = returnsToHalted (recorded fr d))

/-- STALL_TIMEOUT (R19) in RUN writes DWELL_LIMIT with the hold reason and halts, and with the shaft at rest leaves HALTING
at once, the pending stitch move started (R34, R36, R98); in other states it does nothing. ARM_TIMEOUT (R33) in ARMED
returns the station to its former state without a record, a sequence in progress running on in HALTED (R123); in other
states it does nothing. JOIN_TIMEOUT (R25, R51, R94): in JOINING with the window running the sections are discarded, with
them the Peer Table, a JOIN_TIMEOUT record of stitch 0 and the set of sections held is written, the window restarts, and
homed is kept only in the default field; anywhere else it does nothing. Clauses rest on the model's choices of log entries
14, 31 and 34. -/
def Obligations.StationTimersExpire : Prop :=
  ∀ s : State, Live s →
    let d := s.dev
    let runs := d.stc.state = .joining ∧ d.stc.lock = .none ∧ d.stc.joinTimer ≠ none
    let held := d.stc.roster.isSome.toNat + 2 * d.stc.timing.isSome.toNat + 4 * d.stc.motion.isSome.toNat +
      8 * d.stc.thread.isSome.toNat
    let out := decide (d.pnc.x < 0 ∨ 24000 < d.pnc.x ∨ d.pnc.y < 0 ∨ 16000 < d.pnc.y)
    let r := recorded { kind := .joinTimeout, stitch := 0, needle := none, value := some held } d
    (d.stc.state = .run →
      let stall : FaultRecord :=
        { kind := .dwellLimit, stitch := d.ssq.stitch, needle := none, value := some (holdReason d).code }
      (d.sht.atRest = false → exec .stallTimeout s = .next (closed s (halts (.fault .dwellLimit) (recorded stall d)))) ∧
      (d.sht.atRest = true → exec .stallTimeout s = .next (closed s (stops (.fault .dwellLimit) (recorded stall d))))) ∧
    (d.stc.state ≠ .run → exec .stallTimeout s = .next (closed s d)) ∧
    (d.stc.state = .armed → d.stc.former = .ready → exec .armTimeout s = .next (closed s (returnsToReady d))) ∧
    (d.stc.state = .armed → d.stc.former ≠ .ready →
      exec .armTimeout s = .next (closed s (returnsToHalted d))) ∧
    (d.stc.state ≠ .armed → exec .armTimeout s = .next (closed s d)) ∧
    (runs → exec .joinTimeout s = .next (closed s { d with
      stc := { r.stc with roster := none, timing := none, motion := none, thread := none, joinTimer := some d.now }
      prt := []
      pnc := if d.pnc.homed && out then { d.pnc with homed := false, inPlace := false } else d.pnc })) ∧
    (¬runs → exec .joinTimeout s = .next (closed s d))

/-- STOP (R38): an accepted Stop returns ARMED to its former state (a sequence in progress running on in HALTED, R123),
halts RUN with reason STOP, leaving HALTING at once with the shaft at rest (R34, R36, R98), replaces a planned stop's reason
in HALTING, cuts a walk in HALTED, and does nothing in DONE. Clauses rest on the model's choices of log entries 14, 23 and
34. -/
def Obligations.StopByState : Prop :=
  ∀ (src : Addr) (p : Payload) (s : State), Live s → Taken (.stop src p) s.dev →
    let d := s.dev
    let planned := d.stc.haltReason = some .colourStop ∨ d.stc.haltReason = some .endRecord
    let reason := if planned then some .stop else d.stc.haltReason
    (d.stc.state = .run → d.sht.atRest = false → exec (.stop src p) s = .next (closed s (halts .stop d))) ∧
    (d.stc.state = .run → d.sht.atRest = true → exec (.stop src p) s = .next (closed s (stops .stop d))) ∧
    (d.stc.state = .armed → d.stc.former = .ready → exec (.stop src p) s = .next (closed s (returnsToReady d))) ∧
    (d.stc.state = .armed → d.stc.former ≠ .ready →
      exec (.stop src p) s = .next (closed s (returnsToHalted d))) ∧
    (d.stc.state = .halting →
      exec (.stop src p) s = .next (closed s { d with stc := { d.stc with haltReason := reason } })) ∧
    (d.stc.state = .halted →
      exec (.stop src p) s = .next (closed s { d with ssq := { d.ssq with
        walk := d.ssq.walk.map (fun k => { k with cutPending := true }) } })) ∧
    (d.stc.state = .done → exec (.stop src p) s = .next (closed s d))

/-- START (R31 to R33, R53, R95, R120, R122, R123, R130, R136): the first row of the table that fails refuses the Start,
which changes nothing but the last refusal and the slot of its Status. With none failing the station enters ARMED: the
former state READY from READY and HALTED from HALTED or DONE, the halt reason cleared, the arm timer from 0; a sequence in
progress goes on. What the entry finds, in the order of log entry 13: an ACTIVE head's wanted needle 0, out of service, or
its case on no needle with no step, is NO_NEEDLE, NEEDLE_OUT or CASE_LOST, which under HALT returns the station to its
former state and under WITHDRAW withdraws the head in ARMED; otherwise a step that is due begins at rest on top, or waits
off top; a next-target finding writes FIELD, deferred or not, and returns the station; a frame station off top begins its
creep. A Start gets no further with a peer lost or DRIVE_READY low (rows 4, 8); at the automatic arming of R36, in
REST_REACHED, they write PEER_LOST, with the lowest lost address, and DRIVE, and return the station to HALTED. Clauses rest
on the model's choices of log entries 13 and 17. -/
def Obligations.StartRefusedOrArms : Prop :=
  (∀ (src : Addr) (p : Payload) (s : State), Live s → Taken (.start src p) s.dev →
    let d := s.dev
    let c : Instr := .start src p
    let row : Nat → Bool
      | 1 => d.ssq.walk.isSome || (d.stc.frameRole && d.pnc.go.isSome)
      | 2 => d.pgs.header.isNone || atDesignEnd d
      | 3 => !d.stc.faults.isEmpty && !(decide (d.stc.activity = .withdrawn) && !d.stc.frameRole)
      | 4 => d.prt.any (fun e => e.lost)
      | 5 => d.prt.any (fun e => e.mismatched)
      | 6 => d.stc.frameRole && !(d.pnc.homed && d.pnc.inPlace)
      | 7 => d.stc.frameRole && extentsOutside d
      | 8 => d.stc.frameRole && !d.pins.driveReady
      | 9 => d.stc.frameRole && noActiveHead d
      | _ => false
    let armed := arms (if d.stc.state = .ready then .ready else .halted) d
    let back (e : Station) : Station := if d.stc.state = .ready then returnsToReady e else returnsToHalted e
    let undeferred (e : Station) : Station := { e with pnc := { e.pnc with deferred := false } }
    let head := d.stc.headRole = true ∧ d.stc.activity = .active
    let placed := head → wantedNeedle d ≠ 0 ∧ inService d (wantedNeedle d) = true ∧ currentNeedle d = wantedNeedle d
    let onTop := d.stc.frameRole = true → restOnTop d = true
    let waiting (e : Station) : Station := { e with ncc := { e.ncc with stepWaiting := true } }
    let found (fr : FaultRecord) : Prop :=
      ((thread d).withdraw = false →
        exec c s = .next (closed s (back (recorded fr armed)))) ∧
      ((thread d).withdraw = true → d.pnc.finding = none → onTop →
        (d.stc.frameRole = true → noActiveHead (withdraws fr armed) = false) →
        exec c s = .next (closed s (withdraws fr armed)))
    (∀ (i : Nat) (why : RefusalReason), row i = true → (∀ j, j < i → row j = false) →
      [RefusalReason.busy, .noDesign, .faulted, .peerMissing, .indexMismatch, .notPlaced, .field, .drive, .noActiveHead][i - 1]? =
        some why →
      exec c s = .next (closed s (refused .start why d))) ∧
    (startRefusal d = none → ArmsQuietly d → exec c s = .next (closed s armed)) ∧
    (∀ a, startRefusal d = none → d.pnc.finding = some a → ArmsQuietly { d with pnc := { d.pnc with finding := none } } →
      exec c s = .next (closed s (back (recorded (fieldFault a d) (undeferred armed))))) ∧
    (startRefusal d = none → d.sgv.reposition ≠ none → placed → d.pnc.finding = none →
      exec c s = .next (closed s { armed with sgv := { d.sgv with givenUp := false } })) ∧
    (startRefusal d = none → d.sgv.reposition = none → head →
      (wantedNeedle d = 0 →
        found { kind := .noNeedle, stitch := d.ssq.stitch, needle := none, value := some d.ssq.slot }) ∧
      (wantedNeedle d ≠ 0 → inService d (wantedNeedle d) = false →
        found { kind := .needleOut, stitch := d.ssq.stitch, needle := some (wantedNeedle d), value := some d.ssq.slot }) ∧
      (wantedNeedle d ≠ 0 → inService d (wantedNeedle d) = true → d.ncc.step = none → currentNeedle d = 0 →
        found { kind := .caseLost, stitch := d.ssq.stitch, needle := none
                value := some (if d.pins.caseCode ≤ 12 then d.pins.caseCode else 0) }) ∧
      (d.pnc.finding = none → StepDue armed →
        (restOnTop d = true → exec c s = .next (closed s (steps armed))) ∧
        (restOnTop d = false → d.stc.frameRole = false → exec c s = .next (closed s (waiting armed))) ∧
        (CreepDue armed → exec c s = .next (closed s (creeps (waiting armed)))))) ∧
    (startRefusal d = none → placed → d.pnc.finding = none → CreepDue armed → exec c s = .next (closed s (creeps armed)))) ∧
  (∀ s : State, Live s →
    let d := s.dev
    let m := pendingStarted (rested d)
    let armed := arms .halted m
    d.stc.state = .halting → d.sht.atRest = false → atDesignEnd d = false → d.stc.haltReason = some .colourStop →
    (thread d).pause = false → d.stc.faults = [] → d.sgv.reposition = none → d.pnc.deferred = false →
    (∀ a, (∃ e ∈ d.prt, e.lost = true ∧ e.addr = a) → (∀ e ∈ d.prt, e.lost = true → a ≤ e.addr) →
      exec .restReached s = .next (closed s (returnsToHalted (recorded
        { kind := .peerLost, stitch := d.ssq.stitch, needle := none, value := some a } { armed with ncc := d.ncc })))) ∧
    ((∀ e ∈ d.prt, e.lost = false) → d.stc.frameRole = true → d.pins.driveReady = false → d.pnc.finding = none →
      (d.stc.headRole = true → d.stc.activity = .active →
        wantedNeedle d ≠ 0 ∧ inService d (wantedNeedle d) = true ∧ currentNeedle d = wantedNeedle d) →
      exec .restReached s = .next (closed s (returnsToHalted (recorded
        { kind := .drive, stitch := d.ssq.stitch, needle := none, value := some 0 } armed)))))

/-! ## Walks -/

/-- BACK, FORWARD (R82, R83): a walk in progress, or a Go on the frame role, refuses them with BUSY; a count of 0 does
nothing; one clamped to 0 records the report alone, CLAMPED. Back is clamped at the lowest reachable stitch and the colour
stop mark, Forward at the limit stitch. R63, R83, the values: the lowest reachable stitch is 0 with no current page or with
page 0 current or retained, and otherwise the first stitch of the oldest page retained or current; the highest held stitch
is the last of the newest page posted or current, or 0; the limit stitch is the least of that, the first COLOR_STOP or END
record held above r, and the last stitch of page p + d (of a page store that keeps `PageLaw`). -/
def Obligations.WalkRefusedOrNowhere : Prop :=
  ∀ (src : Addr) (p : Payload) (s : State), Live s →
    let d := s.dev
    let busy := d.ssq.walk.isSome = true ∨ (d.stc.frameRole = true ∧ d.pnc.go.isSome = true)
    let low := match d.pgs.current with
      | none => 0
      | some c => match d.pgs.retained.head? with
        | some o => if o.number = 0 then 0 else 12 * o.number + 1
        | none => if c.number = 0 then 0 else 12 * c.number + 1
    let top := match d.pgs.posted.getLast?, d.pgs.current with
      | some p, _ => 12 * p.number + p.records.length
      | none, some c => 12 * c.number + c.records.length
      | none, none => 0
    let page := match d.pgs.current with
      | some c => c.number
      | none => 0
    let far := min top (12 * (page + (motion d).retention + 1))
    let stops (n : Nat) : Bool := decide (∃ x ∈ d.pgs.read n, x.kind = .colorStop ∨ x.kind = .endRecord)
    let limit := match (List.range (top - d.ssq.stitch)).find? (fun j => stops (d.ssq.stitch + 1 + j)) with
      | some j => min far (d.ssq.stitch + 1 + j)
      | none => far
    let report (dir : WalkDir) : Station := { d with ssq := { d.ssq with
      report := { dir := dir, requested := countOf p, actual := 0, outcome := .clamped } } }
    d.pgs.lowest = low ∧ d.pgs.highest = top ∧ (PageLaw d → forwardLimit d = limit) ∧
    (Taken (.back src p) d →
      (busy → exec (.back src p) s = .next (closed s (refused .back .busy d))) ∧
      (¬busy → countOf p = 0 → exec (.back src p) s = .next (closed s d)) ∧
      (¬busy → countOf p ≠ 0 → d.ssq.stitch ≤ max low d.ssq.mark →
        exec (.back src p) s = .next (closed s (report .back)))) ∧
    (Taken (.forward src p) d →
      (busy → exec (.forward src p) s = .next (closed s (refused .forward .busy d))) ∧
      (¬busy → countOf p = 0 → exec (.forward src p) s = .next (closed s d)) ∧
      (¬busy → countOf p ≠ 0 → PageLaw d → limit ≤ d.ssq.stitch →
        exec (.forward src p) s = .next (closed s (report .forward))))

/-- BACK, FORWARD (R82 to R87, R95): a walk of at least one stitch begins. The stitch number becomes the target, with the
page crossings and the position there; the walk record keeps start, slot and mark; the report is FULL or CLAMPED; a Forward
that lands on a COLOR_STOP takes its slot and mark; no entry is mismatched any more; a Back in DONE goes to HALTED, where a
frame station off top begins its creep; the finding is formed anew. A head-only station waits for the frame station; a frame
station that is not homed ends the walk at once. A homed one clears in-place and makes the walk's moves from the start: with
a move still in progress the first waits for it (log entry 21); otherwise z stitches of no displacement, none, one or
several, are passed in this event, the hoop at the last of them, and the walk then ends at its target with in-place set, or
starts the move to the next stitch, or, that stitch's target outside the field, writes FIELD with that stitch and axis and
is cut: the stitch number, position and pages are those of the walk stitch reached, slot and mark as before the walk, the
report WALK_CUT with the stitches walked, in-place set where no move is left, and the finding formed anew. Clauses rest on
the model's choices of log entry 21. -/
def Obligations.WalkBegins : Prop :=
  ∀ (src : Addr) (p : Payload) (dir : WalkDir) (s : State), Live s →
    let d := s.dev
    let c : Instr := match dir with
      | .back => .back src p
      | .forward => .forward src p
    let a := match dir with
      | .back => min (countOf p) (d.ssq.stitch - max d.pgs.lowest d.ssq.mark)
      | .forward => min (countOf p) (forwardLimit d - d.ssq.stitch)
    let n := match dir with
      | .back => d.ssq.stitch - a
      | .forward => d.ssq.stitch + a
    let sum := match dir with
      | .back => (-(d.pgs.displacement n a).1, -(d.pgs.displacement n a).2)
      | .forward => d.pgs.displacement d.ssq.stitch a
    let px := d.ssq.px + sum.1
    let py := d.ssq.py + sum.2
    let stop := decide (dir = .forward) && decide (∃ r ∈ d.pgs.read n, r.kind = .colorStop)
    let aux := match d.pgs.read n with
      | some r => r.aux
      | none => 0
    let k : Walk := { dir := dir, start := d.ssq.stitch, target := n, stitch := d.ssq.stitch, px := d.ssq.px, py := d.ssq.py,
                      slot := d.ssq.slot, mark := d.ssq.mark, cutPending := false }
    let pages := d.pgs.moveTo (motion d).retention d.ssq.stitch n
    let e := { d with pgs := pages }
    let at_ (z : Nat) : Int × Int := if z = 0 then (d.pnc.x, d.pnc.y) else walkTarget e k z
    let found := nextFinding d pages n px py
    let shown : WalkReport :=
      { dir := dir, requested := countOf p, actual := a, outcome := if a = countOf p then .full else .clamped }
    let first := walkTarget e k 1
    Taken c d → d.ssq.walk = none → (d.stc.frameRole = true → d.pnc.go = none) → 1 ≤ a →
    ∃ t : State, exec c s = .next t ∧ t.pending = s.pending ∧
      t.dev.prt = d.prt.map (fun e => { e with mismatched := false }) ∧
      t.dev.sht = d.sht ∧ t.dev.pins = d.pins ∧ t.dev.hsc.mark = d.hsc.mark ∧ t.dev.gtu.dwellCount = d.gtu.dwellCount ∧
      t.dev.sgv = (if d.stc.state = .done ∧ CreepDue d then creeps d else d).sgv ∧
      (let begun (w : Option Walk) : Prop :=
        t.dev.pgs = pages ∧ t.dev.stc = { d.stc with state := .halted } ∧
        t.dev.ssq = { stitch := n, px := px, py := py, slot := if stop then aux else d.ssq.slot,
                      mark := if stop then n else d.ssq.mark, walk := w, report := shown }
      let cut (z : Nat) (axis : Axis) : Prop :=
        let j := walkAfter e k z
        let kept := pages.moveTo (motion d).retention n j.stitch
        let fr : FaultRecord := { kind := .field, stitch := (walkAfter e k (z + 1)).stitch, needle := none
                                  value := some (axisCode axis) }
        t.dev.pgs = kept ∧ t.dev.stc = { (recorded fr d).stc with state := .halted } ∧
        t.dev.ssq = { stitch := j.stitch, px := j.px, py := j.py, slot := d.ssq.slot, mark := d.ssq.mark, walk := none
                      report := { shown with actual := z, outcome := .walkCut } } ∧
        t.dev.pnc = { d.pnc with x := (at_ z).1, y := (at_ z).2, inPlace := decide (d.pnc.move = none)
                                 finding := nextFinding d kept j.stitch j.px j.py }
      (d.stc.frameRole = false → begun (some k) ∧ t.dev.pnc = d.pnc) ∧
      (d.stc.frameRole = true → d.pnc.homed = false →
        begun none ∧ t.dev.pnc = { d.pnc with inPlace := false, finding := found }) ∧
      (d.stc.frameRole = true → d.pnc.homed = true → d.pnc.move ≠ none →
        (outsideField d first = none → begun (some k) ∧ t.dev.pnc = { d.pnc with
          inPlace := false, finding := found, waiting := some { x := first.1, y := first.2, treq := walkTime e k 0 } }) ∧
        (∀ axis, outsideField d first = some axis → cut 0 axis)) ∧
      (∀ z, d.stc.frameRole = true → d.pnc.homed = true → d.pnc.move = none → Stands e k z →
        let j := walkAfter e k z
        let next := walkTarget e k (z + 1)
        (j.stitch = n → begun none ∧ t.dev.pnc = { d.pnc with
          x := (at_ z).1, y := (at_ z).2, inPlace := true, finding := found }) ∧
        (∀ axis, j.stitch ≠ n → outsideField d next = some axis → cut z axis) ∧
        (j.stitch ≠ n → outsideField d next = none → walkTime e k z ≠ 0 →
          begun (some (walkAfter e k (z + 1))) ∧ t.dev.pnc = { d.pnc with
            x := (at_ z).1, y := (at_ z).2, inPlace := false, finding := found
            move := some { kind := .walk, fromX := (at_ z).1, fromY := (at_ z).2, toX := next.1, toY := next.2
                           treq := walkTime e k z, started := d.now, atWOpen := false } })))

/-! ## Console notices -/

/-- HEAD_SELECT (R159, R160, R134): the flagged head becomes ACTIVE, another DESELECTED; a head that leaves ACTIVE clears step
waiting, and its step that waits for a retry ends; a mask that leaves the activity as it stands does nothing.
FAULT_CLEAR (R166, R149): a needle field above 12 is refused with FORMAT; otherwise the oldest record is removed, the removal
that empties the list clears the overflow flag, and a head restores the needle named. -/
def Obligations.HeadSelectAndFaultClear : Prop :=
  ∀ (src : Addr) (p : Payload) (s : State), Live s →
    let d := s.dev
    let act : Activity := if (be32At p 1).testBit d.stc.addr then .active else .deselected
    let n := byteAt p 1
    (Taken (.headSelect src p) d →
      (d.stc.activity = act → exec (.headSelect src p) s = .next (closed s d)) ∧
      (d.stc.activity ≠ act → exec (.headSelect src p) s = .next (closed s { d with
        stc := { d.stc with activity := act }
        ncc := if act = .active then d.ncc else d.ncc.left }))) ∧
    (Taken (.faultClear src p) d →
      (12 < n → exec (.faultClear src p) s = .next (closed s (refused .faultClear .format d))) ∧
      (n ≤ 12 → exec (.faultClear src p) s = .next (closed s { d with
        stc := { d.stc with
          faults := d.stc.faults.tail
          overflow := d.stc.overflow && decide (d.stc.faults.length ≠ 1) }
        thm := if d.stc.headRole = true ∧ 1 ≤ n then
            { d.thm with counts := d.thm.counts.set (n - 1) 0, service := d.thm.service.set (n - 1) true }
          else d.thm })))

/-- NEEDLE_MAP (R127, R128, R135): a map with an entry above 12 is refused with FORMAT; another replaces the map held, and
the settle is judged against the needle it wants: latched on it, the settle timer starts unless it runs or settled is set,
and with a settle time of 0 settled is set at once, a needle other than the settled needle being a needle change (R142,
R143, R145, R146); not latched on it, the timer is idle and settled clear. -/
def Obligations.NeedleMapReplacesTheMap : Prop :=
  ∀ (src : Addr) (p : Payload) (s : State), Live s → Taken (.needleMap src p) s.dev →
    let d := s.dev
    let m := { d with ncc := { d.ncc with map := mapOf p } }
    ((∃ i, i < 64 ∧ 12 < (mapOf p).getD i 0) →
      exec (.needleMap src p) s = .next (closed s (refused .needleMap .format d))) ∧
    ((∀ i, i < 64 → (mapOf p).getD i 0 ≤ 12) →
      (wantedNeedle m = 0 ∨ currentNeedle d ≠ wantedNeedle m →
        exec (.needleMap src p) s = .next (closed s { m with ncc := { m.ncc with settleTimer := none, settled := false } })) ∧
      (wantedNeedle m ≠ 0 → currentNeedle d = wantedNeedle m → (d.ncc.settled = true ∨ d.ncc.settleTimer ≠ none) →
        exec (.needleMap src p) s = .next (closed s m)) ∧
      (wantedNeedle m ≠ 0 → currentNeedle d = wantedNeedle m → d.ncc.settled = false → d.ncc.settleTimer = none →
        (thread d).settleTime ≠ 0 →
        exec (.needleMap src p) s = .next (closed s { m with ncc := { m.ncc with settleTimer := some d.now } })) ∧
      (wantedNeedle m ≠ 0 → currentNeedle d = wantedNeedle m → d.ncc.settled = false → d.ncc.settleTimer = none →
        (thread d).settleTime = 0 →
        exec (.needleMap src p) s = .next (closed s { m with
          ncc := { m.ncc with settled := true, settleTimer := none, settledNeedle := currentNeedle d }
          thm := if currentNeedle d = d.ncc.settledNeedle then d.thm else { d.thm with
            pen := none, suppression := (thread d).suppression, runStart := none, dryCount := 0, restart := true
            tension := .clear } })))

/-- PANTOGRAPH_GO of each variant (R102): the first check that fails refuses the Go with its reason, and the pantograph does
nothing. Clauses rest on the model's choices of log entry 28. -/
def Obligations.GoRefusedByFirstFailingCheck : Prop :=
  ∀ (v : GoVariant) (src : Addr) (p : Payload) (x y : Bool) (s : State), Live s →
    let c : Instr := match v with
      | .home => .pantographGoHome src p x y
      | .park => .pantographGoPark src p
      | .goReturn => .pantographGoReturn src p
      | .absolute => .pantographGoAbsolute src p
      | .setOrigin => .pantographGoSetOrigin src p
      | .trace => .pantographGoTrace src p
    let d := { s.dev with pins := levelsAfter c s.dev.pins }
    let row : Nat → Bool
      | 1 => byteAt p 1 != v.code
      | 2 => d.ssq.walk.isSome || d.pnc.move.isSome || d.pnc.pending.isSome || d.pnc.waiting.isSome || d.pnc.go.isSome ||
          !d.sht.atRest
      | 3 => decide (v ≠ .home) && !d.pnc.homed
      | 4 => decide (v = .setOrigin) && decide (d.stc.state ≠ .ready ∨ d.ssq.stitch ≠ 0)
      | 5 => decide (v = .trace) && d.pgs.header.isNone
      | 6 => decide (v = .trace) && cornersOutside d
      | 7 => decide (v = .goReturn) && (outsideField d (presentTarget d)).isSome
      | _ => false
    Taken c s.dev → ∀ (i : Nat) (why : RefusalReason), row i = true → (∀ j, j < i → row j = false) →
      [RefusalReason.format, .busy, .notHomed, .state, .noDesign, .field, .field][i - 1]? = some why →
      exec c s = .next (closed s (refused .pantographGo why d))

/-- PANTOGRAPH_GO HOME, HOME_SWITCH_CLOSE, HOME_BACKOFF_DONE, HOME_SEEK_LIMIT (R103, R104): HOME clears homed and in-place
and sends each axis to seek its switch, or straight to back off from a closed one; the switch ends a seek, the 40 steps end
a back-off, the limit fails a seek; when both axes have ended the position is (0, 0), homed if neither failed, and each
failed axis writes HOME_FAIL, X before Y (the model's choice, log entry 42). An event of an axis in another phase (R103: the
switch is not read during BACKOFF; the back-off's end or the limit in a phase that has none), or without a HOME, changes
only the switch level it brings. Clauses rest on the model's choices of log entries 31 and 42. -/
def Obligations.HomeFindsBothSwitches : Prop :=
  ∀ (src : Addr) (p : Payload) (xc yc : Bool) (s : State), Live s →
    let d := s.dev
    let start (closed : Bool) : HomeAxis := if closed then .backoff else .seek d.now
    let pins := { d.pins with xHome := xc, yHome := yc }
    (Taken (.pantographGoHome src p xc yc) d → goRefusal .home p d = none →
      exec (.pantographGoHome src p xc yc) s = .next (closed s { d with
        pins := pins
        pnc := { d.pnc with homed := false, inPlace := false, go := some (.home (start xc) (start yc)) } })) ∧
    (∀ a : Axis,
      let e := { d with pins := levelsAfter (.homeSwitchClose a) d.pins }
      ((∀ hx hy, d.pnc.go ≠ some (.home hx hy)) →
        exec (.homeSwitchClose a) s = .next (closed s e) ∧ exec (.homeBackoffDone a) s = .next (closed s d) ∧
        exec (.homeSeekLimit a) s = .next (closed s d)) ∧
      (∀ hx hy, d.pnc.go = some (.home hx hy) →
        let mine := if a = .x then hx else hy
        let other := if a = .x then hy else hx
        let go (h : HomeAxis) : Option Go := some (if a = .x then .home h hy else .home hx h)
        let ended (both : Bool) : Station := { d with pnc :=
          { d.pnc with x := 0, y := 0, go := none, homed := both, inPlace := false } }
        let fail (b : Axis) : FaultRecord :=
          { kind := .homeFail, stitch := d.ssq.stitch, needle := none, value := some (axisCode b) }
        ((mine = .backoff ∨ mine = .done ∨ mine = .failed) → exec (.homeSwitchClose a) s = .next (closed s e)) ∧
        (mine ≠ .backoff → exec (.homeBackoffDone a) s = .next (closed s d)) ∧
        ((mine = .backoff ∨ mine = .done ∨ mine = .failed) → exec (.homeSeekLimit a) s = .next (closed s d)) ∧
        (∀ t0, mine = .seek t0 →
          exec (.homeSwitchClose a) s = .next (closed s { e with pnc := { d.pnc with go := go .backoff } })) ∧
        (mine = .backoff → (other = .backoff ∨ ∃ t0, other = .seek t0) →
          exec (.homeBackoffDone a) s = .next (closed s { d with pnc := { d.pnc with go := go .done } })) ∧
        (mine = .backoff → other = .done → exec (.homeBackoffDone a) s = .next (closed s (ended true))) ∧
        (mine = .backoff → other = .failed →
          exec (.homeBackoffDone a) s = .next (closed s (fault (fail (if a = .x then .y else .x)) (ended false)))) ∧
        (∀ t0, mine = .seek t0 → (other = .backoff ∨ ∃ t1, other = .seek t1) →
          exec (.homeSeekLimit a) s = .next (closed s { d with pnc := { d.pnc with go := go .failed } })) ∧
        (∀ t0, mine = .seek t0 → other = .done →
          exec (.homeSeekLimit a) s = .next (closed s (fault (fail a) (ended false)))) ∧
        (∀ t0, mine = .seek t0 → other = .failed →
          exec (.homeSeekLimit a) s = .next (closed s (fault (fail .y) (fault (fail .x) (ended false)))))))

/-- PANTOGRAPH_GO PARK, RETURN, ABSOLUTE (R105, R97, R101): the Go makes one move to the park position, to the target of the
present stitch, or to the notice's coordinates clamped into the field, clearing in-place; a target that is the position
already completes at once, RETURN with in-place set. -/
def Obligations.OneLegGos : Prop :=
  ∀ (src : Addr) (p : Payload) (v : GoVariant) (s : State), Live s → (v = .park ∨ v = .goReturn ∨ v = .absolute) →
    let d := s.dev
    let c : Instr := if v = .park then .pantographGoPark src p
      else if v = .goReturn then .pantographGoReturn src p else .pantographGoAbsolute src p
    let g : Go := if v = .park then .park else if v = .goReturn then .goReturn else .absolute
    let t : Int × Int := if v = .park then ((motion d).parkX, (motion d).parkY)
      else if v = .goReturn then (if d.ssq.stitch = 0 then (d.pnc.originX, d.pnc.originY) else targetOfPos d d.ssq.px d.ssq.py)
      else (min (be16At p 2 : Int) (motion d).xMax, min (be16At p 4 : Int) (motion d).yMax)
    Taken c d → goRefusal v p d = none → outsideField d (d.pnc.x, d.pnc.y) = none →
    (t ≠ (d.pnc.x, d.pnc.y) →
      exec c s = .next (closed s { d with pnc :=
        { d.pnc with go := some g, inPlace := false, move := some (legStarted d t) } })) ∧
    (t = (d.pnc.x, d.pnc.y) →
      exec c s = .next (closed s { d with pnc :=
        { d.pnc with go := none, inPlace := decide (v = .goReturn) && d.pnc.homed, move := none } }))

/-- PANTOGRAPH_GO SET_ORIGIN (R106, R95): the origin becomes the position, in-place is set, and the next-target finding is
formed anew. PANTOGRAPH_GO TRACE (R107): the first of the five legs, to the corners of the extents and back, starts; the
others wait their turn; in-place keeps its value. The legs of no displacement that come before it are made in this event
(R97), and with all five such the Go ends in it. -/
def Obligations.SetOriginAndTrace : Prop :=
  ∀ (src : Addr) (p : Payload) (s : State), Live s →
    let d := s.dev
    let o := { d with pnc := { d.pnc with originX := d.pnc.x, originY := d.pnc.y, inPlace := d.pnc.homed } }
    (Taken (.pantographGoSetOrigin src p) d → goRefusal .setOrigin p d = none →
      exec (.pantographGoSetOrigin src p) s = .next (closed s { o with pnc := { o.pnc with finding := findingNow o } })) ∧
    (∀ h, Taken (.pantographGoTrace src p) d → goRefusal .trace p d = none → d.pgs.header = some h →
      let corner (x y : Int) : Int × Int :=
        (d.pnc.originX + (transform h x y).1, d.pnc.originY + (transform h x y).2)
      let legs := legsFrom (d.pnc.x, d.pnc.y) [corner h.xmin h.ymin, corner h.xmax h.ymin, corner h.xmax h.ymax,
        corner h.xmin h.ymax, (d.pnc.x, d.pnc.y)]
      (legs = [] → exec (.pantographGoTrace src p) s = .next (closed s d)) ∧
      (∀ l ls, legs = l :: ls → exec (.pantographGoTrace src p) s = .next (closed s { d with pnc := { d.pnc with
        go := some (.trace ls), move := some (legStarted d l) } })))

/-- CONFIGURE of each section (R26 to R29, R9, R51, R94): a section that fails its check is refused with the check's reason,
and what was held stays; one that passes is held, the section that completes the set taking the station to READY. ROSTER: an
entry count outside 1..31 is refused with FORMAT, here, after the checks of R44 (the model's choice, log entry 41); one of
the seven conditions of R27 with ROSTER; a roster held sets up a fresh Peer Table of every other station. TIMING: clamped,
refused with ORDER by the seven orders of R9, then with RANGE by the move window. MOTION: clamped, the park position after
the field and N_trim, N_caution after N_top, N_halt and W, never refused; a position outside its field clears homed and
in-place. THREAD: a policy or pause outside its two values is refused with FORMAT, first, and tension limits not strictly
increasing after clamping with ORDER. Clauses rest on the model's choices of log entries 9 and 41. -/
def Obligations.ConfigureHoldsOrRefuses : Prop :=
  ∀ (src : Addr) (p : Payload) (s : State), Live s →
    let d := s.dev
    let into (lo hi n : Nat) : Nat := if n < lo then lo else if hi < n then hi else n
    let no (why : RefusalReason) : Station := refused .configure why d
    (Taken (.configureRoster src p) d →
      let es := rosterOf p
      let counted := 1 ≤ es.length ∧ es.length ≤ 31
      let fits := (∀ e ∈ es, 1 ≤ e.addr ∧ e.addr ≤ 31) ∧ (es.map (·.addr)).Nodup ∧ (∀ e ∈ es, e.head = true ∨ e.frame = true) ∧
        (es.filter (·.frame)).length = 1 ∧ (es.filter (·.head)).length ≤ 30 ∧ (∃ e ∈ es, e.addr = d.stc.addr) ∧
        (∀ e ∈ es, e.addr = d.stc.addr → e.head = d.stc.headRole ∧ e.frame = d.stc.frameRole)
      (¬counted → exec (.configureRoster src p) s = .next (closed s (no .format))) ∧
      (counted → ¬fits → exec (.configureRoster src p) s = .next (closed s (no .roster))) ∧
      (counted → fits → exec (.configureRoster src p) s = .next (closed s (joined { d with
        stc := { d.stc with roster := some es }
        prt := (es.filter (fun e => decide (e.addr ≠ d.stc.addr))).map (fun e =>
          { addr := e.addr, head := e.head, frame := e.frame, heard := false, last := none, ageFrom := d.now, lost := false,
            mismatched := false }) })))) ∧
    (Taken (.configureTiming src p) d →
      let raw := timingOf p
      let a (n : Nat) : Nat := into 0 1023 n
      let t : TimingSection := { m := a raw.m, h := a raw.h, aArm := a raw.aArm, tuOpen := a raw.tuOpen, tuClose := a raw.tuClose,
                                 kOn := a raw.kOn, kOff := a raw.kOff, d := a raw.d, wOpen := a raw.wOpen
                                 tStill := into 10 100 raw.tStill, dwellLimit := into 1 15 raw.dwellLimit
                                 armTimeout := into 2 60 raw.armTimeout }
      let ordered := t.m + 16 ≤ t.h ∧ t.h < t.aArm ∧ (t.aArm < t.tuOpen ∧ t.tuOpen < t.tuClose ∧ t.tuClose + 16 ≤ t.d) ∧
        (t.aArm ≤ t.kOn ∧ t.kOn < t.kOff ∧ t.kOff ≤ t.d) ∧ t.d + 16 ≤ t.wOpen ∧ 33 ≤ t.aArm ∧ t.wOpen ≤ 991
      let window := (t.m + 1024 - t.wOpen) % 1024
      (¬ordered → exec (.configureTiming src p) s = .next (closed s (no .order))) ∧
      (ordered → (window < 256 ∨ 768 < window) → exec (.configureTiming src p) s = .next (closed s (no .range))) ∧
      (ordered → 256 ≤ window → window ≤ 768 →
        exec (.configureTiming src p) s = .next (closed s (joined { d with stc := { d.stc with timing := some t } })))) ∧
    (Taken (.configureMotion src p) d →
      let raw := motionOf p
      let xMax := into 1000 32000 raw.xMax
      let yMax := into 1000 32000 raw.yMax
      let nHalt := into 30 200 raw.nHalt
      let rampDown := into 20 300 raw.rampDown
      let nTop := into 200 1500 raw.nTop
      let top := min nTop (nHalt + 16 * rampDown)
      let m : MotionSection := { accel := into 100 4000 raw.accel, topSpeed := into 4 80 raw.topSpeed
                                 settle := into 0 10000 raw.settle, xMax := xMax, yMax := yMax
                                 parkX := into 0 xMax raw.parkX, parkY := into 0 yMax raw.parkY, nTop := nTop, nHalt := nHalt
                                 nTrim := into nHalt top raw.nTrim, nCaution := into nHalt top raw.nCaution
                                 rampUp := into 10 200 raw.rampUp, rampDown := rampDown
                                 retention := into 2 64 raw.retention }
      let out := decide (d.pnc.homed = true ∧ ¬(0 ≤ d.pnc.x ∧ d.pnc.x ≤ xMax ∧ 0 ≤ d.pnc.y ∧ d.pnc.y ≤ yMax))
      exec (.configureMotion src p) s = .next (closed s (joined { d with
        stc := { d.stc with motion := some m }
        pnc := { d.pnc with homed := d.pnc.homed && !out, inPlace := d.pnc.inPlace && !out } }))) ∧
    (Taken (.configureThread src p) d →
      let raw := threadOf p
      let t : ThreadSection := { raw with
        dryLimit := into 1 7 raw.dryLimit, suppression := into 0 7 raw.suppression, tLoF := into 0 1023 raw.tLoF
        tLoC := into 0 1023 raw.tLoC, tHiC := into 0 1023 raw.tHiC, tHiF := into 0 1023 raw.tHiF
        stepTimeout := into 100 1000 raw.stepTimeout, settleTime := into 0 200 raw.settleTime }
      let valued := byteAt p 12 ≤ 1 ∧ byteAt p 16 ≤ 1
      let rising := t.tLoF < t.tLoC ∧ t.tLoC < t.tHiC ∧ t.tHiC < t.tHiF
      (¬valued → exec (.configureThread src p) s = .next (closed s (no .format))) ∧
      (valued → ¬rising → exec (.configureThread src p) s = .next (closed s (no .order))) ∧
      (valued → rising →
        exec (.configureThread src p) s = .next (closed s (joined { d with stc := { d.stc with thread := some t } }))))

/-- DESIGN_OPEN (R39, R57 to R59, R91, R109, R110, R126, R150, R163): a header that fails its checks is refused with FORMAT
and nothing else changes. One that passes is held with its scale clamped: READY, the halt reason cleared, a WITHDRAWN head
ACTIVE again; every page slot free; the stitch number and position 0, the slot the header's first; the dwell count 0; on a
head the mark 0, no decision, HOLD engaged, the knife off and the run ended; on a frame station no pending move, no deferred
FIELD, no finding yet, the governor stopped, and in-place judged against the origin where nothing is in progress. That the
free list then runs from slot 0 upward is the model's choice (log entry 33). -/
def Obligations.DesignOpenResetsTheDesign : Prop :=
  ∀ (src : Addr) (p : Payload) (s : State), Live s → Taken (.designOpen src p) s.dev →
    let d := s.dev
    let raw := headerOf p
    let good := 1 ≤ raw.stitches ∧ raw.stitches ≤ 786432 ∧ raw.pages * 12 ≥ raw.stitches ∧ raw.pages * 12 < raw.stitches + 12 ∧
      raw.colourStops ≤ 4095 ∧ raw.xmin ≤ raw.xmax ∧ raw.ymin ≤ raw.ymax ∧ 1 ≤ raw.firstSlot ∧ raw.firstSlot ≤ 64
    let h : Header := { raw with scale := if raw.scale < 50 then 50 else if 200 < raw.scale then 200 else raw.scale }
    (¬good → exec (.designOpen src p) s = .next (closed s (refused .designOpen .format d))) ∧
    (good → ∃ t : State, exec (.designOpen src p) s = .next t ∧ t.pending = s.pending ∧
      t.dev.stc = { d.stc with state := .ready, haltReason := none
                               activity := if d.stc.activity = .withdrawn then .active else d.stc.activity } ∧
      t.dev.pgs = { header := some h, free := List.range 512, posted := [], current := none, retained := [], nextWanted := 0,
                    gap := false } ∧
      t.dev.ssq = { stitch := 0, px := 0, py := 0, slot := h.firstSlot, mark := 0, walk := none,
                    report := { dir := .back, requested := 0, actual := 0, outcome := .none } } ∧
      t.dev.gtu.dwellCount = 0 ∧ t.dev.sht = d.sht ∧ t.dev.pins = d.pins ∧ t.dev.prt = d.prt ∧
      t.dev.thm.counts = d.thm.counts ∧ t.dev.thm.service = d.thm.service ∧
      (d.stc.headRole = true → t.dev.hsc.mark = 0 ∧ t.dev.hsc.decision = none ∧ t.dev.hsc.holdEngaged = true ∧
        t.dev.hsc.knife = false ∧ t.dev.hsc.knifePending = false ∧ t.dev.thm.pen = none ∧ t.dev.thm.runStart = none ∧
        t.dev.thm.dryCount = 0) ∧
      (d.stc.frameRole = true → t.dev.pnc.pending = none ∧ t.dev.pnc.waiting = none ∧ t.dev.pnc.deferred = false ∧
        t.dev.pnc.finding = none ∧ t.dev.sgv.mode = .stopped ∧ t.dev.sgv.demand = 0 ∧ t.dev.sgv.reposition = none ∧
        t.dev.pnc.homed = d.pnc.homed ∧ t.dev.pnc.x = d.pnc.x ∧ t.dev.pnc.y = d.pnc.y ∧ t.dev.pnc.move = d.pnc.move ∧
        (t.dev.pnc.inPlace = true ↔ (∀ hx hy, d.pnc.go ≠ some (.home hx hy)) ∧ d.pnc.move = none ∧ d.pnc.homed = true ∧
          d.pnc.x = d.pnc.originX ∧ d.pnc.y = d.pnc.originY)))

/-- DESIGN_PAGE (R61, R64 to R68, R95): at or beyond P, RANGE; below the next wanted page, nothing; above it, the gap flag;
with no free slot, nothing; records that fail R61 (written out: the record count of the page, a kind of the five, the
displacement and aux its kind allows, END as the last record of the last page and nowhere else), FORMAT; otherwise the slot
at the head of the free list, with the page's number and records, joins the tail of the posted queue, the next wanted page
rises and the gap flag is cleared; a frame station forms its finding anew: one that arises is a FIELD record of stitch r+1
in ARMED and in RUN, deferred in RUN after a commit, and no record in the other states. -/
def Obligations.DesignPageTakenInTurn : Prop :=
  ∀ (src : Addr) (p : Payload) (h : Header) (s : State), Live s → Taken (.designPage src p) s.dev →
    s.dev.pgs.header = some h →
    let d := s.dev
    let k := be16At p 1
    let c : Instr := .designPage src p
    let recordFits (r : StitchRecord) : Prop :=
      (r.kind = .sew ∨ r.kind = .jump → r.dx ≠ -128 ∧ r.dy ≠ -128) ∧
      (r.kind = .trim ∨ r.kind = .colorStop ∨ r.kind = .endRecord → r.dx = 0 ∧ r.dy = 0) ∧
      (r.kind = .colorStop → 1 ≤ r.aux ∧ r.aux ≤ 64)
    let fits (rs : List StitchRecord) : Prop :=
      rs.length = (if k + 1 = h.pages then h.stitches - 12 * (h.pages - 1) else 12) ∧ (∀ r ∈ rs, recordFits r) ∧
      (∀ r ∈ rs.dropLast, r.kind ≠ .endRecord) ∧ (rs.getLast?.map (·.kind) = some .endRecord ↔ k + 1 = h.pages)
    (h.pages ≤ k → exec c s = .next (closed s (refused .designPage .range d))) ∧
    (k < h.pages → k < d.pgs.nextWanted → exec c s = .next (closed s d)) ∧
    (k < h.pages → d.pgs.nextWanted < k → exec c s = .next (closed s { d with pgs := { d.pgs with gap := true } })) ∧
    (k < h.pages → k = d.pgs.nextWanted → d.pgs.free = [] → exec c s = .next (closed s d)) ∧
    (k < h.pages → k = d.pgs.nextWanted → d.pgs.free ≠ [] → pageRecordsOf p = none →
      exec c s = .next (closed s (refused .designPage .format d))) ∧
    (∀ rs, k < h.pages → k = d.pgs.nextWanted → d.pgs.free ≠ [] → pageRecordsOf p = some rs → ¬fits rs →
      exec c s = .next (closed s (refused .designPage .format d))) ∧
    (∀ slot rest rs, k < h.pages → k = d.pgs.nextWanted → d.pgs.free = slot :: rest → pageRecordsOf p = some rs → fits rs →
      let a := { d with pgs := { d.pgs with
        free := rest, posted := d.pgs.posted ++ [{ slot := slot, number := k, records := rs }], nextWanted := k + 1, gap := false } }
      let found := nextFinding d a.pgs d.ssq.stitch d.ssq.px d.ssq.py
      let b := { a with pnc := { d.pnc with finding := found } }
      (d.stc.frameRole = false → exec c s = .next (closed s a)) ∧
      (d.stc.frameRole = true → (d.pnc.finding ≠ none ∨ found = none) → exec c s = .next (closed s b)) ∧
      (∀ axis, d.stc.frameRole = true → d.pnc.finding = none → found = some axis →
        (d.stc.state = .run → d.gtu.committed = true →
          exec c s = .next (closed s { b with pnc := { b.pnc with deferred := true } })) ∧
        ((d.stc.state = .armed ∨ (d.stc.state = .run ∧ d.gtu.committed = false)) →
          exec c s = .next (closed s (fault (fieldFault axis d) b))) ∧
        (d.stc.state ≠ .armed → d.stc.state ≠ .run → exec c s = .next (closed s b))))

/-- STATUS_RECEIVED (R43, R50, R52, R54, R55, R86, R88, R122, R162): source 0 and a source without an entry go no further;
the station's own address, with its lock none, is an address clash: JOINING, locked, the fault list and the last refusal
kept with an ADDRESS_CLASH record of the stitch before and the address, no join window, the slot empty. A payload that is no
Status changes nothing else (log entry 27). A Status from a peer restarts its age, sets heard, clears lost and replaces the
last Status; then: a frame station in RUN or ARMED that counts no head ACTIVE any more halts with NO_ACTIVE_HEAD or returns
from ARMED (R162), before a sequence for the peer's rest could begin (log entry 52); a head-only station's walk ends on its
frame station's Status that shows walking clear, at the stitch it shows, cut, if that lies in the walk and is not its end,
and at its end otherwise (R86, R88); a frame station in ARMED at rest on top begins a sequence for a peer in ARMED at rest
off top (R122); in RUN a peer in HALTING halts the station with PEER_HALT (R54) and a peer in RUN more than one stitch away
is an INDEX_MISMATCH fault with the peer's address; at rest a stitch number that differs marks the entry, in ARMED it is an
INDEX_MISMATCH fault too, the mark set with it (log entry 35), and an equal one clears the mark (R55). A station in RUN with
its shaft at rest leaves HALTING at once (R36). Clauses rest on the model's choices of log entries 14, 27, 33, 34, 35 and
52. -/
def Obligations.StatusFromPeerIsJudged : Prop :=
  ∀ (src : Addr) (p : Payload) (s : State), Live s →
    let d := s.dev
    let c : Instr := .statusReceived src p
    (src = 0 → exec c s = .next (closed s d)) ∧
    (src ≠ 0 → ¬(src.toNat = d.stc.addr ∧ d.stc.lock = .none) → (∀ e ∈ d.prt, e.addr ≠ src.toNat) →
      exec c s = .next (closed s d)) ∧
    (src ≠ 0 → src.toNat = d.stc.addr → d.stc.lock = .none →
      let r := recorded { kind := .addressClash, stitch := d.ssq.stitch, needle := none, value := some d.stc.addr } d
      ∃ t : State, exec c s = .next t ∧ t.pending = s.pending ∧
        t.dev.stc = { r.stc with
          state := .joining, lock := .addressClash, roster := none, timing := none, motion := none, thread := none
          joinTimer := none, former := .none, armTimer := none, haltReason := none, activity := .active } ∧
        t.dev.sli.slotPending = false ∧ t.dev.sli.sending = none ∧ t.dev.prt = [] ∧ t.dev.pgs.header = none ∧
        t.dev.pgs.free = List.range 512 ∧ t.dev.ssq.stitch = 0 ∧ t.dev.gtu.drive = .low ∧ t.dev.sgv.demand = 0 ∧
        t.dev.hsc.mark = 0 ∧ t.dev.hsc.holdEngaged = true ∧ t.dev.sht = d.sht) ∧
    (src ≠ 0 → ¬(src.toNat = d.stc.addr ∧ d.stc.lock = .none) → decodeStatus p = none → exec c s = .next (closed s d)) ∧
    (∀ e i, src ≠ 0 → ¬(src.toNat = d.stc.addr ∧ d.stc.lock = .none) → d.prt.find? (fun e => e.addr == src.toNat) = some e →
      decodeStatus p = some i →
      let heardAs (mark : Bool) : Station := { d with prt := d.prt.map (fun x =>
        if x.addr = src.toNat then { x with heard := true, last := some i, ageFrom := d.now, lost := false, mismatched := mark }
        else x) }
      let rests (st : StationState) : Prop := st = .ready ∨ st = .armed ∨ st = .halted ∨ st = .done
      let apart : FaultRecord :=
        { kind := .indexMismatch, stitch := d.ssq.stitch, needle := none, value := some src.toNat }
      let differs (on : Prop) [Decidable on] : Bool := decide (on ∧ rests i.state ∧ i.walking = false ∧ i.stitch ≠ d.ssq.stitch)
      let headless := e.head = true ∧ d.stc.frameRole = true ∧ (d.stc.state = .run ∨ d.stc.state = .armed) ∧
        noActiveHead (heardAs false) = true
      let follows := d.stc.headRole = true ∧ d.stc.frameRole = false ∧ e.frame = true ∧ i.walking = false
      let offTop := d.stc.frameRole = true ∧ d.sht.atRest = true ∧ d.sht.onTop = true ∧ d.pins.driveReady = true ∧
        d.sgv.reposition = none ∧ i.state = .armed ∧ i.atRest = true ∧ i.onTop = false
      (headless → d.stc.state = .run → d.sht.atRest = false →
        exec c s = .next (closed s (halts .noActiveHead (heardAs false)))) ∧
      (headless → d.stc.state = .run → d.sht.atRest = true →
        exec c s = .next (closed s (stops .noActiveHead (heardAs (differs (d.ssq.walk = none)))))) ∧
      (headless → d.stc.state = .armed → d.stc.former = .ready → d.ssq.walk = none →
        exec c s = .next (closed s (returnsToReady (heardAs (differs True))))) ∧
      (headless → d.stc.state = .armed → d.stc.former ≠ .ready → d.ssq.walk = none →
        exec c s = .next (closed s (returnsToHalted (heardAs (differs True))))) ∧
      (∀ k, follows → d.stc.state = .halted → d.ssq.walk = some k →
        let n := i.stitch
        let shown := (i.state = .halted ∨ i.state = .done) ∧ min k.start k.target ≤ n ∧
          n ≤ max k.start k.target ∧ n ≠ d.ssq.stitch
        let sum := if d.ssq.stitch ≤ n then d.pgs.displacement d.ssq.stitch (n - d.ssq.stitch)
          else (-(d.pgs.displacement n (d.ssq.stitch - n)).1, -(d.pgs.displacement n (d.ssq.stitch - n)).2)
        let back := decide (k.dir = .back)
        (¬shown → exec c s = .next (closed s { heardAs (differs True) with ssq := { d.ssq with walk := none } })) ∧
        (shown → ∃ t : State, exec c s = .next t ∧ t.pending = s.pending ∧ t.dev.prt = (heardAs false).prt ∧
          t.dev.pgs = d.pgs.moveTo (motion d).retention d.ssq.stitch n ∧ t.dev.stc = d.stc ∧ t.dev.pnc = d.pnc ∧
          t.dev.ssq = { d.ssq with
            stitch := n, px := d.ssq.px + sum.1, py := d.ssq.py + sum.2, walk := none
            slot := if back then d.ssq.slot else k.slot, mark := if back then d.ssq.mark else k.mark
            report := { d.ssq.report with
              actual := if k.start ≤ n then n - k.start else k.start - n, outcome := .walkCut } })) ∧
      (¬headless → (follows → d.ssq.walk = none) →
        ((d.stc.state = .joining ∨ d.stc.state = .halting) → exec c s = .next (closed s (heardAs false))) ∧
        (d.stc.state = .run → d.sht.atRest = false → i.state = .halting →
          exec c s = .next (closed s (halts .peerHalt (heardAs false)))) ∧
        (d.stc.state = .run → d.sht.atRest = true → i.state = .halting →
          exec c s = .next (closed s (stops .peerHalt (heardAs false)))) ∧
        (d.stc.state = .run → i.state = .run → d.ssq.walk = none → i.walking = false →
          (d.ssq.stitch + 1 < i.stitch ∨ i.stitch + 1 < d.ssq.stitch) →
          exec c s = .next (closed s (fault apart (heardAs false)))) ∧
        (d.stc.state = .run → i.state ≠ .halting →
          ¬(i.state = .run ∧ d.ssq.walk = none ∧ i.walking = false ∧
            (d.ssq.stitch + 1 < i.stitch ∨ i.stitch + 1 < d.ssq.stitch)) →
          exec c s = .next (closed s (heardAs false))) ∧
        ((d.stc.state = .ready ∨ d.stc.state = .halted ∨ d.stc.state = .done) →
          exec c s = .next (closed s (heardAs (differs (d.ssq.walk = none))))) ∧
        (d.stc.state = .armed → d.ssq.walk = none → ¬offTop →
          (differs True = true → exec c s = .next (closed s (fault apart (heardAs true)))) ∧
          (differs True = false → exec c s = .next (closed s (heardAs false)))) ∧
        (d.stc.state = .armed → d.ssq.walk = none → offTop →
          (differs True = true → exec c s = .next (closed s (fault apart (creeps (heardAs true))))) ∧
          (differs True = false → exec c s = .next (closed s (creeps (heardAs false)))))))

/-- PEER_LOST (R53, R87, R88): the entry is lost and no longer mismatched; in RUN and ARMED a PEER_LOST fault with the peer's
address; in HALTED a walk is cut, or ends at once on a head-only station that loses the frame station; in other states the
flag alone; an entry already lost, or no entry, nothing. Clauses rest on the model's choices of log entry 31. -/
def Obligations.PeerLostByState : Prop :=
  ∀ (a : Addr) (s : State), Live s →
    let d := s.dev
    let gone := { d with prt := d.prt.map (fun x => if x.addr = a.toNat then { x with lost := true, mismatched := false } else x) }
    ((∀ e ∈ d.prt, e.addr ≠ a.toNat) → exec (.peerLost a) s = .next (closed s d)) ∧
    (∀ e, d.prt.find? (fun e => e.addr == a.toNat) = some e →
      (e.lost = true → exec (.peerLost a) s = .next (closed s d)) ∧
      (e.lost = false → (d.stc.state = .run ∨ d.stc.state = .armed) →
        exec (.peerLost a) s = .next (closed s (fault
          { kind := .peerLost, stitch := d.ssq.stitch, needle := none, value := some a.toNat } gone))) ∧
      (e.lost = false → d.stc.state = .halted →
        let cut := d.ssq.walk.map (fun k => { k with cutPending := true })
        let walk := if d.stc.frameRole = false ∧ e.frame = true then none else cut
        exec (.peerLost a) s = .next (closed s { gone with ssq := { d.ssq with walk := walk } })) ∧
      (e.lost = false → (d.stc.state = .joining ∨ d.stc.state = .ready ∨ d.stc.state = .halting ∨ d.stc.state = .done) →
        exec (.peerLost a) s = .next (closed s gone)))

/-- NOTICE_DISCARDED, STATUS_INTERVAL, STATUS_ATTEMPT, LOST_ARBITRATION, STATUS_SENT (R41, R42, R47 to R49): a discarded
notice reaches no block; the interval is a cause for sending; an attempt puts the Status notice of the present items on the
line, kind 16 with the station's own address as source (R49), of a station with one pending, none on the line and not muted;
a lost arbitration takes it off the line and keeps it pending; a Status sent empties the slot, unless a cause arose
meanwhile, and restarts the interval timer. Clauses rest on the model's choices of log entry 31. -/
def Obligations.TransmitSlot : Prop :=
  ∀ (bits : List Bool) (s : State), Live s →
    let d := s.dev
    let caused : LinkInterface := if muted d then d.sli
      else if d.sli.sending.isSome then { d.sli with causeAgain := true } else { d.sli with slotPending := true }
    exec (.noticeDiscarded bits) s = .next (closed s d) ∧
    exec .statusInterval s = .next (closed s { d with sli := caused }) ∧
    (d.sli.slotPending = true → d.sli.sending = none → muted d = false →
      exec .statusAttempt s =
        .next (closed s { d with sli := { d.sli with
          sending := some { kind := 16, src := d.stc.addr, payload := encodeStatus (statusOf d) }, causeAgain := false } })) ∧
    (d.sli.slotPending = false ∨ d.sli.sending ≠ none ∨ muted d = true → exec .statusAttempt s = .next (closed s d)) ∧
    exec .lostArbitration s = .next (closed s { d with sli := { d.sli with sending := none, causeAgain := false } }) ∧
    (d.sli.sending ≠ none → exec .statusSent s = .next (closed s { d with sli :=
      { slotPending := d.sli.causeAgain, sending := none, causeAgain := false, intervalFrom := d.now } })) ∧
    (d.sli.sending = none → exec .statusSent s = .next (closed s d))

/-! ## Hoop, drive, needle case -/

/-- MOVE_COMPLETE (R85, R87, R94, R97, R100, R101, R105, R107, R109): the position becomes the target and the move is over,
homed and in-place cleared at a target outside the field in force. A stitch move sets in-place; the one move of PARK or
ABSOLUTE ends the Go, that of RETURN also sets in-place; a TRACE makes the legs of no displacement that come next in this
event (R97), and starts the next leg after them or, with none left, ends. After a Design Open the move that was in progress
judges in-place against the origin instead, after a Station Reset or an address clash it leaves it, and a Go, kept until
then (log entry 38), ends with it. A walk, by its own move or by the stitch move it waited behind, ends at its target with
in-place set; if cut, it ends at the walk stitch reached, its start where it has made no move yet (log entry 26): the stitch
number, position and pages there, the report WALK_CUT with the stitches walked, a Forward's slot and mark as before it,
in-place set and the finding formed anew. One that is not there passes z stitches of no displacement, none, one or several,
in this event, the hoop at the last of them, and then ends at its target, or starts the move to its next stitch, or, that
stitch's target outside the field, writes FIELD with that stitch and axis and is cut so. Without a move nothing happens.
Clauses rest on the model's choices of log entries 21, 26, 31 and 38. -/
def Obligations.MoveCompletes : Prop :=
  ∀ s : State, Live s →
    let d := s.dev
    let c : Instr := .moveComplete
    (d.pnc.move = none → exec c s = .next (closed s d)) ∧
    (∀ m, d.pnc.move = some m →
      let inside := decide (outsideField d (m.toX, m.toY) = none)
      let homed := d.pnc.homed && inside
      let there := { d with pnc := { d.pnc with
        x := m.toX, y := m.toY, move := none, waiting := none, after := .normal, homed := homed
        inPlace := d.pnc.inPlace && (inside || !d.pnc.homed) } }
      let placed (b : Bool) (g : Option Go) : Station := { there with pnc := { there.pnc with inPlace := b, go := g } }
      let still := there.pnc.inPlace
      let atOrigin := homed && decide (m.toX = d.pnc.originX ∧ m.toY = d.pnc.originY)
      let oneLeg := d.pnc.go = some .park ∨ d.pnc.go = some .absolute ∨ d.pnc.go = some .goReturn ∨ d.pnc.go = some (.trace [])
      (d.pnc.after = .normal →
        (m.kind = .stitch → d.ssq.walk = none → exec c s = .next (closed s (placed homed d.pnc.go))) ∧
        (m.kind = .go → oneLeg →
          exec c s = .next (closed s (placed (if d.pnc.go = some .goReturn then homed else still) none))) ∧
        (m.kind = .go → ∀ ts, d.pnc.go = some (.trace ts) →
          let legs := legsFrom (m.toX, m.toY) ts
          (legs = [] → exec c s = .next (closed s (placed still none))) ∧
          (∀ l ls, legs = l :: ls → exec c s = .next (closed s { there with pnc := { there.pnc with
            go := some (.trace ls), move := some (legStarted there l) } })))) ∧
      (d.pnc.after = .judge → d.ssq.walk = none →
        (m.kind ≠ .go → exec c s = .next (closed s (placed atOrigin d.pnc.go))) ∧
        (m.kind = .go → oneLeg → exec c s = .next (closed s (placed atOrigin none)))) ∧
      (d.pnc.after = .leave → d.ssq.walk = none →
        (m.kind ≠ .go → exec c s = .next (closed s there)) ∧
        (m.kind = .go → oneLeg → exec c s = .next (closed s (placed still none)))) ∧
      (∀ k, (m.kind = .walk ∨ m.kind = .stitch) → d.pnc.after = .normal → d.ssq.walk = some k →
        let back := decide (k.dir = .back)
        let at_ (z : Nat) : Int × Int := if z = 0 then (m.toX, m.toY) else walkTarget d k z
        let stands (z : Nat) : Station := { there with pnc := { there.pnc with x := (at_ z).1, y := (at_ z).2 } }
        let ends (z : Nat) : Station := { stands z with
          ssq := { d.ssq with walk := none }, pnc := { (stands z).pnc with inPlace := homed } }
        let cutAt (z : Nat) (e : Station) (t : State) : Prop :=
          let j := walkAfter d k z
          let pages := d.pgs.moveTo (motion d).retention d.ssq.stitch j.stitch
          t.pending = s.pending ∧ t.dev.stc = e.stc ∧ t.dev.pgs = pages ∧ t.dev.sht = d.sht ∧ t.dev.prt = d.prt ∧
          t.dev.sgv = d.sgv ∧ t.dev.ssq = { d.ssq with
            stitch := j.stitch, px := j.px, py := j.py, walk := none
            slot := if back then d.ssq.slot else k.slot, mark := if back then d.ssq.mark else k.mark
            report := { d.ssq.report with
              actual := if k.start ≤ j.stitch then j.stitch - k.start else k.start - j.stitch, outcome := .walkCut } } ∧
          t.dev.pnc = { (stands z).pnc with inPlace := homed, finding := nextFinding d pages j.stitch j.px j.py }
        (k.stitch = k.target → exec c s = .next (closed s (ends 0))) ∧
        (k.stitch ≠ k.target → k.cutPending = true → d.stc.frameRole = true → d.stc.state = .halted →
          ∃ t : State, exec c s = .next t ∧ cutAt 0 d t) ∧
        (∀ z, k.stitch ≠ k.target → k.cutPending = false →
          ((k.dir = .back ∧ k.target ≤ k.stitch) ∨ (k.dir = .forward ∧ k.stitch ≤ k.target)) → Stands d k z →
          let j := walkAfter d k z
          let b := walkTarget d k (z + 1)
          let next : Move := { kind := .walk, fromX := (at_ z).1, fromY := (at_ z).2, toX := b.1, toY := b.2
                               treq := walkTime d k z, started := d.now, atWOpen := false }
          (j.stitch = k.target → exec c s = .next (closed s (ends z))) ∧
          (∀ axis, j.stitch ≠ k.target → outsideField d b = some axis → d.stc.frameRole = true → d.stc.state = .halted →
            ∃ t : State, exec c s = .next t ∧
              cutAt z (recorded { kind := .field, stitch := (walkAfter d k (z + 1)).stitch, needle := none
                                  value := some (axisCode axis) } d) t) ∧
          (j.stitch ≠ k.target → outsideField d b = none → walkTime d k z ≠ 0 →
            exec c s = .next (closed s { stands z with
              ssq := { d.ssq with walk := some (walkAfter d k (z + 1)) }
              pnc := { (stands z).pnc with move := some next } })))))

/-- DRIVE_READY_FALL, DRIVE_READY_RISE, CREEP_TIMEOUT (R120, R122, R124, R125): a fall at a frame station ends a creep,
taking its attempt back, but ends nothing of a sequence that awaits its rest (log entry 51), and is a DRIVE fault in RUN,
ARMED and HALTING; a rise writes nothing and ends nothing: it begins a sequence in ARMED, HALTED or DONE with the shaft at
rest off top, whether or not a low input had held one off (log entry 53), and lets one that waits for the drive go on: at
rest off top its next creep begins, on top nothing, and while the shaft turns it waits for the rest (log entry 18); the
creep limit stops the creep, and with the shaft at rest begins the second, whatever DRIVE_READY is, or, after two, writes
SHAFT_POSITION; the expiry that comes together with the rest that ended its creep does nothing to the next one (log entry
47). On a head-only station, and at an input already there, the level alone. Clauses rest on the model's choices of log
entries 18, 25, 31, 47, 51 and 53. -/
def Obligations.DriveReadyAndCreep : Prop :=
  ∀ s : State, Live s →
    let d := s.dev
    let low := { d with pins := { d.pins with driveReady := false } }
    let high := { d with pins := { d.pins with driveReady := true } }
    let stopped (e : Station) : Governor := { e.sgv with mode := .stopped, demand := 0, creepTimer := none }
    let next (e : Station) : Station := { e with sgv :=
      { e.sgv with mode := .creep, demand := (motion d).nHalt, reposition := some .creeping, attempts := e.sgv.attempts + 1
                   creepTimer := some d.now, restAt := none } }
    let acts := d.stc.state = .run ∨ d.stc.state = .armed ∨ d.stc.state = .halting
    let drive : FaultRecord := { kind := .drive, stitch := d.ssq.stitch, needle := none, value := some 0 }
    let lost := { low with sgv := { stopped d with reposition := some .awaitingDrive, attempts := d.sgv.attempts - 1 } }
    let stale := d.sht.atRest = true ∧ d.sgv.restAt = some d.now
    (d.stc.frameRole = false →
      exec .driveReadyFall s = .next (closed s low) ∧ exec .driveReadyRise s = .next (closed s high)) ∧
    (d.pins.driveReady = false → exec .driveReadyFall s = .next (closed s low)) ∧
    (d.pins.driveReady = true → exec .driveReadyRise s = .next (closed s high)) ∧
    (d.stc.frameRole = true → d.pins.driveReady = true → d.sgv.reposition ≠ some .creeping →
      (acts → exec .driveReadyFall s = .next (closed s (fault drive low))) ∧
      (¬acts → exec .driveReadyFall s = .next (closed s low))) ∧
    (d.stc.frameRole = true → d.pins.driveReady = true → d.sgv.reposition = some .creeping →
      (acts → exec .driveReadyFall s = .next (closed s (fault drive lost))) ∧
      (¬acts → exec .driveReadyFall s = .next (closed s lost))) ∧
    (d.stc.frameRole = true → d.pins.driveReady = false → d.sgv.reposition = none →
      ((d.stc.state = .armed ∨ d.stc.state = .halted ∨ d.stc.state = .done) → CreepDue high →
        exec .driveReadyRise s = .next (closed s (creeps high))) ∧
      (¬((d.stc.state = .armed ∨ d.stc.state = .halted ∨ d.stc.state = .done) ∧ CreepDue high) →
        exec .driveReadyRise s = .next (closed s high))) ∧
    (d.stc.frameRole = true → d.pins.driveReady = false → d.sgv.reposition = some .awaitingDrive →
      (d.sht.atRest = true → d.sht.onTop = false → exec .driveReadyRise s = .next (closed s (next high))) ∧
      (d.sht.atRest = true → d.sht.onTop = true → exec .driveReadyRise s = .next (closed s high)) ∧
      (d.sht.atRest = false → exec .driveReadyRise s = .next (closed s
        { high with sgv := { d.sgv with reposition := some .awaitingRest } }))) ∧
    (d.stc.frameRole = true → d.pins.driveReady = false →
      (d.sgv.reposition = some .creeping ∨ d.sgv.reposition = some .awaitingRest) →
      exec .driveReadyRise s = .next (closed s high)) ∧
    (d.sgv.reposition ≠ some .creeping → exec .creepTimeout s = .next (closed s d)) ∧
    (d.sgv.reposition = some .creeping →
      (d.sht.atRest = false →
        exec .creepTimeout s = .next (closed s { d with sgv := { stopped d with reposition := some .awaitingRest } })) ∧
      (stale → exec .creepTimeout s = .next (closed s { d with sgv := { d.sgv with restAt := none } })) ∧
      (d.sht.atRest = true → ¬stale → 2 ≤ d.sgv.attempts →
        exec .creepTimeout s = .next (closed s (fault
          { kind := .shaftPosition, stitch := d.ssq.stitch, needle := none
            value := some (if d.sht.synced then d.sht.angle else 0) }
          { d with sgv := { stopped d with reposition := none, attempts := 0, givenUp := true } }))) ∧
      (d.sht.atRest = true → ¬stale → d.sgv.attempts < 2 → exec .creepTimeout s = .next (closed s (next d))))

/-- CASE_SENSOR_CHANGE (R129 to R131, R133, R135, R161): on a frame-only station the readings alone. On a head the settle is
judged first, in a step as outside one (log entry 55): latched on the wanted needle, the settle timer starts unless it runs
or settled is set, and with a settle time of 0 settled is set at once, a needle other than the settled needle being a needle
change (R142, R143, R145, R146); otherwise the timer is idle and settled clear. Then a step in progress ends, at the latch
on its to-needle, an expiry of its timer at that same reading of the clock to find it gone (R132, log entry 56), with the
next step begun in ARMED at rest on top where one is due (waiting for the rest off top); it goes on at the readings a step
passes through, and at any other is CASE_LOST with the to-needle; without a step, an ACTIVE head in ARMED, RUN or HALTING
whose case leaves its needle is CASE_LOST with that needle; any other change is taken as it is. Clauses rest on the model's
choices of log entries 55 and 56. -/
def Obligations.CaseSensorsJudged : Prop :=
  ∀ (code : BitVec 4) (latch : Bool) (s : State), Live s →
    let d := s.dev
    let c : Instr := .caseSensorChange code latch
    let e := { d with pins := { d.pins with caseCode := code.toNat, caseLatch := latch } }
    let pos := if code.toNat ≤ 12 then code.toNat else 0
    let now := if latch then pos else 0
    let onIt := wantedNeedle d ≠ 0 ∧ now = wantedNeedle d
    let fresh := d.ncc.settled = false ∧ d.ncc.settleTimer = none
    let judged : Station :=
      if ¬onIt then { e with ncc := { e.ncc with settleTimer := none, settled := false } }
      else if ¬fresh then e
      else if (thread d).settleTime ≠ 0 then { e with ncc := { e.ncc with settleTimer := some d.now } }
      else { e with
        ncc := { e.ncc with settled := true, settleTimer := none, settledNeedle := now }
        thm := if now = d.ncc.settledNeedle then d.thm else { d.thm with
          pen := none, suppression := (thread d).suppression, runStart := none, dryCount := 0, restart := true
          tension := .clear } }
    let ended := { judged with ncc := { judged.ncc with step := none, attempts := 0, stepWaiting := false } }
    let lost (needle : Nat) (x : Station) : Station := headFault
      { kind := .caseLost, stitch := d.ssq.stitch, needle := some needle, value := some pos }
      { x with ncc := { x.ncc with stopped := .lost } }
    let used := d.stc.activity = .active ∧ (d.stc.state = .armed ∨ d.stc.state = .run ∨ d.stc.state = .halting)
    (d.stc.headRole = false → exec c s = .next (closed s e)) ∧
    (d.stc.headRole = true → d.ncc.step = none →
      (used → currentNeedle d ≠ 0 → now ≠ currentNeedle d →
        exec c s = .next (closed s (lost (currentNeedle d) judged))) ∧
      (¬(used ∧ currentNeedle d ≠ 0 ∧ now ≠ currentNeedle d) → exec c s = .next (closed s judged))) ∧
    (∀ st, d.stc.headRole = true → d.ncc.step = some st →
      let won := { judged with ncc := { judged.ncc with
        step := none, attempts := 0, stepWaiting := false
        successAt := if st.timer = none then d.ncc.successAt else some d.now } }
      (latch = true → pos = st.toNeedle →
        (¬StepDue won → exec c s = .next (closed s won)) ∧
        (StepDue won → restOnTop d = true → exec c s = .next (closed s (steps won))) ∧
        (StepDue won → restOnTop d = false →
          exec c s = .next (closed s { won with ncc := { won.ncc with stepWaiting := true } }))) ∧
      (¬(latch = true ∧ pos = st.toNeedle) → (pos = st.fromNeedle ∨ pos = st.toNeedle ∨ pos = 0) →
        exec c s = .next (closed s judged)) ∧
      (pos ≠ st.fromNeedle → pos ≠ st.toNeedle → pos ≠ 0 → exec c s = .next (closed s (lost st.toNeedle ended))))

/-- STEP_TIMEOUT, SETTLE_TIMER_EXPIRY (R130, R132, R135): a step's timeout in ARMED on an ACTIVE head retries the command at
rest on top, waits for rest otherwise, and at the third attempt is CASE_JAM with the to-needle; elsewhere it ends the step;
the timeout that comes together with the success of its attempt, taken first, does nothing to the next step (log entry 56).
The settle timer's expiry sets settled, and a needle other than the settled needle is a needle change (R142, R143, R145,
R146). Without a running timer neither does anything. Clauses rest on the model's choices of log entries 31, 36 and 56. -/
def Obligations.CaseTimers : Prop :=
  ∀ s : State, Live s →
    let d := s.dev
    let ended := { d with ncc := { d.ncc with step := none, attempts := 0, stepWaiting := false } }
    let pos := if d.pins.caseCode ≤ 12 then d.pins.caseCode else 0
    let settled := { d with ncc :=
      { d.ncc with settled := true, settleTimer := none, settledNeedle := currentNeedle d } }
    (d.ncc.successAt = some d.now →
      exec .stepTimeout s = .next (closed s { d with ncc := { d.ncc with successAt := none } })) ∧
    (d.ncc.successAt ≠ some d.now → (∀ st, d.ncc.step = some st → st.timer = none) → exec .stepTimeout s = .next (closed s d)) ∧
    (d.ncc.successAt ≠ some d.now → ∀ st t0, d.ncc.step = some st → st.timer = some t0 →
      ((d.stc.state ≠ .armed ∨ d.stc.activity ≠ .active) → exec .stepTimeout s = .next (closed s ended)) ∧
      (d.stc.state = .armed → d.stc.activity = .active → 3 ≤ d.ncc.attempts →
        exec .stepTimeout s = .next (closed s (headFault
          { kind := .caseJam, stitch := d.ssq.stitch, needle := some st.toNeedle, value := some pos }
          { ended with ncc := { ended.ncc with stopped := .jam } }))) ∧
      (d.stc.state = .armed → d.stc.activity = .active → d.ncc.attempts < 3 → restOnTop d = true →
        exec .stepTimeout s = .next (closed s { d with ncc := { d.ncc with
          step := some { st with timer := some d.now }, attempts := d.ncc.attempts + 1, stepWaiting := false
          pulses := d.ncc.pulses + 1 } })) ∧
      (d.stc.state = .armed → d.stc.activity = .active → d.ncc.attempts < 3 → restOnTop d = false →
        exec .stepTimeout s = .next (closed s { d with ncc := { d.ncc with
          step := some { st with timer := none }, stepWaiting := true } }))) ∧
    (d.ncc.settleTimer = none → exec .settleTimerExpiry s = .next (closed s d)) ∧
    (d.ncc.settleTimer ≠ none → currentNeedle d = d.ncc.settledNeedle →
      exec .settleTimerExpiry s = .next (closed s settled)) ∧
    (d.ncc.settleTimer ≠ none → currentNeedle d ≠ d.ncc.settledNeedle →
      exec .settleTimerExpiry s = .next (closed s { settled with thm := { d.thm with
        pen := none, suppression := (thread d).suppression, runStart := none, dryCount := 0, restart := true, tension := .clear } }))

/-- R130, R161: what begins a step, and what a head fault does. An ACTIVE head in ARMED at rest on top, not stopped, with no
step, latched on a needle that is not the wanted one, which is in service, steps to the adjacent needle toward it: one
pulse, the direction, attempts 1, the step timer from 0. A head fault under HALT acts as any fault; under WITHDRAW it is
recorded, and an ACTIVE head becomes WITHDRAWN with the station state and halt reason as they were; a frame station that
then counts no head ACTIVE halts from RUN with NO_ACTIVE_HEAD, leaving HALTING at once with the shaft at rest (R36), and
returns from ARMED to its former state (R162, R33). `tryStep` is what an entry to ARMED (`StartRefusedOrArms`), a rest on
top (`RestReached`) and the success of a step (`CaseSensorsJudged`) do. Clauses rest on the model's choices of log entries
14, 23 and 34. -/
def Obligations.StepBeginsAndHeadFault : Prop :=
  ∀ (d : Station) (fr : FaultRecord),
    (d.stc.headRole = true → d.stc.state = .armed → d.stc.activity = .active → d.ncc.stopped = .none → d.ncc.step = none →
      wantedNeedle d ≠ 0 → inService d (wantedNeedle d) = true → currentNeedle d ≠ 0 → currentNeedle d ≠ wantedNeedle d →
      restOnTop d = true →
      let up := decide (currentNeedle d < wantedNeedle d)
      tryStep d = { d with ncc := { d.ncc with
        step := some { fromNeedle := currentNeedle d, toNeedle := if up then currentNeedle d + 1 else currentNeedle d - 1,
                       up := up, timer := some d.now }
        attempts := 1, stepWaiting := false, dirUp := up, pulses := d.ncc.pulses + 1 } }) ∧
    ((thread d).withdraw = false → headFault fr d = fault fr d) ∧
    ((thread d).withdraw = true → d.stc.activity ≠ .active → headFault fr d = recorded fr d) ∧
    ((thread d).withdraw = true → d.stc.activity = .active →
      ((d.stc.frameRole = false ∨ noActiveHead (withdraws fr d) = false) → headFault fr d = withdraws fr d) ∧
      (d.stc.frameRole = true → noActiveHead (withdraws fr d) = true → d.stc.state = .run → d.sht.atRest = false →
        headFault fr d = halts .noActiveHead (withdraws fr d)) ∧
      (d.stc.frameRole = true → noActiveHead (withdraws fr d) = true → d.stc.state = .run → d.sht.atRest = true →
        headFault fr d = stops .noActiveHead (withdraws fr d)) ∧
      (d.stc.frameRole = true → noActiveHead (withdraws fr d) = true → d.stc.state = .armed → d.stc.former = .ready →
        headFault fr d = returnsToReady (withdraws fr d)) ∧
      (d.stc.frameRole = true → noActiveHead (withdraws fr d) = true → d.stc.state = .armed → d.stc.former ≠ .ready →
        headFault fr d = returnsToHalted (withdraws fr d)) ∧
      (d.stc.state ≠ .run → d.stc.state ≠ .armed → headFault fr d = withdraws fr d))
end

