-- ==== Sys2Proof/Laws/State.lean ====
section
/-! SUPPORT. Laws/State.lean: what each update of the station leaves and what it sets, one lemma per field per update,
so that no later proof unfolds a record update. -/

namespace Sys2Proof.Machine

@[simp] theorem Station.setResetLow_resetLow (s : Station) (v : Bool) : (s.setResetLow v).resetLow = v := rfl
@[simp] theorem Station.setResetLow_now (s : Station) (v : Bool) : (s.setResetLow v).now = s.now := rfl
@[simp] theorem Station.setResetLow_pins (s : Station) (v : Bool) : (s.setResetLow v).pins = s.pins := rfl
@[simp] theorem Station.setResetLow_sht (s : Station) (v : Bool) : (s.setResetLow v).sht = s.sht := rfl
@[simp] theorem Station.setResetLow_gtu (s : Station) (v : Bool) : (s.setResetLow v).gtu = s.gtu := rfl
@[simp] theorem Station.setResetLow_stc (s : Station) (v : Bool) : (s.setResetLow v).stc = s.stc := rfl
@[simp] theorem Station.setResetLow_sli (s : Station) (v : Bool) : (s.setResetLow v).sli = s.sli := rfl
@[simp] theorem Station.setResetLow_prt (s : Station) (v : Bool) : (s.setResetLow v).prt = s.prt := rfl
@[simp] theorem Station.setResetLow_pgs (s : Station) (v : Bool) : (s.setResetLow v).pgs = s.pgs := rfl
@[simp] theorem Station.setResetLow_ssq (s : Station) (v : Bool) : (s.setResetLow v).ssq = s.ssq := rfl
@[simp] theorem Station.setResetLow_pnc (s : Station) (v : Bool) : (s.setResetLow v).pnc = s.pnc := rfl
@[simp] theorem Station.setResetLow_sgv (s : Station) (v : Bool) : (s.setResetLow v).sgv = s.sgv := rfl
@[simp] theorem Station.setResetLow_ncc (s : Station) (v : Bool) : (s.setResetLow v).ncc = s.ncc := rfl
@[simp] theorem Station.setResetLow_thm (s : Station) (v : Bool) : (s.setResetLow v).thm = s.thm := rfl
@[simp] theorem Station.setResetLow_hsc (s : Station) (v : Bool) : (s.setResetLow v).hsc = s.hsc := rfl

@[simp] theorem Station.setNow_resetLow (s : Station) (v : Nat) : (s.setNow v).resetLow = s.resetLow := rfl
@[simp] theorem Station.setNow_now (s : Station) (v : Nat) : (s.setNow v).now = v := rfl
@[simp] theorem Station.setNow_pins (s : Station) (v : Nat) : (s.setNow v).pins = s.pins := rfl
@[simp] theorem Station.setNow_sht (s : Station) (v : Nat) : (s.setNow v).sht = s.sht := rfl
@[simp] theorem Station.setNow_gtu (s : Station) (v : Nat) : (s.setNow v).gtu = s.gtu := rfl
@[simp] theorem Station.setNow_stc (s : Station) (v : Nat) : (s.setNow v).stc = s.stc := rfl
@[simp] theorem Station.setNow_sli (s : Station) (v : Nat) : (s.setNow v).sli = s.sli := rfl
@[simp] theorem Station.setNow_prt (s : Station) (v : Nat) : (s.setNow v).prt = s.prt := rfl
@[simp] theorem Station.setNow_pgs (s : Station) (v : Nat) : (s.setNow v).pgs = s.pgs := rfl
@[simp] theorem Station.setNow_ssq (s : Station) (v : Nat) : (s.setNow v).ssq = s.ssq := rfl
@[simp] theorem Station.setNow_pnc (s : Station) (v : Nat) : (s.setNow v).pnc = s.pnc := rfl
@[simp] theorem Station.setNow_sgv (s : Station) (v : Nat) : (s.setNow v).sgv = s.sgv := rfl
@[simp] theorem Station.setNow_ncc (s : Station) (v : Nat) : (s.setNow v).ncc = s.ncc := rfl
@[simp] theorem Station.setNow_thm (s : Station) (v : Nat) : (s.setNow v).thm = s.thm := rfl
@[simp] theorem Station.setNow_hsc (s : Station) (v : Nat) : (s.setNow v).hsc = s.hsc := rfl

@[simp] theorem Station.setPins_resetLow (s : Station) (v : Pins) : (s.setPins v).resetLow = s.resetLow := rfl
@[simp] theorem Station.setPins_now (s : Station) (v : Pins) : (s.setPins v).now = s.now := rfl
@[simp] theorem Station.setPins_pins (s : Station) (v : Pins) : (s.setPins v).pins = v := rfl
@[simp] theorem Station.setPins_sht (s : Station) (v : Pins) : (s.setPins v).sht = s.sht := rfl
@[simp] theorem Station.setPins_gtu (s : Station) (v : Pins) : (s.setPins v).gtu = s.gtu := rfl
@[simp] theorem Station.setPins_stc (s : Station) (v : Pins) : (s.setPins v).stc = s.stc := rfl
@[simp] theorem Station.setPins_sli (s : Station) (v : Pins) : (s.setPins v).sli = s.sli := rfl
@[simp] theorem Station.setPins_prt (s : Station) (v : Pins) : (s.setPins v).prt = s.prt := rfl
@[simp] theorem Station.setPins_pgs (s : Station) (v : Pins) : (s.setPins v).pgs = s.pgs := rfl
@[simp] theorem Station.setPins_ssq (s : Station) (v : Pins) : (s.setPins v).ssq = s.ssq := rfl
@[simp] theorem Station.setPins_pnc (s : Station) (v : Pins) : (s.setPins v).pnc = s.pnc := rfl
@[simp] theorem Station.setPins_sgv (s : Station) (v : Pins) : (s.setPins v).sgv = s.sgv := rfl
@[simp] theorem Station.setPins_ncc (s : Station) (v : Pins) : (s.setPins v).ncc = s.ncc := rfl
@[simp] theorem Station.setPins_thm (s : Station) (v : Pins) : (s.setPins v).thm = s.thm := rfl
@[simp] theorem Station.setPins_hsc (s : Station) (v : Pins) : (s.setPins v).hsc = s.hsc := rfl

@[simp] theorem Station.setSht_resetLow (s : Station) (v : ShaftTracker) : (s.setSht v).resetLow = s.resetLow := rfl
@[simp] theorem Station.setSht_now (s : Station) (v : ShaftTracker) : (s.setSht v).now = s.now := rfl
@[simp] theorem Station.setSht_pins (s : Station) (v : ShaftTracker) : (s.setSht v).pins = s.pins := rfl
@[simp] theorem Station.setSht_sht (s : Station) (v : ShaftTracker) : (s.setSht v).sht = v := rfl
@[simp] theorem Station.setSht_gtu (s : Station) (v : ShaftTracker) : (s.setSht v).gtu = s.gtu := rfl
@[simp] theorem Station.setSht_stc (s : Station) (v : ShaftTracker) : (s.setSht v).stc = s.stc := rfl
@[simp] theorem Station.setSht_sli (s : Station) (v : ShaftTracker) : (s.setSht v).sli = s.sli := rfl
@[simp] theorem Station.setSht_prt (s : Station) (v : ShaftTracker) : (s.setSht v).prt = s.prt := rfl
@[simp] theorem Station.setSht_pgs (s : Station) (v : ShaftTracker) : (s.setSht v).pgs = s.pgs := rfl
@[simp] theorem Station.setSht_ssq (s : Station) (v : ShaftTracker) : (s.setSht v).ssq = s.ssq := rfl
@[simp] theorem Station.setSht_pnc (s : Station) (v : ShaftTracker) : (s.setSht v).pnc = s.pnc := rfl
@[simp] theorem Station.setSht_sgv (s : Station) (v : ShaftTracker) : (s.setSht v).sgv = s.sgv := rfl
@[simp] theorem Station.setSht_ncc (s : Station) (v : ShaftTracker) : (s.setSht v).ncc = s.ncc := rfl
@[simp] theorem Station.setSht_thm (s : Station) (v : ShaftTracker) : (s.setSht v).thm = s.thm := rfl
@[simp] theorem Station.setSht_hsc (s : Station) (v : ShaftTracker) : (s.setSht v).hsc = s.hsc := rfl

@[simp] theorem Station.setGtu_resetLow (s : Station) (v : GateUnit) : (s.setGtu v).resetLow = s.resetLow := rfl
@[simp] theorem Station.setGtu_now (s : Station) (v : GateUnit) : (s.setGtu v).now = s.now := rfl
@[simp] theorem Station.setGtu_pins (s : Station) (v : GateUnit) : (s.setGtu v).pins = s.pins := rfl
@[simp] theorem Station.setGtu_sht (s : Station) (v : GateUnit) : (s.setGtu v).sht = s.sht := rfl
@[simp] theorem Station.setGtu_gtu (s : Station) (v : GateUnit) : (s.setGtu v).gtu = v := rfl
@[simp] theorem Station.setGtu_stc (s : Station) (v : GateUnit) : (s.setGtu v).stc = s.stc := rfl
@[simp] theorem Station.setGtu_sli (s : Station) (v : GateUnit) : (s.setGtu v).sli = s.sli := rfl
@[simp] theorem Station.setGtu_prt (s : Station) (v : GateUnit) : (s.setGtu v).prt = s.prt := rfl
@[simp] theorem Station.setGtu_pgs (s : Station) (v : GateUnit) : (s.setGtu v).pgs = s.pgs := rfl
@[simp] theorem Station.setGtu_ssq (s : Station) (v : GateUnit) : (s.setGtu v).ssq = s.ssq := rfl
@[simp] theorem Station.setGtu_pnc (s : Station) (v : GateUnit) : (s.setGtu v).pnc = s.pnc := rfl
@[simp] theorem Station.setGtu_sgv (s : Station) (v : GateUnit) : (s.setGtu v).sgv = s.sgv := rfl
@[simp] theorem Station.setGtu_ncc (s : Station) (v : GateUnit) : (s.setGtu v).ncc = s.ncc := rfl
@[simp] theorem Station.setGtu_thm (s : Station) (v : GateUnit) : (s.setGtu v).thm = s.thm := rfl
@[simp] theorem Station.setGtu_hsc (s : Station) (v : GateUnit) : (s.setGtu v).hsc = s.hsc := rfl

@[simp] theorem Station.setStc_resetLow (s : Station) (v : StationControl) : (s.setStc v).resetLow = s.resetLow := rfl
@[simp] theorem Station.setStc_now (s : Station) (v : StationControl) : (s.setStc v).now = s.now := rfl
@[simp] theorem Station.setStc_pins (s : Station) (v : StationControl) : (s.setStc v).pins = s.pins := rfl
@[simp] theorem Station.setStc_sht (s : Station) (v : StationControl) : (s.setStc v).sht = s.sht := rfl
@[simp] theorem Station.setStc_gtu (s : Station) (v : StationControl) : (s.setStc v).gtu = s.gtu := rfl
@[simp] theorem Station.setStc_stc (s : Station) (v : StationControl) : (s.setStc v).stc = v := rfl
@[simp] theorem Station.setStc_sli (s : Station) (v : StationControl) : (s.setStc v).sli = s.sli := rfl
@[simp] theorem Station.setStc_prt (s : Station) (v : StationControl) : (s.setStc v).prt = s.prt := rfl
@[simp] theorem Station.setStc_pgs (s : Station) (v : StationControl) : (s.setStc v).pgs = s.pgs := rfl
@[simp] theorem Station.setStc_ssq (s : Station) (v : StationControl) : (s.setStc v).ssq = s.ssq := rfl
@[simp] theorem Station.setStc_pnc (s : Station) (v : StationControl) : (s.setStc v).pnc = s.pnc := rfl
@[simp] theorem Station.setStc_sgv (s : Station) (v : StationControl) : (s.setStc v).sgv = s.sgv := rfl
@[simp] theorem Station.setStc_ncc (s : Station) (v : StationControl) : (s.setStc v).ncc = s.ncc := rfl
@[simp] theorem Station.setStc_thm (s : Station) (v : StationControl) : (s.setStc v).thm = s.thm := rfl
@[simp] theorem Station.setStc_hsc (s : Station) (v : StationControl) : (s.setStc v).hsc = s.hsc := rfl

@[simp] theorem Station.setSli_resetLow (s : Station) (v : LinkInterface) : (s.setSli v).resetLow = s.resetLow := rfl
@[simp] theorem Station.setSli_now (s : Station) (v : LinkInterface) : (s.setSli v).now = s.now := rfl
@[simp] theorem Station.setSli_pins (s : Station) (v : LinkInterface) : (s.setSli v).pins = s.pins := rfl
@[simp] theorem Station.setSli_sht (s : Station) (v : LinkInterface) : (s.setSli v).sht = s.sht := rfl
@[simp] theorem Station.setSli_gtu (s : Station) (v : LinkInterface) : (s.setSli v).gtu = s.gtu := rfl
@[simp] theorem Station.setSli_stc (s : Station) (v : LinkInterface) : (s.setSli v).stc = s.stc := rfl
@[simp] theorem Station.setSli_sli (s : Station) (v : LinkInterface) : (s.setSli v).sli = v := rfl
@[simp] theorem Station.setSli_prt (s : Station) (v : LinkInterface) : (s.setSli v).prt = s.prt := rfl
@[simp] theorem Station.setSli_pgs (s : Station) (v : LinkInterface) : (s.setSli v).pgs = s.pgs := rfl
@[simp] theorem Station.setSli_ssq (s : Station) (v : LinkInterface) : (s.setSli v).ssq = s.ssq := rfl
@[simp] theorem Station.setSli_pnc (s : Station) (v : LinkInterface) : (s.setSli v).pnc = s.pnc := rfl
@[simp] theorem Station.setSli_sgv (s : Station) (v : LinkInterface) : (s.setSli v).sgv = s.sgv := rfl
@[simp] theorem Station.setSli_ncc (s : Station) (v : LinkInterface) : (s.setSli v).ncc = s.ncc := rfl
@[simp] theorem Station.setSli_thm (s : Station) (v : LinkInterface) : (s.setSli v).thm = s.thm := rfl
@[simp] theorem Station.setSli_hsc (s : Station) (v : LinkInterface) : (s.setSli v).hsc = s.hsc := rfl

@[simp] theorem Station.setPrt_resetLow (s : Station) (v : List PeerEntry) : (s.setPrt v).resetLow = s.resetLow := rfl
@[simp] theorem Station.setPrt_now (s : Station) (v : List PeerEntry) : (s.setPrt v).now = s.now := rfl
@[simp] theorem Station.setPrt_pins (s : Station) (v : List PeerEntry) : (s.setPrt v).pins = s.pins := rfl
@[simp] theorem Station.setPrt_sht (s : Station) (v : List PeerEntry) : (s.setPrt v).sht = s.sht := rfl
@[simp] theorem Station.setPrt_gtu (s : Station) (v : List PeerEntry) : (s.setPrt v).gtu = s.gtu := rfl
@[simp] theorem Station.setPrt_stc (s : Station) (v : List PeerEntry) : (s.setPrt v).stc = s.stc := rfl
@[simp] theorem Station.setPrt_sli (s : Station) (v : List PeerEntry) : (s.setPrt v).sli = s.sli := rfl
@[simp] theorem Station.setPrt_prt (s : Station) (v : List PeerEntry) : (s.setPrt v).prt = v := rfl
@[simp] theorem Station.setPrt_pgs (s : Station) (v : List PeerEntry) : (s.setPrt v).pgs = s.pgs := rfl
@[simp] theorem Station.setPrt_ssq (s : Station) (v : List PeerEntry) : (s.setPrt v).ssq = s.ssq := rfl
@[simp] theorem Station.setPrt_pnc (s : Station) (v : List PeerEntry) : (s.setPrt v).pnc = s.pnc := rfl
@[simp] theorem Station.setPrt_sgv (s : Station) (v : List PeerEntry) : (s.setPrt v).sgv = s.sgv := rfl
@[simp] theorem Station.setPrt_ncc (s : Station) (v : List PeerEntry) : (s.setPrt v).ncc = s.ncc := rfl
@[simp] theorem Station.setPrt_thm (s : Station) (v : List PeerEntry) : (s.setPrt v).thm = s.thm := rfl
@[simp] theorem Station.setPrt_hsc (s : Station) (v : List PeerEntry) : (s.setPrt v).hsc = s.hsc := rfl

@[simp] theorem Station.setPgs_resetLow (s : Station) (v : PageStore) : (s.setPgs v).resetLow = s.resetLow := rfl
@[simp] theorem Station.setPgs_now (s : Station) (v : PageStore) : (s.setPgs v).now = s.now := rfl
@[simp] theorem Station.setPgs_pins (s : Station) (v : PageStore) : (s.setPgs v).pins = s.pins := rfl
@[simp] theorem Station.setPgs_sht (s : Station) (v : PageStore) : (s.setPgs v).sht = s.sht := rfl
@[simp] theorem Station.setPgs_gtu (s : Station) (v : PageStore) : (s.setPgs v).gtu = s.gtu := rfl
@[simp] theorem Station.setPgs_stc (s : Station) (v : PageStore) : (s.setPgs v).stc = s.stc := rfl
@[simp] theorem Station.setPgs_sli (s : Station) (v : PageStore) : (s.setPgs v).sli = s.sli := rfl
@[simp] theorem Station.setPgs_prt (s : Station) (v : PageStore) : (s.setPgs v).prt = s.prt := rfl
@[simp] theorem Station.setPgs_pgs (s : Station) (v : PageStore) : (s.setPgs v).pgs = v := rfl
@[simp] theorem Station.setPgs_ssq (s : Station) (v : PageStore) : (s.setPgs v).ssq = s.ssq := rfl
@[simp] theorem Station.setPgs_pnc (s : Station) (v : PageStore) : (s.setPgs v).pnc = s.pnc := rfl
@[simp] theorem Station.setPgs_sgv (s : Station) (v : PageStore) : (s.setPgs v).sgv = s.sgv := rfl
@[simp] theorem Station.setPgs_ncc (s : Station) (v : PageStore) : (s.setPgs v).ncc = s.ncc := rfl
@[simp] theorem Station.setPgs_thm (s : Station) (v : PageStore) : (s.setPgs v).thm = s.thm := rfl
@[simp] theorem Station.setPgs_hsc (s : Station) (v : PageStore) : (s.setPgs v).hsc = s.hsc := rfl

@[simp] theorem Station.setSsq_resetLow (s : Station) (v : Sequencer) : (s.setSsq v).resetLow = s.resetLow := rfl
@[simp] theorem Station.setSsq_now (s : Station) (v : Sequencer) : (s.setSsq v).now = s.now := rfl
@[simp] theorem Station.setSsq_pins (s : Station) (v : Sequencer) : (s.setSsq v).pins = s.pins := rfl
@[simp] theorem Station.setSsq_sht (s : Station) (v : Sequencer) : (s.setSsq v).sht = s.sht := rfl
@[simp] theorem Station.setSsq_gtu (s : Station) (v : Sequencer) : (s.setSsq v).gtu = s.gtu := rfl
@[simp] theorem Station.setSsq_stc (s : Station) (v : Sequencer) : (s.setSsq v).stc = s.stc := rfl
@[simp] theorem Station.setSsq_sli (s : Station) (v : Sequencer) : (s.setSsq v).sli = s.sli := rfl
@[simp] theorem Station.setSsq_prt (s : Station) (v : Sequencer) : (s.setSsq v).prt = s.prt := rfl
@[simp] theorem Station.setSsq_pgs (s : Station) (v : Sequencer) : (s.setSsq v).pgs = s.pgs := rfl
@[simp] theorem Station.setSsq_ssq (s : Station) (v : Sequencer) : (s.setSsq v).ssq = v := rfl
@[simp] theorem Station.setSsq_pnc (s : Station) (v : Sequencer) : (s.setSsq v).pnc = s.pnc := rfl
@[simp] theorem Station.setSsq_sgv (s : Station) (v : Sequencer) : (s.setSsq v).sgv = s.sgv := rfl
@[simp] theorem Station.setSsq_ncc (s : Station) (v : Sequencer) : (s.setSsq v).ncc = s.ncc := rfl
@[simp] theorem Station.setSsq_thm (s : Station) (v : Sequencer) : (s.setSsq v).thm = s.thm := rfl
@[simp] theorem Station.setSsq_hsc (s : Station) (v : Sequencer) : (s.setSsq v).hsc = s.hsc := rfl

@[simp] theorem Station.setPnc_resetLow (s : Station) (v : Pantograph) : (s.setPnc v).resetLow = s.resetLow := rfl
@[simp] theorem Station.setPnc_now (s : Station) (v : Pantograph) : (s.setPnc v).now = s.now := rfl
@[simp] theorem Station.setPnc_pins (s : Station) (v : Pantograph) : (s.setPnc v).pins = s.pins := rfl
@[simp] theorem Station.setPnc_sht (s : Station) (v : Pantograph) : (s.setPnc v).sht = s.sht := rfl
@[simp] theorem Station.setPnc_gtu (s : Station) (v : Pantograph) : (s.setPnc v).gtu = s.gtu := rfl
@[simp] theorem Station.setPnc_stc (s : Station) (v : Pantograph) : (s.setPnc v).stc = s.stc := rfl
@[simp] theorem Station.setPnc_sli (s : Station) (v : Pantograph) : (s.setPnc v).sli = s.sli := rfl
@[simp] theorem Station.setPnc_prt (s : Station) (v : Pantograph) : (s.setPnc v).prt = s.prt := rfl
@[simp] theorem Station.setPnc_pgs (s : Station) (v : Pantograph) : (s.setPnc v).pgs = s.pgs := rfl
@[simp] theorem Station.setPnc_ssq (s : Station) (v : Pantograph) : (s.setPnc v).ssq = s.ssq := rfl
@[simp] theorem Station.setPnc_pnc (s : Station) (v : Pantograph) : (s.setPnc v).pnc = v := rfl
@[simp] theorem Station.setPnc_sgv (s : Station) (v : Pantograph) : (s.setPnc v).sgv = s.sgv := rfl
@[simp] theorem Station.setPnc_ncc (s : Station) (v : Pantograph) : (s.setPnc v).ncc = s.ncc := rfl
@[simp] theorem Station.setPnc_thm (s : Station) (v : Pantograph) : (s.setPnc v).thm = s.thm := rfl
@[simp] theorem Station.setPnc_hsc (s : Station) (v : Pantograph) : (s.setPnc v).hsc = s.hsc := rfl

@[simp] theorem Station.setSgv_resetLow (s : Station) (v : Governor) : (s.setSgv v).resetLow = s.resetLow := rfl
@[simp] theorem Station.setSgv_now (s : Station) (v : Governor) : (s.setSgv v).now = s.now := rfl
@[simp] theorem Station.setSgv_pins (s : Station) (v : Governor) : (s.setSgv v).pins = s.pins := rfl
@[simp] theorem Station.setSgv_sht (s : Station) (v : Governor) : (s.setSgv v).sht = s.sht := rfl
@[simp] theorem Station.setSgv_gtu (s : Station) (v : Governor) : (s.setSgv v).gtu = s.gtu := rfl
@[simp] theorem Station.setSgv_stc (s : Station) (v : Governor) : (s.setSgv v).stc = s.stc := rfl
@[simp] theorem Station.setSgv_sli (s : Station) (v : Governor) : (s.setSgv v).sli = s.sli := rfl
@[simp] theorem Station.setSgv_prt (s : Station) (v : Governor) : (s.setSgv v).prt = s.prt := rfl
@[simp] theorem Station.setSgv_pgs (s : Station) (v : Governor) : (s.setSgv v).pgs = s.pgs := rfl
@[simp] theorem Station.setSgv_ssq (s : Station) (v : Governor) : (s.setSgv v).ssq = s.ssq := rfl
@[simp] theorem Station.setSgv_pnc (s : Station) (v : Governor) : (s.setSgv v).pnc = s.pnc := rfl
@[simp] theorem Station.setSgv_sgv (s : Station) (v : Governor) : (s.setSgv v).sgv = v := rfl
@[simp] theorem Station.setSgv_ncc (s : Station) (v : Governor) : (s.setSgv v).ncc = s.ncc := rfl
@[simp] theorem Station.setSgv_thm (s : Station) (v : Governor) : (s.setSgv v).thm = s.thm := rfl
@[simp] theorem Station.setSgv_hsc (s : Station) (v : Governor) : (s.setSgv v).hsc = s.hsc := rfl

@[simp] theorem Station.setNcc_resetLow (s : Station) (v : NeedleCase) : (s.setNcc v).resetLow = s.resetLow := rfl
@[simp] theorem Station.setNcc_now (s : Station) (v : NeedleCase) : (s.setNcc v).now = s.now := rfl
@[simp] theorem Station.setNcc_pins (s : Station) (v : NeedleCase) : (s.setNcc v).pins = s.pins := rfl
@[simp] theorem Station.setNcc_sht (s : Station) (v : NeedleCase) : (s.setNcc v).sht = s.sht := rfl
@[simp] theorem Station.setNcc_gtu (s : Station) (v : NeedleCase) : (s.setNcc v).gtu = s.gtu := rfl
@[simp] theorem Station.setNcc_stc (s : Station) (v : NeedleCase) : (s.setNcc v).stc = s.stc := rfl
@[simp] theorem Station.setNcc_sli (s : Station) (v : NeedleCase) : (s.setNcc v).sli = s.sli := rfl
@[simp] theorem Station.setNcc_prt (s : Station) (v : NeedleCase) : (s.setNcc v).prt = s.prt := rfl
@[simp] theorem Station.setNcc_pgs (s : Station) (v : NeedleCase) : (s.setNcc v).pgs = s.pgs := rfl
@[simp] theorem Station.setNcc_ssq (s : Station) (v : NeedleCase) : (s.setNcc v).ssq = s.ssq := rfl
@[simp] theorem Station.setNcc_pnc (s : Station) (v : NeedleCase) : (s.setNcc v).pnc = s.pnc := rfl
@[simp] theorem Station.setNcc_sgv (s : Station) (v : NeedleCase) : (s.setNcc v).sgv = s.sgv := rfl
@[simp] theorem Station.setNcc_ncc (s : Station) (v : NeedleCase) : (s.setNcc v).ncc = v := rfl
@[simp] theorem Station.setNcc_thm (s : Station) (v : NeedleCase) : (s.setNcc v).thm = s.thm := rfl
@[simp] theorem Station.setNcc_hsc (s : Station) (v : NeedleCase) : (s.setNcc v).hsc = s.hsc := rfl

@[simp] theorem Station.setThm_resetLow (s : Station) (v : ThreadMonitor) : (s.setThm v).resetLow = s.resetLow := rfl
@[simp] theorem Station.setThm_now (s : Station) (v : ThreadMonitor) : (s.setThm v).now = s.now := rfl
@[simp] theorem Station.setThm_pins (s : Station) (v : ThreadMonitor) : (s.setThm v).pins = s.pins := rfl
@[simp] theorem Station.setThm_sht (s : Station) (v : ThreadMonitor) : (s.setThm v).sht = s.sht := rfl
@[simp] theorem Station.setThm_gtu (s : Station) (v : ThreadMonitor) : (s.setThm v).gtu = s.gtu := rfl
@[simp] theorem Station.setThm_stc (s : Station) (v : ThreadMonitor) : (s.setThm v).stc = s.stc := rfl
@[simp] theorem Station.setThm_sli (s : Station) (v : ThreadMonitor) : (s.setThm v).sli = s.sli := rfl
@[simp] theorem Station.setThm_prt (s : Station) (v : ThreadMonitor) : (s.setThm v).prt = s.prt := rfl
@[simp] theorem Station.setThm_pgs (s : Station) (v : ThreadMonitor) : (s.setThm v).pgs = s.pgs := rfl
@[simp] theorem Station.setThm_ssq (s : Station) (v : ThreadMonitor) : (s.setThm v).ssq = s.ssq := rfl
@[simp] theorem Station.setThm_pnc (s : Station) (v : ThreadMonitor) : (s.setThm v).pnc = s.pnc := rfl
@[simp] theorem Station.setThm_sgv (s : Station) (v : ThreadMonitor) : (s.setThm v).sgv = s.sgv := rfl
@[simp] theorem Station.setThm_ncc (s : Station) (v : ThreadMonitor) : (s.setThm v).ncc = s.ncc := rfl
@[simp] theorem Station.setThm_thm (s : Station) (v : ThreadMonitor) : (s.setThm v).thm = v := rfl
@[simp] theorem Station.setThm_hsc (s : Station) (v : ThreadMonitor) : (s.setThm v).hsc = s.hsc := rfl

@[simp] theorem Station.setHsc_resetLow (s : Station) (v : HeadControl) : (s.setHsc v).resetLow = s.resetLow := rfl
@[simp] theorem Station.setHsc_now (s : Station) (v : HeadControl) : (s.setHsc v).now = s.now := rfl
@[simp] theorem Station.setHsc_pins (s : Station) (v : HeadControl) : (s.setHsc v).pins = s.pins := rfl
@[simp] theorem Station.setHsc_sht (s : Station) (v : HeadControl) : (s.setHsc v).sht = s.sht := rfl
@[simp] theorem Station.setHsc_gtu (s : Station) (v : HeadControl) : (s.setHsc v).gtu = s.gtu := rfl
@[simp] theorem Station.setHsc_stc (s : Station) (v : HeadControl) : (s.setHsc v).stc = s.stc := rfl
@[simp] theorem Station.setHsc_sli (s : Station) (v : HeadControl) : (s.setHsc v).sli = s.sli := rfl
@[simp] theorem Station.setHsc_prt (s : Station) (v : HeadControl) : (s.setHsc v).prt = s.prt := rfl
@[simp] theorem Station.setHsc_pgs (s : Station) (v : HeadControl) : (s.setHsc v).pgs = s.pgs := rfl
@[simp] theorem Station.setHsc_ssq (s : Station) (v : HeadControl) : (s.setHsc v).ssq = s.ssq := rfl
@[simp] theorem Station.setHsc_pnc (s : Station) (v : HeadControl) : (s.setHsc v).pnc = s.pnc := rfl
@[simp] theorem Station.setHsc_sgv (s : Station) (v : HeadControl) : (s.setHsc v).sgv = s.sgv := rfl
@[simp] theorem Station.setHsc_ncc (s : Station) (v : HeadControl) : (s.setHsc v).ncc = s.ncc := rfl
@[simp] theorem Station.setHsc_thm (s : Station) (v : HeadControl) : (s.setHsc v).thm = s.thm := rfl
@[simp] theorem Station.setHsc_hsc (s : Station) (v : HeadControl) : (s.setHsc v).hsc = v := rfl

end Sys2Proof.Machine
end

