-- ==== Sys2Proof/Laws/Ops.lean ====
section
/-! SUPPORT. Laws/Ops.lean: what the shared operations of Machine/Ops.lean, and the resets, leave as they are:
for each operation one lemma with every record, and every item of a record it writes only in part, that it does not touch. -/

namespace Sys2Proof.Machine

@[simp] theorem causeStatus_frame (s : Station) :
    (causeStatus s).resetLow = s.resetLow ∧ (causeStatus s).now = s.now ∧ (causeStatus s).pins = s.pins ∧
    (causeStatus s).sht = s.sht ∧ (causeStatus s).gtu = s.gtu ∧ (causeStatus s).stc = s.stc ∧
    (causeStatus s).prt = s.prt ∧ (causeStatus s).pgs = s.pgs ∧ (causeStatus s).ssq = s.ssq ∧
    (causeStatus s).pnc = s.pnc ∧ (causeStatus s).sgv = s.sgv ∧ (causeStatus s).ncc = s.ncc ∧
    (causeStatus s).thm = s.thm ∧ (causeStatus s).hsc = s.hsc := by
  simp only [causeStatus]
  (repeat' split) <;> simp

/-- A cause for sending Status at the transmit slot (R47): a muted station's slot stays as it is, a cause during a Status on the line
is kept for a following notice, and any other sets the slot pending. -/
theorem causeStatus_sli (s : Station) :
    (causeStatus s).sli = if muted s then s.sli else if s.sli.sending.isSome then { s.sli with causeAgain := true }
      else { s.sli with slotPending := true } := by
  simp only [causeStatus]
  (repeat' split) <;> rfl

@[simp] theorem refuse_frame (kind : NoticeKind) (reason : RefusalReason) (s : Station) :
    (refuse kind reason s).resetLow = s.resetLow ∧ (refuse kind reason s).now = s.now ∧
    (refuse kind reason s).pins = s.pins ∧ (refuse kind reason s).sht = s.sht ∧ (refuse kind reason s).gtu = s.gtu ∧
    (refuse kind reason s).stc.addr = s.stc.addr ∧ (refuse kind reason s).stc.headRole = s.stc.headRole ∧
    (refuse kind reason s).stc.frameRole = s.stc.frameRole ∧ (refuse kind reason s).stc.lock = s.stc.lock ∧
    (refuse kind reason s).stc.roster = s.stc.roster ∧ (refuse kind reason s).stc.timing = s.stc.timing ∧
    (refuse kind reason s).stc.motion = s.stc.motion ∧ (refuse kind reason s).stc.thread = s.stc.thread ∧
    (refuse kind reason s).stc.joinTimer = s.stc.joinTimer ∧
    (refuse kind reason s).stc.lastRefusal = some (kind, reason) ∧
    (refuse kind reason s).sli = (causeStatus s).sli ∧
    (refuse kind reason s).prt = s.prt ∧ (refuse kind reason s).pgs = s.pgs ∧ (refuse kind reason s).ssq = s.ssq ∧
    (refuse kind reason s).pnc = s.pnc ∧ (refuse kind reason s).sgv = s.sgv ∧ (refuse kind reason s).ncc = s.ncc ∧
    (refuse kind reason s).thm = s.thm ∧ (refuse kind reason s).hsc = s.hsc := by
  simp only [refuse, causeStatus_frame, causeStatus_sli]
  simp
  rfl

@[simp] theorem addRecord_frame (fr : FaultRecord) (s : Station) :
    (addRecord fr s).resetLow = s.resetLow ∧ (addRecord fr s).now = s.now ∧ (addRecord fr s).pins = s.pins ∧
    (addRecord fr s).sht = s.sht ∧ (addRecord fr s).gtu = s.gtu ∧ (addRecord fr s).stc.addr = s.stc.addr ∧
    (addRecord fr s).stc.headRole = s.stc.headRole ∧ (addRecord fr s).stc.frameRole = s.stc.frameRole ∧
    (addRecord fr s).stc.lock = s.stc.lock ∧ (addRecord fr s).stc.roster = s.stc.roster ∧
    (addRecord fr s).stc.timing = s.stc.timing ∧ (addRecord fr s).stc.motion = s.stc.motion ∧
    (addRecord fr s).stc.thread = s.stc.thread ∧ (addRecord fr s).stc.joinTimer = s.stc.joinTimer ∧
    (addRecord fr s).stc.lastRefusal = s.stc.lastRefusal ∧ (addRecord fr s).sli = s.sli ∧
    (addRecord fr s).prt = s.prt ∧ (addRecord fr s).pgs = s.pgs ∧ (addRecord fr s).ssq = s.ssq ∧
    (addRecord fr s).pnc = s.pnc ∧ (addRecord fr s).sgv = s.sgv ∧ (addRecord fr s).ncc = s.ncc ∧
    (addRecord fr s).thm = s.thm ∧ (addRecord fr s).hsc = s.hsc := by
  simp only [addRecord]
  (repeat' split) <;> simp

@[simp] theorem enterState_frame (st : StationState) (s : Station) :
    (enterState st s).resetLow = s.resetLow ∧ (enterState st s).now = s.now ∧ (enterState st s).pins = s.pins ∧
    (enterState st s).sht = s.sht ∧ (enterState st s).gtu = s.gtu ∧ (enterState st s).stc.addr = s.stc.addr ∧
    (enterState st s).stc.headRole = s.stc.headRole ∧ (enterState st s).stc.frameRole = s.stc.frameRole ∧
    (enterState st s).stc.lock = s.stc.lock ∧ (enterState st s).stc.roster = s.stc.roster ∧
    (enterState st s).stc.timing = s.stc.timing ∧ (enterState st s).stc.motion = s.stc.motion ∧
    (enterState st s).stc.thread = s.stc.thread ∧ (enterState st s).stc.joinTimer = s.stc.joinTimer ∧
    (enterState st s).stc.lastRefusal = s.stc.lastRefusal ∧ (enterState st s).prt = s.prt ∧
    (enterState st s).pgs = s.pgs ∧ (enterState st s).ssq = s.ssq ∧ (enterState st s).pnc = s.pnc ∧
    (enterState st s).sgv = s.sgv ∧ (enterState st s).ncc = s.ncc ∧ (enterState st s).thm = s.thm ∧
    (enterState st s).hsc = s.hsc := by
  simp only [enterState]
  (repeat' split) <;> simp

@[simp] theorem governorStop_frame (s : Station) :
    (governorStop s).resetLow = s.resetLow ∧ (governorStop s).now = s.now ∧ (governorStop s).pins = s.pins ∧
    (governorStop s).sht = s.sht ∧ (governorStop s).gtu = s.gtu ∧ (governorStop s).stc = s.stc ∧
    (governorStop s).sli = s.sli ∧ (governorStop s).prt = s.prt ∧ (governorStop s).pgs = s.pgs ∧
    (governorStop s).ssq = s.ssq ∧ (governorStop s).pnc = s.pnc ∧ (governorStop s).ncc = s.ncc ∧
    (governorStop s).thm = s.thm ∧ (governorStop s).hsc = s.hsc := by simp [governorStop]

@[simp] theorem governorEnd_frame (s : Station) :
    (governorEnd s).resetLow = s.resetLow ∧ (governorEnd s).now = s.now ∧ (governorEnd s).pins = s.pins ∧
    (governorEnd s).sht = s.sht ∧ (governorEnd s).gtu = s.gtu ∧ (governorEnd s).stc = s.stc ∧
    (governorEnd s).sli = s.sli ∧ (governorEnd s).prt = s.prt ∧ (governorEnd s).pgs = s.pgs ∧
    (governorEnd s).ssq = s.ssq ∧ (governorEnd s).pnc = s.pnc ∧ (governorEnd s).ncc = s.ncc ∧
    (governorEnd s).thm = s.thm ∧ (governorEnd s).hsc = s.hsc := by simp [governorEnd]

@[simp] theorem beginCreep_frame (s : Station) :
    (beginCreep s).resetLow = s.resetLow ∧ (beginCreep s).now = s.now ∧ (beginCreep s).pins = s.pins ∧
    (beginCreep s).sht = s.sht ∧ (beginCreep s).gtu = s.gtu ∧ (beginCreep s).stc = s.stc ∧
    (beginCreep s).sli = s.sli ∧ (beginCreep s).prt = s.prt ∧ (beginCreep s).pgs = s.pgs ∧
    (beginCreep s).ssq = s.ssq ∧ (beginCreep s).pnc = s.pnc ∧ (beginCreep s).ncc = s.ncc ∧
    (beginCreep s).thm = s.thm ∧ (beginCreep s).hsc = s.hsc := by simp [beginCreep]

@[simp] theorem beginSequence_frame (s : Station) :
    (beginSequence s).resetLow = s.resetLow ∧ (beginSequence s).now = s.now ∧ (beginSequence s).pins = s.pins ∧
    (beginSequence s).sht = s.sht ∧ (beginSequence s).gtu = s.gtu ∧ (beginSequence s).stc = s.stc ∧
    (beginSequence s).sli = s.sli ∧ (beginSequence s).prt = s.prt ∧ (beginSequence s).pgs = s.pgs ∧
    (beginSequence s).ssq = s.ssq ∧ (beginSequence s).pnc = s.pnc ∧ (beginSequence s).ncc = s.ncc ∧
    (beginSequence s).thm = s.thm ∧ (beginSequence s).hsc = s.hsc := by simp [beginSequence]

@[simp] theorem tryReposition_frame (s : Station) :
    (tryReposition s).resetLow = s.resetLow ∧ (tryReposition s).now = s.now ∧ (tryReposition s).pins = s.pins ∧
    (tryReposition s).sht = s.sht ∧ (tryReposition s).gtu = s.gtu ∧ (tryReposition s).stc = s.stc ∧
    (tryReposition s).sli = s.sli ∧ (tryReposition s).prt = s.prt ∧ (tryReposition s).pgs = s.pgs ∧
    (tryReposition s).ssq = s.ssq ∧ (tryReposition s).pnc = s.pnc ∧ (tryReposition s).ncc = s.ncc ∧
    (tryReposition s).thm = s.thm ∧ (tryReposition s).hsc = s.hsc := by
  simp only [tryReposition]
  (repeat' split) <;> simp

@[simp] theorem judgeField_frame (s : Station) :
    (judgeField s).resetLow = s.resetLow ∧ (judgeField s).now = s.now ∧ (judgeField s).pins = s.pins ∧
    (judgeField s).sht = s.sht ∧ (judgeField s).gtu = s.gtu ∧ (judgeField s).stc = s.stc ∧
    (judgeField s).sli = s.sli ∧ (judgeField s).prt = s.prt ∧ (judgeField s).pgs = s.pgs ∧
    (judgeField s).ssq = s.ssq ∧ (judgeField s).sgv = s.sgv ∧ (judgeField s).ncc = s.ncc ∧
    (judgeField s).thm = s.thm ∧ (judgeField s).hsc = s.hsc := by
  simp only [judgeField]
  (repeat' split) <;> simp

@[simp] theorem setInPlace_frame (s : Station) :
    (setInPlace s).resetLow = s.resetLow ∧ (setInPlace s).now = s.now ∧ (setInPlace s).pins = s.pins ∧
    (setInPlace s).sht = s.sht ∧ (setInPlace s).gtu = s.gtu ∧ (setInPlace s).stc = s.stc ∧
    (setInPlace s).sli = s.sli ∧ (setInPlace s).prt = s.prt ∧ (setInPlace s).pgs = s.pgs ∧
    (setInPlace s).ssq = s.ssq ∧ (setInPlace s).sgv = s.sgv ∧ (setInPlace s).ncc = s.ncc ∧
    (setInPlace s).thm = s.thm ∧ (setInPlace s).hsc = s.hsc := by simp [setInPlace]

@[simp] theorem judgeInPlace_frame (s : Station) :
    (judgeInPlace s).resetLow = s.resetLow ∧ (judgeInPlace s).now = s.now ∧ (judgeInPlace s).pins = s.pins ∧
    (judgeInPlace s).sht = s.sht ∧ (judgeInPlace s).gtu = s.gtu ∧ (judgeInPlace s).stc = s.stc ∧
    (judgeInPlace s).sli = s.sli ∧ (judgeInPlace s).prt = s.prt ∧ (judgeInPlace s).pgs = s.pgs ∧
    (judgeInPlace s).ssq = s.ssq ∧ (judgeInPlace s).sgv = s.sgv ∧ (judgeInPlace s).ncc = s.ncc ∧
    (judgeInPlace s).thm = s.thm ∧ (judgeInPlace s).hsc = s.hsc := by simp [judgeInPlace]

@[simp] theorem arrive_frame (x y : Int) (s : Station) :
    (arrive x y s).resetLow = s.resetLow ∧ (arrive x y s).now = s.now ∧ (arrive x y s).pins = s.pins ∧
    (arrive x y s).sht = s.sht ∧ (arrive x y s).gtu = s.gtu ∧ (arrive x y s).stc = s.stc ∧
    (arrive x y s).sli = s.sli ∧ (arrive x y s).prt = s.prt ∧ (arrive x y s).pgs = s.pgs ∧
    (arrive x y s).ssq = s.ssq ∧ (arrive x y s).sgv = s.sgv ∧ (arrive x y s).ncc = s.ncc ∧
    (arrive x y s).thm = s.thm ∧ (arrive x y s).hsc = s.hsc := by simp [arrive]

@[simp] theorem startMove_frame (kind : MoveKind) (atWOpen : Bool) (t : MoveTarget) (s : Station) :
    (startMove kind atWOpen t s).resetLow = s.resetLow ∧ (startMove kind atWOpen t s).now = s.now ∧
    (startMove kind atWOpen t s).pins = s.pins ∧ (startMove kind atWOpen t s).sht = s.sht ∧
    (startMove kind atWOpen t s).gtu = s.gtu ∧ (startMove kind atWOpen t s).stc = s.stc ∧
    (startMove kind atWOpen t s).sli = s.sli ∧ (startMove kind atWOpen t s).prt = s.prt ∧
    (startMove kind atWOpen t s).pgs = s.pgs ∧ (startMove kind atWOpen t s).ssq = s.ssq ∧
    (startMove kind atWOpen t s).sgv = s.sgv ∧ (startMove kind atWOpen t s).ncc = s.ncc ∧
    (startMove kind atWOpen t s).thm = s.thm ∧ (startMove kind atWOpen t s).hsc = s.hsc := by simp [startMove]

@[simp] theorem startPending_frame (atWOpen : Bool) (s : Station) :
    (startPending atWOpen s).resetLow = s.resetLow ∧ (startPending atWOpen s).now = s.now ∧
    (startPending atWOpen s).pins = s.pins ∧ (startPending atWOpen s).sht = s.sht ∧
    (startPending atWOpen s).gtu = s.gtu ∧ (startPending atWOpen s).stc = s.stc ∧
    (startPending atWOpen s).sli = s.sli ∧ (startPending atWOpen s).prt = s.prt ∧
    (startPending atWOpen s).pgs = s.pgs ∧ (startPending atWOpen s).ssq = s.ssq ∧
    (startPending atWOpen s).sgv = s.sgv ∧ (startPending atWOpen s).ncc = s.ncc ∧
    (startPending atWOpen s).thm = s.thm ∧ (startPending atWOpen s).hsc = s.hsc := by
  simp only [startPending]
  (repeat' split) <;> simp

@[simp] theorem dropDecision_frame (s : Station) :
    (dropDecision s).resetLow = s.resetLow ∧ (dropDecision s).now = s.now ∧ (dropDecision s).pins = s.pins ∧
    (dropDecision s).sht = s.sht ∧ (dropDecision s).gtu = s.gtu ∧ (dropDecision s).stc = s.stc ∧
    (dropDecision s).sli = s.sli ∧ (dropDecision s).prt = s.prt ∧ (dropDecision s).pgs = s.pgs ∧
    (dropDecision s).ssq = s.ssq ∧ (dropDecision s).pnc = s.pnc ∧ (dropDecision s).sgv = s.sgv ∧
    (dropDecision s).ncc = s.ncc ∧ (dropDecision s).thm = s.thm ∧ (dropDecision s).hsc.mark = s.hsc.mark := by simp [dropDecision]

@[simp] theorem withholdPenetration_frame (s : Station) :
    (withholdPenetration s).resetLow = s.resetLow ∧ (withholdPenetration s).now = s.now ∧
    (withholdPenetration s).pins = s.pins ∧ (withholdPenetration s).sht = s.sht ∧
    (withholdPenetration s).gtu = s.gtu ∧ (withholdPenetration s).stc = s.stc ∧ (withholdPenetration s).sli = s.sli ∧
    (withholdPenetration s).prt = s.prt ∧ (withholdPenetration s).pgs = s.pgs ∧ (withholdPenetration s).ssq = s.ssq ∧
    (withholdPenetration s).pnc = s.pnc ∧ (withholdPenetration s).sgv = s.sgv ∧ (withholdPenetration s).ncc = s.ncc ∧
    (withholdPenetration s).thm = s.thm ∧ (withholdPenetration s).hsc.mark = s.hsc.mark := by
  simp only [withholdPenetration]
  (repeat' split) <;> simp

@[simp] theorem holdIfUnfit_frame (s : Station) :
    (holdIfUnfit s).resetLow = s.resetLow ∧ (holdIfUnfit s).now = s.now ∧ (holdIfUnfit s).pins = s.pins ∧
    (holdIfUnfit s).sht = s.sht ∧ (holdIfUnfit s).gtu = s.gtu ∧ (holdIfUnfit s).stc = s.stc ∧
    (holdIfUnfit s).sli = s.sli ∧ (holdIfUnfit s).prt = s.prt ∧ (holdIfUnfit s).pgs = s.pgs ∧
    (holdIfUnfit s).ssq = s.ssq ∧ (holdIfUnfit s).pnc = s.pnc ∧ (holdIfUnfit s).sgv = s.sgv ∧
    (holdIfUnfit s).ncc = s.ncc ∧ (holdIfUnfit s).thm = s.thm ∧ (holdIfUnfit s).hsc.mark = s.hsc.mark := by
  simp only [holdIfUnfit]
  (repeat' split) <;> simp

@[simp] theorem knifeOff_frame (s : Station) :
    (knifeOff s).resetLow = s.resetLow ∧ (knifeOff s).now = s.now ∧ (knifeOff s).pins = s.pins ∧
    (knifeOff s).sht = s.sht ∧ (knifeOff s).gtu = s.gtu ∧ (knifeOff s).stc = s.stc ∧ (knifeOff s).sli = s.sli ∧
    (knifeOff s).prt = s.prt ∧ (knifeOff s).pgs = s.pgs ∧ (knifeOff s).ssq = s.ssq ∧ (knifeOff s).pnc = s.pnc ∧
    (knifeOff s).sgv = s.sgv ∧ (knifeOff s).ncc = s.ncc ∧ (knifeOff s).thm = s.thm ∧
    (knifeOff s).hsc.mark = s.hsc.mark := by simp [knifeOff]

@[simp] theorem abandonPenetration_frame (s : Station) :
    (abandonPenetration s).resetLow = s.resetLow ∧ (abandonPenetration s).now = s.now ∧
    (abandonPenetration s).pins = s.pins ∧ (abandonPenetration s).sht = s.sht ∧ (abandonPenetration s).gtu = s.gtu ∧
    (abandonPenetration s).stc = s.stc ∧ (abandonPenetration s).sli = s.sli ∧ (abandonPenetration s).prt = s.prt ∧
    (abandonPenetration s).pgs = s.pgs ∧ (abandonPenetration s).ssq = s.ssq ∧ (abandonPenetration s).pnc = s.pnc ∧
    (abandonPenetration s).sgv = s.sgv ∧ (abandonPenetration s).ncc = s.ncc ∧
    (abandonPenetration s).thm.counts = s.thm.counts ∧ (abandonPenetration s).thm.service = s.thm.service ∧
    (abandonPenetration s).hsc = s.hsc := by simp [abandonPenetration]

@[simp] theorem needleChange_frame (s : Station) :
    (needleChange s).resetLow = s.resetLow ∧ (needleChange s).now = s.now ∧ (needleChange s).pins = s.pins ∧
    (needleChange s).sht = s.sht ∧ (needleChange s).gtu = s.gtu ∧ (needleChange s).stc = s.stc ∧
    (needleChange s).sli = s.sli ∧ (needleChange s).prt = s.prt ∧ (needleChange s).pgs = s.pgs ∧
    (needleChange s).ssq = s.ssq ∧ (needleChange s).pnc = s.pnc ∧ (needleChange s).sgv = s.sgv ∧
    (needleChange s).ncc = s.ncc ∧ (needleChange s).thm.counts = s.thm.counts ∧
    (needleChange s).thm.service = s.thm.service ∧ (needleChange s).hsc = s.hsc := by simp [needleChange]

@[simp] theorem completeSettle_frame (s : Station) :
    (completeSettle s).resetLow = s.resetLow ∧ (completeSettle s).now = s.now ∧ (completeSettle s).pins = s.pins ∧
    (completeSettle s).sht = s.sht ∧ (completeSettle s).gtu = s.gtu ∧ (completeSettle s).stc = s.stc ∧
    (completeSettle s).sli = s.sli ∧ (completeSettle s).prt = s.prt ∧ (completeSettle s).pgs = s.pgs ∧
    (completeSettle s).ssq = s.ssq ∧ (completeSettle s).pnc = s.pnc ∧ (completeSettle s).sgv = s.sgv ∧
    (completeSettle s).thm.counts = s.thm.counts ∧ (completeSettle s).thm.service = s.thm.service ∧
    (completeSettle s).hsc = s.hsc := by
  simp only [completeSettle]
  (repeat' split) <;> simp

@[simp] theorem judgeSettle_frame (s : Station) :
    (judgeSettle s).resetLow = s.resetLow ∧ (judgeSettle s).now = s.now ∧ (judgeSettle s).pins = s.pins ∧
    (judgeSettle s).sht = s.sht ∧ (judgeSettle s).gtu = s.gtu ∧ (judgeSettle s).stc = s.stc ∧
    (judgeSettle s).sli = s.sli ∧ (judgeSettle s).prt = s.prt ∧ (judgeSettle s).pgs = s.pgs ∧
    (judgeSettle s).ssq = s.ssq ∧ (judgeSettle s).pnc = s.pnc ∧ (judgeSettle s).sgv = s.sgv ∧
    (judgeSettle s).thm.counts = s.thm.counts ∧ (judgeSettle s).thm.service = s.thm.service ∧
    (judgeSettle s).hsc = s.hsc := by
  simp only [judgeSettle]
  (repeat' split) <;> simp

@[simp] theorem caseLeaves_frame (s : Station) :
    (caseLeaves s).resetLow = s.resetLow ∧ (caseLeaves s).now = s.now ∧ (caseLeaves s).pins = s.pins ∧
    (caseLeaves s).sht = s.sht ∧ (caseLeaves s).gtu = s.gtu ∧ (caseLeaves s).stc = s.stc ∧
    (caseLeaves s).sli = s.sli ∧ (caseLeaves s).prt = s.prt ∧ (caseLeaves s).pgs = s.pgs ∧
    (caseLeaves s).ssq = s.ssq ∧ (caseLeaves s).pnc = s.pnc ∧ (caseLeaves s).sgv = s.sgv ∧
    (caseLeaves s).thm = s.thm ∧ (caseLeaves s).hsc = s.hsc := by
  simp only [caseLeaves]
  (repeat' split) <;> simp

@[simp] theorem tryStep_frame (s : Station) :
    (tryStep s).resetLow = s.resetLow ∧ (tryStep s).now = s.now ∧ (tryStep s).pins = s.pins ∧
    (tryStep s).sht = s.sht ∧ (tryStep s).gtu = s.gtu ∧ (tryStep s).stc = s.stc ∧ (tryStep s).sli = s.sli ∧
    (tryStep s).prt = s.prt ∧ (tryStep s).pgs = s.pgs ∧ (tryStep s).ssq = s.ssq ∧ (tryStep s).pnc = s.pnc ∧
    (tryStep s).sgv = s.sgv ∧ (tryStep s).thm = s.thm ∧ (tryStep s).hsc = s.hsc := by
  simp only [tryStep]
  (repeat' split) <;> simp

@[simp] theorem withdrawHead_frame (s : Station) :
    (withdrawHead s).resetLow = s.resetLow ∧ (withdrawHead s).now = s.now ∧ (withdrawHead s).pins = s.pins ∧
    (withdrawHead s).sht = s.sht ∧ (withdrawHead s).gtu = s.gtu ∧ (withdrawHead s).stc.addr = s.stc.addr ∧
    (withdrawHead s).stc.headRole = s.stc.headRole ∧ (withdrawHead s).stc.frameRole = s.stc.frameRole ∧
    (withdrawHead s).stc.lock = s.stc.lock ∧ (withdrawHead s).stc.roster = s.stc.roster ∧
    (withdrawHead s).stc.timing = s.stc.timing ∧ (withdrawHead s).stc.motion = s.stc.motion ∧
    (withdrawHead s).stc.thread = s.stc.thread ∧ (withdrawHead s).stc.joinTimer = s.stc.joinTimer ∧
    (withdrawHead s).stc.lastRefusal = s.stc.lastRefusal ∧ (withdrawHead s).sli = s.sli ∧
    (withdrawHead s).prt = s.prt ∧ (withdrawHead s).pgs = s.pgs ∧ (withdrawHead s).ssq = s.ssq ∧
    (withdrawHead s).pnc = s.pnc ∧ (withdrawHead s).sgv = s.sgv ∧ (withdrawHead s).thm = s.thm ∧
    (withdrawHead s).hsc.mark = s.hsc.mark := by simp [withdrawHead]

@[simp] theorem enterHalted_frame (s : Station) :
    (enterHalted s).resetLow = s.resetLow ∧ (enterHalted s).now = s.now ∧ (enterHalted s).pins = s.pins ∧
    (enterHalted s).sht = s.sht ∧ (enterHalted s).gtu = s.gtu ∧ (enterHalted s).stc.addr = s.stc.addr ∧
    (enterHalted s).stc.headRole = s.stc.headRole ∧ (enterHalted s).stc.frameRole = s.stc.frameRole ∧
    (enterHalted s).stc.lock = s.stc.lock ∧ (enterHalted s).stc.roster = s.stc.roster ∧
    (enterHalted s).stc.timing = s.stc.timing ∧ (enterHalted s).stc.motion = s.stc.motion ∧
    (enterHalted s).stc.thread = s.stc.thread ∧ (enterHalted s).stc.joinTimer = s.stc.joinTimer ∧
    (enterHalted s).stc.lastRefusal = s.stc.lastRefusal ∧ (enterHalted s).prt = s.prt ∧ (enterHalted s).pgs = s.pgs ∧
    (enterHalted s).ssq = s.ssq ∧ (enterHalted s).pnc = s.pnc ∧ (enterHalted s).ncc = s.ncc ∧
    (enterHalted s).thm = s.thm ∧ (enterHalted s).hsc = s.hsc := by simp [enterHalted]

@[simp] theorem returnToFormer_frame (s : Station) :
    (returnToFormer s).resetLow = s.resetLow ∧ (returnToFormer s).now = s.now ∧ (returnToFormer s).pins = s.pins ∧
    (returnToFormer s).sht = s.sht ∧ (returnToFormer s).gtu = s.gtu ∧ (returnToFormer s).stc.addr = s.stc.addr ∧
    (returnToFormer s).stc.headRole = s.stc.headRole ∧ (returnToFormer s).stc.frameRole = s.stc.frameRole ∧
    (returnToFormer s).stc.lock = s.stc.lock ∧ (returnToFormer s).stc.roster = s.stc.roster ∧
    (returnToFormer s).stc.timing = s.stc.timing ∧ (returnToFormer s).stc.motion = s.stc.motion ∧
    (returnToFormer s).stc.thread = s.stc.thread ∧ (returnToFormer s).stc.joinTimer = s.stc.joinTimer ∧
    (returnToFormer s).stc.lastRefusal = s.stc.lastRefusal ∧ (returnToFormer s).prt = s.prt ∧
    (returnToFormer s).pgs = s.pgs ∧ (returnToFormer s).ssq = s.ssq ∧ (returnToFormer s).pnc = s.pnc ∧
    (returnToFormer s).thm = s.thm ∧ (returnToFormer s).hsc = s.hsc := by
  simp only [returnToFormer]
  (repeat' split) <;> simp

@[simp] theorem armedFault_frame (fr : FaultRecord) (s : Station) :
    (armedFault fr s).resetLow = s.resetLow ∧ (armedFault fr s).now = s.now ∧ (armedFault fr s).pins = s.pins ∧
    (armedFault fr s).sht = s.sht ∧ (armedFault fr s).gtu = s.gtu ∧ (armedFault fr s).stc.addr = s.stc.addr ∧
    (armedFault fr s).stc.headRole = s.stc.headRole ∧ (armedFault fr s).stc.frameRole = s.stc.frameRole ∧
    (armedFault fr s).stc.lock = s.stc.lock ∧ (armedFault fr s).stc.roster = s.stc.roster ∧
    (armedFault fr s).stc.timing = s.stc.timing ∧ (armedFault fr s).stc.motion = s.stc.motion ∧
    (armedFault fr s).stc.thread = s.stc.thread ∧ (armedFault fr s).stc.joinTimer = s.stc.joinTimer ∧
    (armedFault fr s).stc.lastRefusal = s.stc.lastRefusal ∧ (armedFault fr s).prt = s.prt ∧
    (armedFault fr s).pgs = s.pgs ∧ (armedFault fr s).ssq = s.ssq ∧ (armedFault fr s).pnc = s.pnc ∧
    (armedFault fr s).thm = s.thm ∧ (armedFault fr s).hsc = s.hsc := by
  simp only [armedFault]
  (repeat' split) <;> simp

@[simp] theorem armedHeadCheck_frame (s : Station) :
    (armedHeadCheck s).resetLow = s.resetLow ∧ (armedHeadCheck s).now = s.now ∧ (armedHeadCheck s).pins = s.pins ∧
    (armedHeadCheck s).sht = s.sht ∧ (armedHeadCheck s).gtu = s.gtu ∧ (armedHeadCheck s).stc.addr = s.stc.addr ∧
    (armedHeadCheck s).stc.headRole = s.stc.headRole ∧ (armedHeadCheck s).stc.frameRole = s.stc.frameRole ∧
    (armedHeadCheck s).stc.lock = s.stc.lock ∧ (armedHeadCheck s).stc.roster = s.stc.roster ∧
    (armedHeadCheck s).stc.timing = s.stc.timing ∧ (armedHeadCheck s).stc.motion = s.stc.motion ∧
    (armedHeadCheck s).stc.thread = s.stc.thread ∧ (armedHeadCheck s).stc.joinTimer = s.stc.joinTimer ∧
    (armedHeadCheck s).stc.lastRefusal = s.stc.lastRefusal ∧ (armedHeadCheck s).prt = s.prt ∧
    (armedHeadCheck s).pgs = s.pgs ∧ (armedHeadCheck s).ssq = s.ssq ∧ (armedHeadCheck s).pnc = s.pnc ∧
    (armedHeadCheck s).thm = s.thm ∧ (armedHeadCheck s).hsc = s.hsc := by
  simp only [armedHeadCheck]
  (repeat' split) <;> simp

@[simp] theorem armedHeadFault_frame (fr : FaultRecord) (s : Station) :
    (armedHeadFault fr s).resetLow = s.resetLow ∧ (armedHeadFault fr s).now = s.now ∧
    (armedHeadFault fr s).pins = s.pins ∧ (armedHeadFault fr s).sht = s.sht ∧ (armedHeadFault fr s).gtu = s.gtu ∧
    (armedHeadFault fr s).stc.addr = s.stc.addr ∧ (armedHeadFault fr s).stc.headRole = s.stc.headRole ∧
    (armedHeadFault fr s).stc.frameRole = s.stc.frameRole ∧ (armedHeadFault fr s).stc.lock = s.stc.lock ∧
    (armedHeadFault fr s).stc.roster = s.stc.roster ∧ (armedHeadFault fr s).stc.timing = s.stc.timing ∧
    (armedHeadFault fr s).stc.motion = s.stc.motion ∧ (armedHeadFault fr s).stc.thread = s.stc.thread ∧
    (armedHeadFault fr s).stc.joinTimer = s.stc.joinTimer ∧
    (armedHeadFault fr s).stc.lastRefusal = s.stc.lastRefusal ∧ (armedHeadFault fr s).prt = s.prt ∧
    (armedHeadFault fr s).pgs = s.pgs ∧ (armedHeadFault fr s).ssq = s.ssq ∧ (armedHeadFault fr s).pnc = s.pnc ∧
    (armedHeadFault fr s).thm = s.thm ∧ (armedHeadFault fr s).hsc.mark = s.hsc.mark := by
  simp only [armedHeadFault]
  (repeat' split) <;> simp

@[simp] theorem armPeers_frame (s : Station) :
    (armPeers s).resetLow = s.resetLow ∧ (armPeers s).now = s.now ∧ (armPeers s).pins = s.pins ∧
    (armPeers s).sht = s.sht ∧ (armPeers s).gtu = s.gtu ∧ (armPeers s).stc.addr = s.stc.addr ∧
    (armPeers s).stc.headRole = s.stc.headRole ∧ (armPeers s).stc.frameRole = s.stc.frameRole ∧
    (armPeers s).stc.lock = s.stc.lock ∧ (armPeers s).stc.roster = s.stc.roster ∧
    (armPeers s).stc.timing = s.stc.timing ∧ (armPeers s).stc.motion = s.stc.motion ∧
    (armPeers s).stc.thread = s.stc.thread ∧ (armPeers s).stc.joinTimer = s.stc.joinTimer ∧
    (armPeers s).stc.lastRefusal = s.stc.lastRefusal ∧ (armPeers s).prt = s.prt ∧ (armPeers s).pgs = s.pgs ∧
    (armPeers s).ssq = s.ssq ∧ (armPeers s).pnc = s.pnc ∧ (armPeers s).thm = s.thm ∧ (armPeers s).hsc = s.hsc := by
  simp only [armPeers]
  (repeat' split) <;> simp

@[simp] theorem armCase_frame (s : Station) :
    (armCase s).resetLow = s.resetLow ∧ (armCase s).now = s.now ∧ (armCase s).pins = s.pins ∧
    (armCase s).sht = s.sht ∧ (armCase s).gtu = s.gtu ∧ (armCase s).stc.addr = s.stc.addr ∧
    (armCase s).stc.headRole = s.stc.headRole ∧ (armCase s).stc.frameRole = s.stc.frameRole ∧
    (armCase s).stc.lock = s.stc.lock ∧ (armCase s).stc.roster = s.stc.roster ∧
    (armCase s).stc.timing = s.stc.timing ∧ (armCase s).stc.motion = s.stc.motion ∧
    (armCase s).stc.thread = s.stc.thread ∧ (armCase s).stc.joinTimer = s.stc.joinTimer ∧
    (armCase s).stc.lastRefusal = s.stc.lastRefusal ∧ (armCase s).prt = s.prt ∧ (armCase s).pgs = s.pgs ∧
    (armCase s).ssq = s.ssq ∧ (armCase s).pnc = s.pnc ∧ (armCase s).thm = s.thm ∧ (armCase s).hsc.mark = s.hsc.mark := by
  simp only [armCase]
  (repeat' split) <;> simp

@[simp] theorem armField_frame (s : Station) :
    (armField s).resetLow = s.resetLow ∧ (armField s).now = s.now ∧ (armField s).pins = s.pins ∧
    (armField s).sht = s.sht ∧ (armField s).gtu = s.gtu ∧ (armField s).stc.addr = s.stc.addr ∧
    (armField s).stc.headRole = s.stc.headRole ∧ (armField s).stc.frameRole = s.stc.frameRole ∧
    (armField s).stc.lock = s.stc.lock ∧ (armField s).stc.roster = s.stc.roster ∧
    (armField s).stc.timing = s.stc.timing ∧ (armField s).stc.motion = s.stc.motion ∧
    (armField s).stc.thread = s.stc.thread ∧ (armField s).stc.joinTimer = s.stc.joinTimer ∧
    (armField s).stc.lastRefusal = s.stc.lastRefusal ∧ (armField s).prt = s.prt ∧ (armField s).pgs = s.pgs ∧
    (armField s).ssq = s.ssq ∧ (armField s).thm = s.thm ∧ (armField s).hsc = s.hsc := by
  simp only [armField]
  (repeat' split) <;> simp

@[simp] theorem armDrive_frame (s : Station) :
    (armDrive s).resetLow = s.resetLow ∧ (armDrive s).now = s.now ∧ (armDrive s).pins = s.pins ∧
    (armDrive s).sht = s.sht ∧ (armDrive s).gtu = s.gtu ∧ (armDrive s).stc.addr = s.stc.addr ∧
    (armDrive s).stc.headRole = s.stc.headRole ∧ (armDrive s).stc.frameRole = s.stc.frameRole ∧
    (armDrive s).stc.lock = s.stc.lock ∧ (armDrive s).stc.roster = s.stc.roster ∧
    (armDrive s).stc.timing = s.stc.timing ∧ (armDrive s).stc.motion = s.stc.motion ∧
    (armDrive s).stc.thread = s.stc.thread ∧ (armDrive s).stc.joinTimer = s.stc.joinTimer ∧
    (armDrive s).stc.lastRefusal = s.stc.lastRefusal ∧ (armDrive s).prt = s.prt ∧ (armDrive s).pgs = s.pgs ∧
    (armDrive s).ssq = s.ssq ∧ (armDrive s).pnc = s.pnc ∧ (armDrive s).thm = s.thm ∧ (armDrive s).hsc = s.hsc := by
  simp only [armDrive]
  (repeat' split) <;> simp

@[simp] theorem whileArmed_armPeers_frame (s : Station) :
    (whileArmed armPeers s).resetLow = s.resetLow ∧ (whileArmed armPeers s).now = s.now ∧ (whileArmed armPeers s).pins = s.pins ∧
    (whileArmed armPeers s).sht = s.sht ∧ (whileArmed armPeers s).gtu = s.gtu ∧ (whileArmed armPeers s).stc.addr = s.stc.addr ∧
    (whileArmed armPeers s).stc.headRole = s.stc.headRole ∧ (whileArmed armPeers s).stc.frameRole = s.stc.frameRole ∧
    (whileArmed armPeers s).stc.lock = s.stc.lock ∧ (whileArmed armPeers s).stc.roster = s.stc.roster ∧
    (whileArmed armPeers s).stc.timing = s.stc.timing ∧ (whileArmed armPeers s).stc.motion = s.stc.motion ∧
    (whileArmed armPeers s).stc.thread = s.stc.thread ∧ (whileArmed armPeers s).stc.joinTimer = s.stc.joinTimer ∧
    (whileArmed armPeers s).stc.lastRefusal = s.stc.lastRefusal ∧ (whileArmed armPeers s).prt = s.prt ∧ (whileArmed armPeers s).pgs = s.pgs ∧
    (whileArmed armPeers s).ssq = s.ssq ∧ (whileArmed armPeers s).pnc = s.pnc ∧ (whileArmed armPeers s).thm = s.thm ∧ (whileArmed armPeers s).hsc = s.hsc := by
  simp only [whileArmed]
  split <;> simp

@[simp] theorem whileArmed_armCase_frame (s : Station) :
    (whileArmed armCase s).resetLow = s.resetLow ∧ (whileArmed armCase s).now = s.now ∧ (whileArmed armCase s).pins = s.pins ∧
    (whileArmed armCase s).sht = s.sht ∧ (whileArmed armCase s).gtu = s.gtu ∧ (whileArmed armCase s).stc.addr = s.stc.addr ∧
    (whileArmed armCase s).stc.headRole = s.stc.headRole ∧ (whileArmed armCase s).stc.frameRole = s.stc.frameRole ∧
    (whileArmed armCase s).stc.lock = s.stc.lock ∧ (whileArmed armCase s).stc.roster = s.stc.roster ∧
    (whileArmed armCase s).stc.timing = s.stc.timing ∧ (whileArmed armCase s).stc.motion = s.stc.motion ∧
    (whileArmed armCase s).stc.thread = s.stc.thread ∧ (whileArmed armCase s).stc.joinTimer = s.stc.joinTimer ∧
    (whileArmed armCase s).stc.lastRefusal = s.stc.lastRefusal ∧ (whileArmed armCase s).prt = s.prt ∧ (whileArmed armCase s).pgs = s.pgs ∧
    (whileArmed armCase s).ssq = s.ssq ∧ (whileArmed armCase s).pnc = s.pnc ∧ (whileArmed armCase s).thm = s.thm ∧ (whileArmed armCase s).hsc.mark = s.hsc.mark := by
  simp only [whileArmed]
  split <;> simp

@[simp] theorem whileArmed_armField_frame (s : Station) :
    (whileArmed armField s).resetLow = s.resetLow ∧ (whileArmed armField s).now = s.now ∧ (whileArmed armField s).pins = s.pins ∧
    (whileArmed armField s).sht = s.sht ∧ (whileArmed armField s).gtu = s.gtu ∧ (whileArmed armField s).stc.addr = s.stc.addr ∧
    (whileArmed armField s).stc.headRole = s.stc.headRole ∧ (whileArmed armField s).stc.frameRole = s.stc.frameRole ∧
    (whileArmed armField s).stc.lock = s.stc.lock ∧ (whileArmed armField s).stc.roster = s.stc.roster ∧
    (whileArmed armField s).stc.timing = s.stc.timing ∧ (whileArmed armField s).stc.motion = s.stc.motion ∧
    (whileArmed armField s).stc.thread = s.stc.thread ∧ (whileArmed armField s).stc.joinTimer = s.stc.joinTimer ∧
    (whileArmed armField s).stc.lastRefusal = s.stc.lastRefusal ∧ (whileArmed armField s).prt = s.prt ∧ (whileArmed armField s).pgs = s.pgs ∧
    (whileArmed armField s).ssq = s.ssq ∧ (whileArmed armField s).thm = s.thm ∧ (whileArmed armField s).hsc = s.hsc := by
  simp only [whileArmed]
  split <;> simp

@[simp] theorem whileArmed_armDrive_frame (s : Station) :
    (whileArmed armDrive s).resetLow = s.resetLow ∧ (whileArmed armDrive s).now = s.now ∧ (whileArmed armDrive s).pins = s.pins ∧
    (whileArmed armDrive s).sht = s.sht ∧ (whileArmed armDrive s).gtu = s.gtu ∧ (whileArmed armDrive s).stc.addr = s.stc.addr ∧
    (whileArmed armDrive s).stc.headRole = s.stc.headRole ∧ (whileArmed armDrive s).stc.frameRole = s.stc.frameRole ∧
    (whileArmed armDrive s).stc.lock = s.stc.lock ∧ (whileArmed armDrive s).stc.roster = s.stc.roster ∧
    (whileArmed armDrive s).stc.timing = s.stc.timing ∧ (whileArmed armDrive s).stc.motion = s.stc.motion ∧
    (whileArmed armDrive s).stc.thread = s.stc.thread ∧ (whileArmed armDrive s).stc.joinTimer = s.stc.joinTimer ∧
    (whileArmed armDrive s).stc.lastRefusal = s.stc.lastRefusal ∧ (whileArmed armDrive s).prt = s.prt ∧ (whileArmed armDrive s).pgs = s.pgs ∧
    (whileArmed armDrive s).ssq = s.ssq ∧ (whileArmed armDrive s).pnc = s.pnc ∧ (whileArmed armDrive s).thm = s.thm ∧ (whileArmed armDrive s).hsc = s.hsc := by
  simp only [whileArmed]
  split <;> simp

@[simp] theorem whileArmed_armedHeadCheck_frame (s : Station) :
    (whileArmed armedHeadCheck s).resetLow = s.resetLow ∧ (whileArmed armedHeadCheck s).now = s.now ∧ (whileArmed armedHeadCheck s).pins = s.pins ∧
    (whileArmed armedHeadCheck s).sht = s.sht ∧ (whileArmed armedHeadCheck s).gtu = s.gtu ∧ (whileArmed armedHeadCheck s).stc.addr = s.stc.addr ∧
    (whileArmed armedHeadCheck s).stc.headRole = s.stc.headRole ∧ (whileArmed armedHeadCheck s).stc.frameRole = s.stc.frameRole ∧
    (whileArmed armedHeadCheck s).stc.lock = s.stc.lock ∧ (whileArmed armedHeadCheck s).stc.roster = s.stc.roster ∧
    (whileArmed armedHeadCheck s).stc.timing = s.stc.timing ∧ (whileArmed armedHeadCheck s).stc.motion = s.stc.motion ∧
    (whileArmed armedHeadCheck s).stc.thread = s.stc.thread ∧ (whileArmed armedHeadCheck s).stc.joinTimer = s.stc.joinTimer ∧
    (whileArmed armedHeadCheck s).stc.lastRefusal = s.stc.lastRefusal ∧ (whileArmed armedHeadCheck s).prt = s.prt ∧
    (whileArmed armedHeadCheck s).pgs = s.pgs ∧ (whileArmed armedHeadCheck s).ssq = s.ssq ∧ (whileArmed armedHeadCheck s).pnc = s.pnc ∧
    (whileArmed armedHeadCheck s).thm = s.thm ∧ (whileArmed armedHeadCheck s).hsc = s.hsc := by
  simp only [whileArmed]
  split <;> simp

@[simp] theorem enterArmed_frame (former : Former) (s : Station) :
    (enterArmed former s).resetLow = s.resetLow ∧ (enterArmed former s).now = s.now ∧
    (enterArmed former s).pins = s.pins ∧ (enterArmed former s).sht = s.sht ∧ (enterArmed former s).gtu = s.gtu ∧
    (enterArmed former s).stc.addr = s.stc.addr ∧ (enterArmed former s).stc.headRole = s.stc.headRole ∧
    (enterArmed former s).stc.frameRole = s.stc.frameRole ∧ (enterArmed former s).stc.lock = s.stc.lock ∧
    (enterArmed former s).stc.roster = s.stc.roster ∧ (enterArmed former s).stc.timing = s.stc.timing ∧
    (enterArmed former s).stc.motion = s.stc.motion ∧ (enterArmed former s).stc.thread = s.stc.thread ∧
    (enterArmed former s).stc.joinTimer = s.stc.joinTimer ∧
    (enterArmed former s).stc.lastRefusal = s.stc.lastRefusal ∧ (enterArmed former s).prt = s.prt ∧
    (enterArmed former s).pgs = s.pgs ∧ (enterArmed former s).ssq = s.ssq ∧ (enterArmed former s).thm = s.thm ∧
    (enterArmed former s).hsc.mark = s.hsc.mark := by
  simp only [enterArmed]
  split <;> simp

@[simp] theorem leaveHalting_frame (s : Station) :
    (leaveHalting s).resetLow = s.resetLow ∧ (leaveHalting s).now = s.now ∧ (leaveHalting s).pins = s.pins ∧
    (leaveHalting s).sht = s.sht ∧ (leaveHalting s).gtu = s.gtu ∧ (leaveHalting s).stc.addr = s.stc.addr ∧
    (leaveHalting s).stc.headRole = s.stc.headRole ∧ (leaveHalting s).stc.frameRole = s.stc.frameRole ∧
    (leaveHalting s).stc.lock = s.stc.lock ∧ (leaveHalting s).stc.roster = s.stc.roster ∧
    (leaveHalting s).stc.timing = s.stc.timing ∧ (leaveHalting s).stc.motion = s.stc.motion ∧
    (leaveHalting s).stc.thread = s.stc.thread ∧ (leaveHalting s).stc.joinTimer = s.stc.joinTimer ∧
    (leaveHalting s).stc.lastRefusal = s.stc.lastRefusal ∧ (leaveHalting s).prt = s.prt ∧
    (leaveHalting s).pgs = s.pgs ∧ (leaveHalting s).ssq = s.ssq ∧ (leaveHalting s).thm = s.thm ∧
    (leaveHalting s).hsc.mark = s.hsc.mark := by
  simp only [leaveHalting]
  (repeat' split) <;> simp

@[simp] theorem enterHalting_frame (reason : HaltReason) (s : Station) :
    (enterHalting reason s).resetLow = s.resetLow ∧ (enterHalting reason s).now = s.now ∧
    (enterHalting reason s).pins = s.pins ∧ (enterHalting reason s).sht = s.sht ∧
    (enterHalting reason s).stc.addr = s.stc.addr ∧ (enterHalting reason s).stc.headRole = s.stc.headRole ∧
    (enterHalting reason s).stc.frameRole = s.stc.frameRole ∧ (enterHalting reason s).stc.lock = s.stc.lock ∧
    (enterHalting reason s).stc.roster = s.stc.roster ∧ (enterHalting reason s).stc.timing = s.stc.timing ∧
    (enterHalting reason s).stc.motion = s.stc.motion ∧ (enterHalting reason s).stc.thread = s.stc.thread ∧
    (enterHalting reason s).stc.joinTimer = s.stc.joinTimer ∧
    (enterHalting reason s).stc.lastRefusal = s.stc.lastRefusal ∧ (enterHalting reason s).prt = s.prt ∧
    (enterHalting reason s).pgs = s.pgs ∧ (enterHalting reason s).ssq = s.ssq ∧ (enterHalting reason s).thm = s.thm ∧
    (enterHalting reason s).hsc.mark = s.hsc.mark := by
  simp only [enterHalting]
  (repeat' split) <;> simp

@[simp] theorem haltCause_frame (reason : HaltReason) (s : Station) :
    (haltCause reason s).resetLow = s.resetLow ∧ (haltCause reason s).now = s.now ∧
    (haltCause reason s).pins = s.pins ∧ (haltCause reason s).sht = s.sht ∧
    (haltCause reason s).stc.addr = s.stc.addr ∧ (haltCause reason s).stc.headRole = s.stc.headRole ∧
    (haltCause reason s).stc.frameRole = s.stc.frameRole ∧ (haltCause reason s).stc.lock = s.stc.lock ∧
    (haltCause reason s).stc.roster = s.stc.roster ∧ (haltCause reason s).stc.timing = s.stc.timing ∧
    (haltCause reason s).stc.motion = s.stc.motion ∧ (haltCause reason s).stc.thread = s.stc.thread ∧
    (haltCause reason s).stc.joinTimer = s.stc.joinTimer ∧ (haltCause reason s).stc.lastRefusal = s.stc.lastRefusal ∧
    (haltCause reason s).prt = s.prt ∧ (haltCause reason s).pgs = s.pgs ∧ (haltCause reason s).ssq = s.ssq ∧
    (haltCause reason s).thm = s.thm ∧ (haltCause reason s).hsc.mark = s.hsc.mark := by
  simp only [haltCause]
  (repeat' split) <;> simp

@[simp] theorem fault_frame (fr : FaultRecord) (s : Station) :
    (fault fr s).resetLow = s.resetLow ∧ (fault fr s).now = s.now ∧ (fault fr s).pins = s.pins ∧
    (fault fr s).sht = s.sht ∧ (fault fr s).stc.addr = s.stc.addr ∧ (fault fr s).stc.headRole = s.stc.headRole ∧
    (fault fr s).stc.frameRole = s.stc.frameRole ∧ (fault fr s).stc.lock = s.stc.lock ∧
    (fault fr s).stc.roster = s.stc.roster ∧ (fault fr s).stc.timing = s.stc.timing ∧
    (fault fr s).stc.motion = s.stc.motion ∧ (fault fr s).stc.thread = s.stc.thread ∧
    (fault fr s).stc.joinTimer = s.stc.joinTimer ∧ (fault fr s).stc.lastRefusal = s.stc.lastRefusal ∧
    (fault fr s).prt = s.prt ∧ (fault fr s).pgs = s.pgs ∧ (fault fr s).ssq = s.ssq ∧ (fault fr s).thm = s.thm ∧
    (fault fr s).hsc.mark = s.hsc.mark := by simp [fault]

@[simp] theorem headCheck_frame (s : Station) :
    (headCheck s).resetLow = s.resetLow ∧ (headCheck s).now = s.now ∧ (headCheck s).pins = s.pins ∧
    (headCheck s).sht = s.sht ∧ (headCheck s).stc.addr = s.stc.addr ∧ (headCheck s).stc.headRole = s.stc.headRole ∧
    (headCheck s).stc.frameRole = s.stc.frameRole ∧ (headCheck s).stc.lock = s.stc.lock ∧
    (headCheck s).stc.roster = s.stc.roster ∧ (headCheck s).stc.timing = s.stc.timing ∧
    (headCheck s).stc.motion = s.stc.motion ∧ (headCheck s).stc.thread = s.stc.thread ∧
    (headCheck s).stc.joinTimer = s.stc.joinTimer ∧ (headCheck s).stc.lastRefusal = s.stc.lastRefusal ∧
    (headCheck s).prt = s.prt ∧ (headCheck s).pgs = s.pgs ∧ (headCheck s).ssq = s.ssq ∧ (headCheck s).thm = s.thm ∧
    (headCheck s).hsc.mark = s.hsc.mark := by
  simp only [headCheck]
  (repeat' split) <;> simp

@[simp] theorem headFault_frame (fr : FaultRecord) (s : Station) :
    (headFault fr s).resetLow = s.resetLow ∧ (headFault fr s).now = s.now ∧ (headFault fr s).pins = s.pins ∧
    (headFault fr s).sht = s.sht ∧ (headFault fr s).stc.addr = s.stc.addr ∧
    (headFault fr s).stc.headRole = s.stc.headRole ∧ (headFault fr s).stc.frameRole = s.stc.frameRole ∧
    (headFault fr s).stc.lock = s.stc.lock ∧ (headFault fr s).stc.roster = s.stc.roster ∧
    (headFault fr s).stc.timing = s.stc.timing ∧ (headFault fr s).stc.motion = s.stc.motion ∧
    (headFault fr s).stc.thread = s.stc.thread ∧ (headFault fr s).stc.joinTimer = s.stc.joinTimer ∧
    (headFault fr s).stc.lastRefusal = s.stc.lastRefusal ∧ (headFault fr s).prt = s.prt ∧
    (headFault fr s).pgs = s.pgs ∧ (headFault fr s).ssq = s.ssq ∧ (headFault fr s).thm = s.thm ∧
    (headFault fr s).hsc.mark = s.hsc.mark := by
  simp only [headFault]
  (repeat' split) <;> simp

@[simp] theorem writeDeferred_frame (s : Station) :
    (writeDeferred s).resetLow = s.resetLow ∧ (writeDeferred s).now = s.now ∧ (writeDeferred s).pins = s.pins ∧
    (writeDeferred s).sht = s.sht ∧ (writeDeferred s).stc.addr = s.stc.addr ∧
    (writeDeferred s).stc.headRole = s.stc.headRole ∧ (writeDeferred s).stc.frameRole = s.stc.frameRole ∧
    (writeDeferred s).stc.lock = s.stc.lock ∧ (writeDeferred s).stc.roster = s.stc.roster ∧
    (writeDeferred s).stc.timing = s.stc.timing ∧ (writeDeferred s).stc.motion = s.stc.motion ∧
    (writeDeferred s).stc.thread = s.stc.thread ∧ (writeDeferred s).stc.joinTimer = s.stc.joinTimer ∧
    (writeDeferred s).stc.lastRefusal = s.stc.lastRefusal ∧ (writeDeferred s).prt = s.prt ∧
    (writeDeferred s).pgs = s.pgs ∧ (writeDeferred s).ssq = s.ssq ∧ (writeDeferred s).thm = s.thm ∧
    (writeDeferred s).hsc.mark = s.hsc.mark := by
  simp only [writeDeferred]
  (repeat' split) <;> simp

@[simp] theorem recomputeFinding_frame (s : Station) :
    (recomputeFinding s).resetLow = s.resetLow ∧ (recomputeFinding s).now = s.now ∧
    (recomputeFinding s).pins = s.pins ∧ (recomputeFinding s).sht = s.sht ∧
    (recomputeFinding s).stc.addr = s.stc.addr ∧ (recomputeFinding s).stc.headRole = s.stc.headRole ∧
    (recomputeFinding s).stc.frameRole = s.stc.frameRole ∧ (recomputeFinding s).stc.lock = s.stc.lock ∧
    (recomputeFinding s).stc.roster = s.stc.roster ∧ (recomputeFinding s).stc.timing = s.stc.timing ∧
    (recomputeFinding s).stc.motion = s.stc.motion ∧ (recomputeFinding s).stc.thread = s.stc.thread ∧
    (recomputeFinding s).stc.joinTimer = s.stc.joinTimer ∧ (recomputeFinding s).stc.lastRefusal = s.stc.lastRefusal ∧
    (recomputeFinding s).prt = s.prt ∧ (recomputeFinding s).pgs = s.pgs ∧ (recomputeFinding s).ssq = s.ssq ∧
    (recomputeFinding s).thm = s.thm ∧ (recomputeFinding s).hsc.mark = s.hsc.mark := by
  simp only [recomputeFinding]
  (repeat' split) <;> simp

@[simp] theorem shaftPosition_frame (s : Station) :
    (shaftPosition s).resetLow = s.resetLow ∧ (shaftPosition s).now = s.now ∧ (shaftPosition s).pins = s.pins ∧
    (shaftPosition s).sht = s.sht ∧ (shaftPosition s).stc.addr = s.stc.addr ∧
    (shaftPosition s).stc.headRole = s.stc.headRole ∧ (shaftPosition s).stc.frameRole = s.stc.frameRole ∧
    (shaftPosition s).stc.lock = s.stc.lock ∧ (shaftPosition s).stc.roster = s.stc.roster ∧
    (shaftPosition s).stc.timing = s.stc.timing ∧ (shaftPosition s).stc.motion = s.stc.motion ∧
    (shaftPosition s).stc.thread = s.stc.thread ∧ (shaftPosition s).stc.joinTimer = s.stc.joinTimer ∧
    (shaftPosition s).stc.lastRefusal = s.stc.lastRefusal ∧ (shaftPosition s).prt = s.prt ∧
    (shaftPosition s).pgs = s.pgs ∧ (shaftPosition s).ssq = s.ssq ∧ (shaftPosition s).thm = s.thm ∧
    (shaftPosition s).hsc.mark = s.hsc.mark := by
  simp only [shaftPosition]
  (repeat' split) <;> simp

@[simp] theorem creepOffTop_frame (s : Station) :
    (creepOffTop s).resetLow = s.resetLow ∧ (creepOffTop s).now = s.now ∧ (creepOffTop s).pins = s.pins ∧
    (creepOffTop s).sht = s.sht ∧ (creepOffTop s).stc.addr = s.stc.addr ∧
    (creepOffTop s).stc.headRole = s.stc.headRole ∧ (creepOffTop s).stc.frameRole = s.stc.frameRole ∧
    (creepOffTop s).stc.lock = s.stc.lock ∧ (creepOffTop s).stc.roster = s.stc.roster ∧
    (creepOffTop s).stc.timing = s.stc.timing ∧ (creepOffTop s).stc.motion = s.stc.motion ∧
    (creepOffTop s).stc.thread = s.stc.thread ∧ (creepOffTop s).stc.joinTimer = s.stc.joinTimer ∧
    (creepOffTop s).stc.lastRefusal = s.stc.lastRefusal ∧ (creepOffTop s).prt = s.prt ∧ (creepOffTop s).pgs = s.pgs ∧
    (creepOffTop s).ssq = s.ssq ∧ (creepOffTop s).thm = s.thm ∧ (creepOffTop s).hsc.mark = s.hsc.mark := by
  simp only [creepOffTop]
  (repeat' split) <;> simp

@[simp] theorem markRest_frame (s : Station) :
    (markRest s).resetLow = s.resetLow ∧ (markRest s).now = s.now ∧ (markRest s).pins = s.pins ∧
    (markRest s).sht = s.sht ∧ (markRest s).gtu = s.gtu ∧ (markRest s).stc = s.stc ∧ (markRest s).sli = s.sli ∧
    (markRest s).prt = s.prt ∧ (markRest s).pgs = s.pgs ∧ (markRest s).ssq = s.ssq ∧ (markRest s).pnc = s.pnc ∧
    (markRest s).ncc = s.ncc ∧ (markRest s).thm = s.thm ∧ (markRest s).hsc = s.hsc := by
  simp only [markRest]
  (repeat' split) <;> simp

@[simp] theorem creepAtRest_frame (s : Station) :
    (creepAtRest s).resetLow = s.resetLow ∧ (creepAtRest s).now = s.now ∧ (creepAtRest s).pins = s.pins ∧
    (creepAtRest s).sht = s.sht ∧ (creepAtRest s).stc.addr = s.stc.addr ∧
    (creepAtRest s).stc.headRole = s.stc.headRole ∧ (creepAtRest s).stc.frameRole = s.stc.frameRole ∧
    (creepAtRest s).stc.lock = s.stc.lock ∧ (creepAtRest s).stc.roster = s.stc.roster ∧
    (creepAtRest s).stc.timing = s.stc.timing ∧ (creepAtRest s).stc.motion = s.stc.motion ∧
    (creepAtRest s).stc.thread = s.stc.thread ∧ (creepAtRest s).stc.joinTimer = s.stc.joinTimer ∧
    (creepAtRest s).stc.lastRefusal = s.stc.lastRefusal ∧ (creepAtRest s).prt = s.prt ∧ (creepAtRest s).pgs = s.pgs ∧
    (creepAtRest s).ssq = s.ssq ∧ (creepAtRest s).thm = s.thm ∧ (creepAtRest s).hsc.mark = s.hsc.mark := by
  simp only [creepAtRest]
  (repeat' split) <;> simp

@[simp] theorem decideLead_frame (s : Station) :
    (decideLead s).resetLow = s.resetLow ∧ (decideLead s).now = s.now ∧ (decideLead s).pins = s.pins ∧
    (decideLead s).sht = s.sht ∧ (decideLead s).gtu = s.gtu ∧ (decideLead s).stc = s.stc ∧
    (decideLead s).sli = s.sli ∧ (decideLead s).prt = s.prt ∧ (decideLead s).pgs = s.pgs ∧
    (decideLead s).ssq = s.ssq ∧ (decideLead s).pnc = s.pnc ∧ (decideLead s).sgv = s.sgv ∧
    (decideLead s).ncc = s.ncc ∧ (decideLead s).thm = s.thm ∧ (decideLead s).hsc.mark = s.hsc.mark := by
  simp only [decideLead]
  (repeat' split) <;> simp

@[simp] theorem restartThread_frame (s : Station) :
    (restartThread s).resetLow = s.resetLow ∧ (restartThread s).now = s.now ∧ (restartThread s).pins = s.pins ∧
    (restartThread s).sht = s.sht ∧ (restartThread s).gtu = s.gtu ∧ (restartThread s).stc = s.stc ∧
    (restartThread s).sli = s.sli ∧ (restartThread s).prt = s.prt ∧ (restartThread s).pgs = s.pgs ∧
    (restartThread s).ssq = s.ssq ∧ (restartThread s).pnc = s.pnc ∧ (restartThread s).sgv = s.sgv ∧
    (restartThread s).ncc = s.ncc ∧ (restartThread s).thm.counts = s.thm.counts ∧
    (restartThread s).thm.service = s.thm.service ∧ (restartThread s).hsc = s.hsc := by
  simp only [restartThread]
  (repeat' split) <;> simp

@[simp] theorem clearMismatches_frame (s : Station) :
    (clearMismatches s).resetLow = s.resetLow ∧ (clearMismatches s).now = s.now ∧ (clearMismatches s).pins = s.pins ∧
    (clearMismatches s).sht = s.sht ∧ (clearMismatches s).gtu = s.gtu ∧ (clearMismatches s).stc = s.stc ∧
    (clearMismatches s).sli = s.sli ∧ (clearMismatches s).pgs = s.pgs ∧ (clearMismatches s).ssq = s.ssq ∧
    (clearMismatches s).pnc = s.pnc ∧ (clearMismatches s).sgv = s.sgv ∧ (clearMismatches s).ncc = s.ncc ∧
    (clearMismatches s).thm = s.thm ∧ (clearMismatches s).hsc = s.hsc := by simp [clearMismatches]

@[simp] theorem runPeerCheck_frame (s : Station) :
    (runPeerCheck s).resetLow = s.resetLow ∧ (runPeerCheck s).now = s.now ∧ (runPeerCheck s).pins = s.pins ∧
    (runPeerCheck s).sht = s.sht ∧ (runPeerCheck s).stc.addr = s.stc.addr ∧
    (runPeerCheck s).stc.headRole = s.stc.headRole ∧ (runPeerCheck s).stc.frameRole = s.stc.frameRole ∧
    (runPeerCheck s).stc.lock = s.stc.lock ∧ (runPeerCheck s).stc.roster = s.stc.roster ∧
    (runPeerCheck s).stc.timing = s.stc.timing ∧ (runPeerCheck s).stc.motion = s.stc.motion ∧
    (runPeerCheck s).stc.thread = s.stc.thread ∧ (runPeerCheck s).stc.joinTimer = s.stc.joinTimer ∧
    (runPeerCheck s).stc.lastRefusal = s.stc.lastRefusal ∧ (runPeerCheck s).prt = s.prt ∧
    (runPeerCheck s).pgs = s.pgs ∧ (runPeerCheck s).ssq = s.ssq ∧ (runPeerCheck s).thm = s.thm ∧
    (runPeerCheck s).hsc.mark = s.hsc.mark := by
  simp only [runPeerCheck]
  (repeat' split) <;> simp

@[simp] theorem runHeadCheck_frame (s : Station) :
    (runHeadCheck s).resetLow = s.resetLow ∧ (runHeadCheck s).now = s.now ∧ (runHeadCheck s).pins = s.pins ∧
    (runHeadCheck s).sht = s.sht ∧ (runHeadCheck s).stc.addr = s.stc.addr ∧
    (runHeadCheck s).stc.headRole = s.stc.headRole ∧ (runHeadCheck s).stc.frameRole = s.stc.frameRole ∧
    (runHeadCheck s).stc.lock = s.stc.lock ∧ (runHeadCheck s).stc.roster = s.stc.roster ∧
    (runHeadCheck s).stc.timing = s.stc.timing ∧ (runHeadCheck s).stc.motion = s.stc.motion ∧
    (runHeadCheck s).stc.thread = s.stc.thread ∧ (runHeadCheck s).stc.joinTimer = s.stc.joinTimer ∧
    (runHeadCheck s).stc.lastRefusal = s.stc.lastRefusal ∧ (runHeadCheck s).prt = s.prt ∧
    (runHeadCheck s).pgs = s.pgs ∧ (runHeadCheck s).ssq = s.ssq ∧ (runHeadCheck s).thm = s.thm ∧
    (runHeadCheck s).hsc.mark = s.hsc.mark := by
  simp only [runHeadCheck]
  (repeat' split) <;> simp

@[simp] theorem restCommit_frame (s : Station) :
    (restCommit s).resetLow = s.resetLow ∧ (restCommit s).now = s.now ∧ (restCommit s).pins = s.pins ∧
    (restCommit s).sht = s.sht ∧ (restCommit s).stc.addr = s.stc.addr ∧
    (restCommit s).stc.headRole = s.stc.headRole ∧ (restCommit s).stc.frameRole = s.stc.frameRole ∧
    (restCommit s).stc.lock = s.stc.lock ∧ (restCommit s).stc.roster = s.stc.roster ∧
    (restCommit s).stc.timing = s.stc.timing ∧ (restCommit s).stc.motion = s.stc.motion ∧
    (restCommit s).stc.thread = s.stc.thread ∧ (restCommit s).stc.joinTimer = s.stc.joinTimer ∧
    (restCommit s).stc.lastRefusal = s.stc.lastRefusal ∧ (restCommit s).pgs = s.pgs ∧ (restCommit s).ssq = s.ssq ∧
    (restCommit s).thm.counts = s.thm.counts ∧ (restCommit s).thm.service = s.thm.service ∧
    (restCommit s).hsc.mark = s.hsc.mark := by
  simp only [restCommit]
  (repeat' split) <;> simp

@[simp] theorem tryRestCommit_frame (s : Station) :
    (tryRestCommit s).resetLow = s.resetLow ∧ (tryRestCommit s).now = s.now ∧ (tryRestCommit s).pins = s.pins ∧
    (tryRestCommit s).sht = s.sht ∧ (tryRestCommit s).stc.addr = s.stc.addr ∧
    (tryRestCommit s).stc.headRole = s.stc.headRole ∧ (tryRestCommit s).stc.frameRole = s.stc.frameRole ∧
    (tryRestCommit s).stc.lock = s.stc.lock ∧ (tryRestCommit s).stc.roster = s.stc.roster ∧
    (tryRestCommit s).stc.timing = s.stc.timing ∧ (tryRestCommit s).stc.motion = s.stc.motion ∧
    (tryRestCommit s).stc.thread = s.stc.thread ∧ (tryRestCommit s).stc.joinTimer = s.stc.joinTimer ∧
    (tryRestCommit s).stc.lastRefusal = s.stc.lastRefusal ∧ (tryRestCommit s).pgs = s.pgs ∧
    (tryRestCommit s).ssq = s.ssq ∧ (tryRestCommit s).thm.counts = s.thm.counts ∧
    (tryRestCommit s).thm.service = s.thm.service ∧ (tryRestCommit s).hsc.mark = s.hsc.mark := by
  simp only [tryRestCommit]
  (repeat' split) <;> simp

@[simp] theorem pullLow_frame (s : Station) :
    (pullLow s).resetLow = s.resetLow ∧ (pullLow s).now = s.now ∧ (pullLow s).pins = s.pins ∧
    (pullLow s).sht = s.sht ∧ (pullLow s).stc = s.stc ∧ (pullLow s).sli = s.sli ∧ (pullLow s).prt = s.prt ∧
    (pullLow s).pgs = s.pgs ∧ (pullLow s).ssq = s.ssq ∧ (pullLow s).pnc = s.pnc ∧ (pullLow s).sgv = s.sgv ∧
    (pullLow s).ncc = s.ncc ∧ (pullLow s).thm = s.thm ∧ (pullLow s).hsc = s.hsc := by simp [pullLow]

@[simp] theorem takeLevel_frame (w : Pull) (s : Station) :
    (takeLevel w s).resetLow = s.resetLow ∧ (takeLevel w s).now = s.now ∧ (takeLevel w s).pins = s.pins ∧
    (takeLevel w s).sht = s.sht ∧ (takeLevel w s).stc = s.stc ∧ (takeLevel w s).sli = s.sli ∧
    (takeLevel w s).prt = s.prt ∧ (takeLevel w s).pgs = s.pgs ∧ (takeLevel w s).ssq = s.ssq ∧
    (takeLevel w s).pnc = s.pnc ∧ (takeLevel w s).sgv = s.sgv ∧ (takeLevel w s).ncc = s.ncc ∧
    (takeLevel w s).thm = s.thm ∧ (takeLevel w s).hsc = s.hsc := by cases w <;> simp [takeLevel]

@[simp] theorem changeDrive_frame (w : Pull) (s : Station) :
    (changeDrive w s).resetLow = s.resetLow ∧ (changeDrive w s).now = s.now ∧ (changeDrive w s).pins = s.pins ∧
    (changeDrive w s).sht = s.sht ∧ (changeDrive w s).stc = s.stc ∧ (changeDrive w s).sli = s.sli ∧
    (changeDrive w s).prt = s.prt ∧ (changeDrive w s).pgs = s.pgs ∧ (changeDrive w s).ssq = s.ssq ∧
    (changeDrive w s).pnc = s.pnc ∧ (changeDrive w s).sgv = s.sgv ∧ (changeDrive w s).ncc = s.ncc ∧
    (changeDrive w s).thm = s.thm ∧ (changeDrive w s).hsc = s.hsc := by
  simp only [changeDrive]
  (repeat' split) <;> simp

/-- All that the gate's drive can do (R13): with the drive at its wanted level nothing waits; a change that waits in an open
guard, or arises in one, leaves the drive; any other is driven at once. -/
theorem driveGate_cases (s : Station) :
    let w := wantedLevel s
    let e := s.setGtu { s.gtu with wanted := w }
    (s.gtu.drive = w ∧ driveGate s = e.setGtu { e.gtu with waits := none }) ∨
    (∃ g, s.gtu.drive ≠ w ∧ s.gtu.waits = some g ∧ guardOpen s g = true ∧ driveGate s = e) ∨
    (∃ g, s.gtu.drive ≠ w ∧ s.gtu.waits = none ∧ guardOf w s = some g ∧
      driveGate s = e.setGtu { e.gtu with waits := some g }) ∨
    (s.gtu.drive ≠ w ∧ (∀ g, s.gtu.waits = some g → guardOpen s g = false) ∧
      (s.gtu.waits = none → guardOf w s = none) ∧ driveGate s = takeLevel w e) := by
  intro w e
  have hg (g : Guard) : guardOpen e g = guardOpen s g := by cases g <;> rfl
  have ho : guardOf w e = guardOf w s := rfl
  by_cases hd : s.gtu.drive = w
  · exact .inl ⟨hd, if_pos hd⟩
  have hc : driveGate s = changeDrive w e := if_neg hd
  cases hw : s.gtu.waits with
  | some g =>
    have hx : changeDrive w e = if guardOpen e g then e else takeLevel w e := by
      simp only [changeDrive, show e.gtu.waits = some g from hw]
    rw [hg] at hx
    cases hx' : guardOpen s g with
    | true => exact .inr (.inl ⟨g, hd, rfl, hx', by rw [hc, hx, if_pos hx']⟩)
    | false =>
      refine .inr (.inr (.inr ⟨hd, ?_, nofun, by rw [hc, hx, hx']; rfl⟩))
      rintro _ ⟨⟩
      exact hx'
  | none =>
    cases hx : guardOf w s with
    | some g =>
      have hy : changeDrive w e = e.setGtu { e.gtu with waits := some g } := by
        simp only [changeDrive, show e.gtu.waits = none from hw, ho, hx]
      exact .inr (.inr (.inl ⟨g, hd, rfl, rfl, hc.trans hy⟩))
    | none =>
      have hy : changeDrive w e = takeLevel w e := by
        simp only [changeDrive, show e.gtu.waits = none from hw, ho, hx]
      exact .inr (.inr (.inr ⟨hd, nofun, fun _ => rfl, hc.trans hy⟩))

@[simp] theorem driveGate_frame (s : Station) :
    (driveGate s).resetLow = s.resetLow ∧ (driveGate s).now = s.now ∧ (driveGate s).pins = s.pins ∧
    (driveGate s).sht = s.sht ∧ (driveGate s).stc = s.stc ∧ (driveGate s).sli = s.sli ∧ (driveGate s).prt = s.prt ∧
    (driveGate s).pgs = s.pgs ∧ (driveGate s).ssq = s.ssq ∧ (driveGate s).pnc = s.pnc ∧ (driveGate s).sgv = s.sgv ∧
    (driveGate s).ncc = s.ncc ∧ (driveGate s).thm = s.thm ∧ (driveGate s).hsc = s.hsc := by
  simp only [driveGate]
  (repeat' split) <;> simp

@[simp] theorem resetFalls_frame (s : Station) :
    (resetFalls s).now = s.now ∧ (resetFalls s).pins = s.pins ∧ (resetFalls s).sht = s.sht ∧
    (resetFalls s).stc = s.stc ∧ (resetFalls s).prt = s.prt ∧ (resetFalls s).pgs = s.pgs ∧
    (resetFalls s).ssq.stitch = s.ssq.stitch ∧ (resetFalls s).thm = s.thm ∧ (resetFalls s).hsc.mark = s.hsc.mark := by simp [resetFalls]

@[simp] theorem toJoining_frame (clash : Bool) (s : Station) :
    (toJoining clash s).resetLow = s.resetLow ∧ (toJoining clash s).now = s.now ∧ (toJoining clash s).pins = s.pins ∧
    (toJoining clash s).sht = s.sht ∧ (toJoining clash s).sli = s.sli := by simp [toJoining]

@[simp] theorem stationReset_frame (s : Station) :
    (stationReset s).resetLow = s.resetLow ∧ (stationReset s).now = s.now ∧ (stationReset s).pins = s.pins ∧
    (stationReset s).sht = s.sht := by simp [stationReset]

@[simp] theorem addressClash_frame (s : Station) :
    (addressClash s).resetLow = s.resetLow ∧ (addressClash s).now = s.now ∧ (addressClash s).pins = s.pins ∧
    (addressClash s).sht = s.sht := by simp [addressClash]

/-- What closing a command leaves as it is: all but the gate's levels, a PENETRATE that is withdrawn, and the transmit slot. -/
@[simp] theorem finish_frame (before after : Station) :
    (finish before after).resetLow = after.resetLow ∧ (finish before after).now = after.now ∧ (finish before after).pins = after.pins ∧
    (finish before after).sht = after.sht ∧ (finish before after).stc = after.stc ∧ (finish before after).prt = after.prt ∧
    (finish before after).pgs = after.pgs ∧ (finish before after).ssq = after.ssq ∧ (finish before after).pnc = after.pnc ∧
    (finish before after).sgv = after.sgv ∧ (finish before after).ncc = after.ncc ∧ (finish before after).thm = after.thm ∧
    (finish before after).hsc = (holdIfUnfit after).hsc := by
  simp only [finish]
  split <;> simp

/-- A command that a live part takes answers a next state: its effect, closed, with the queue as it was. -/
theorem taken_live (s : State) (f : Station → Station) (h : s.dev.resetLow = false) :
    taken s f = .next { s with dev := finish s.dev (f s.dev) } := by
  simp [taken, h]

/-- The same for a command that carries input levels. -/
theorem takenPin_live (s : State) (pins : Pins) (f : Station → Station) (h : s.dev.resetLow = false) :
    takenPin s pins f = .next { s with dev := finish s.dev (f s.dev) } := by
  simp [takenPin, h]

end Sys2Proof.Machine
end

