-- ==== Sys2Proof/Laws/Walk.lean ====
section
/-! SUPPORT. Laws/Walk.lean: what walks and moves leave as they are: for each operation one lemma with every record, and
every item of a record it writes only in part, that it does not touch. -/

namespace Sys2Proof.Machine

@[simp] theorem moveStitch_frame (new : Nat) (s : Station) :
    (moveStitch new s).resetLow = s.resetLow ∧ (moveStitch new s).now = s.now ∧ (moveStitch new s).pins = s.pins ∧
    (moveStitch new s).sht = s.sht ∧ (moveStitch new s).gtu = s.gtu ∧ (moveStitch new s).stc = s.stc ∧
    (moveStitch new s).sli = s.sli ∧ (moveStitch new s).prt = s.prt ∧ (moveStitch new s).pnc = s.pnc ∧
    (moveStitch new s).sgv = s.sgv ∧ (moveStitch new s).ncc = s.ncc ∧ (moveStitch new s).thm = s.thm ∧
    (moveStitch new s).hsc = s.hsc := by
  simp only [moveStitch]
  (repeat' split) <;> simp

@[simp] theorem afterStitchChange_frame (s : Station) :
    (afterStitchChange s).resetLow = s.resetLow ∧ (afterStitchChange s).now = s.now ∧
    (afterStitchChange s).pins = s.pins ∧ (afterStitchChange s).sht = s.sht ∧
    (afterStitchChange s).stc.addr = s.stc.addr ∧ (afterStitchChange s).stc.headRole = s.stc.headRole ∧
    (afterStitchChange s).stc.frameRole = s.stc.frameRole ∧ (afterStitchChange s).stc.lock = s.stc.lock ∧
    (afterStitchChange s).stc.roster = s.stc.roster ∧ (afterStitchChange s).stc.timing = s.stc.timing ∧
    (afterStitchChange s).stc.motion = s.stc.motion ∧ (afterStitchChange s).stc.thread = s.stc.thread ∧
    (afterStitchChange s).stc.joinTimer = s.stc.joinTimer ∧
    (afterStitchChange s).stc.lastRefusal = s.stc.lastRefusal ∧ (afterStitchChange s).prt = s.prt ∧
    (afterStitchChange s).pgs = s.pgs ∧ (afterStitchChange s).ssq = s.ssq ∧
    (afterStitchChange s).thm.counts = s.thm.counts ∧ (afterStitchChange s).thm.service = s.thm.service ∧
    (afterStitchChange s).hsc.mark = s.hsc.mark := by
  simp only [afterStitchChange]
  (repeat' split) <;> simp

@[simp] theorem walkOver_frame (s : Station) :
    (walkOver s).resetLow = s.resetLow ∧ (walkOver s).now = s.now ∧ (walkOver s).pins = s.pins ∧
    (walkOver s).sht = s.sht ∧ (walkOver s).gtu = s.gtu ∧ (walkOver s).stc = s.stc ∧ (walkOver s).sli = s.sli ∧
    (walkOver s).prt = s.prt ∧ (walkOver s).pgs = s.pgs ∧ (walkOver s).ssq.stitch = s.ssq.stitch ∧
    (walkOver s).pnc = s.pnc ∧ (walkOver s).sgv = s.sgv ∧ (walkOver s).ncc = s.ncc ∧ (walkOver s).thm = s.thm ∧
    (walkOver s).hsc = s.hsc := by simp [walkOver]

@[simp] theorem walkEnds_frame (s : Station) :
    (walkEnds s).resetLow = s.resetLow ∧ (walkEnds s).now = s.now ∧ (walkEnds s).pins = s.pins ∧
    (walkEnds s).sht = s.sht ∧ (walkEnds s).gtu = s.gtu ∧ (walkEnds s).stc = s.stc ∧ (walkEnds s).sli = s.sli ∧
    (walkEnds s).prt = s.prt ∧ (walkEnds s).pgs = s.pgs ∧ (walkEnds s).ssq.stitch = s.ssq.stitch ∧
    (walkEnds s).sgv = s.sgv ∧ (walkEnds s).ncc = s.ncc ∧ (walkEnds s).thm = s.thm ∧ (walkEnds s).hsc = s.hsc := by
  simp only [walkEnds]
  (repeat' split) <;> simp

@[simp] theorem cutReport_frame (k : Walk) (w : Nat) (s : Station) :
    (cutReport k w s).resetLow = s.resetLow ∧ (cutReport k w s).now = s.now ∧ (cutReport k w s).pins = s.pins ∧
    (cutReport k w s).sht = s.sht ∧ (cutReport k w s).gtu = s.gtu ∧ (cutReport k w s).stc = s.stc ∧
    (cutReport k w s).sli = s.sli ∧ (cutReport k w s).prt = s.prt ∧ (cutReport k w s).pgs = s.pgs ∧
    (cutReport k w s).ssq.stitch = s.ssq.stitch ∧ (cutReport k w s).pnc = s.pnc ∧ (cutReport k w s).sgv = s.sgv ∧
    (cutReport k w s).ncc = s.ncc ∧ (cutReport k w s).thm = s.thm ∧ (cutReport k w s).hsc = s.hsc := by
  simp only [cutReport]
  (repeat' split) <;> simp

@[simp] theorem walkCutAt_frame (k : Walk) (s : Station) :
    (walkCutAt k s).resetLow = s.resetLow ∧ (walkCutAt k s).now = s.now ∧ (walkCutAt k s).pins = s.pins ∧
    (walkCutAt k s).sht = s.sht ∧ (walkCutAt k s).stc.addr = s.stc.addr ∧
    (walkCutAt k s).stc.headRole = s.stc.headRole ∧ (walkCutAt k s).stc.frameRole = s.stc.frameRole ∧
    (walkCutAt k s).stc.lock = s.stc.lock ∧ (walkCutAt k s).stc.roster = s.stc.roster ∧
    (walkCutAt k s).stc.timing = s.stc.timing ∧ (walkCutAt k s).stc.motion = s.stc.motion ∧
    (walkCutAt k s).stc.thread = s.stc.thread ∧ (walkCutAt k s).stc.joinTimer = s.stc.joinTimer ∧
    (walkCutAt k s).stc.lastRefusal = s.stc.lastRefusal ∧ (walkCutAt k s).prt = s.prt ∧
    (walkCutAt k s).thm.counts = s.thm.counts ∧ (walkCutAt k s).thm.service = s.thm.service ∧
    (walkCutAt k s).hsc.mark = s.hsc.mark := by
  simp only [walkCutAt]
  (repeat' split) <;> simp

@[simp] theorem cutWalk_frame (s : Station) :
    (cutWalk s).resetLow = s.resetLow ∧ (cutWalk s).now = s.now ∧ (cutWalk s).pins = s.pins ∧
    (cutWalk s).sht = s.sht ∧ (cutWalk s).gtu = s.gtu ∧ (cutWalk s).stc = s.stc ∧ (cutWalk s).sli = s.sli ∧
    (cutWalk s).prt = s.prt ∧ (cutWalk s).pgs = s.pgs ∧ (cutWalk s).ssq.stitch = s.ssq.stitch ∧
    (cutWalk s).pnc = s.pnc ∧ (cutWalk s).sgv = s.sgv ∧ (cutWalk s).ncc = s.ncc ∧ (cutWalk s).thm = s.thm ∧
    (cutWalk s).hsc = s.hsc := by
  simp only [cutWalk]
  (repeat' split) <;> simp

@[simp] theorem walkAdvance_frame (n : Nat) (k : Walk) (s : Station) :
    (walkAdvance n k s).resetLow = s.resetLow ∧ (walkAdvance n k s).now = s.now ∧ (walkAdvance n k s).pins = s.pins ∧
    (walkAdvance n k s).sht = s.sht ∧ (walkAdvance n k s).stc.addr = s.stc.addr ∧
    (walkAdvance n k s).stc.headRole = s.stc.headRole ∧ (walkAdvance n k s).stc.frameRole = s.stc.frameRole ∧
    (walkAdvance n k s).stc.lock = s.stc.lock ∧ (walkAdvance n k s).stc.roster = s.stc.roster ∧
    (walkAdvance n k s).stc.timing = s.stc.timing ∧ (walkAdvance n k s).stc.motion = s.stc.motion ∧
    (walkAdvance n k s).stc.thread = s.stc.thread ∧ (walkAdvance n k s).stc.joinTimer = s.stc.joinTimer ∧
    (walkAdvance n k s).stc.lastRefusal = s.stc.lastRefusal ∧ (walkAdvance n k s).prt = s.prt ∧
    (walkAdvance n k s).thm.counts = s.thm.counts ∧ (walkAdvance n k s).thm.service = s.thm.service ∧
    (walkAdvance n k s).hsc.mark = s.hsc.mark := by
  induction n generalizing k s with
  | zero => simp [walkAdvance]
  | succ n ih =>
    simp only [walkAdvance]
    (repeat' split) <;> simp [*]

@[simp] theorem walkOn_frame (k : Walk) (s : Station) :
    (walkOn k s).resetLow = s.resetLow ∧ (walkOn k s).now = s.now ∧ (walkOn k s).pins = s.pins ∧
    (walkOn k s).sht = s.sht ∧ (walkOn k s).stc.addr = s.stc.addr ∧ (walkOn k s).stc.headRole = s.stc.headRole ∧
    (walkOn k s).stc.frameRole = s.stc.frameRole ∧ (walkOn k s).stc.lock = s.stc.lock ∧
    (walkOn k s).stc.roster = s.stc.roster ∧ (walkOn k s).stc.timing = s.stc.timing ∧
    (walkOn k s).stc.motion = s.stc.motion ∧ (walkOn k s).stc.thread = s.stc.thread ∧
    (walkOn k s).stc.joinTimer = s.stc.joinTimer ∧ (walkOn k s).stc.lastRefusal = s.stc.lastRefusal ∧
    (walkOn k s).prt = s.prt ∧ (walkOn k s).thm.counts = s.thm.counts ∧ (walkOn k s).thm.service = s.thm.service ∧
    (walkOn k s).hsc.mark = s.hsc.mark := by simp [walkOn]

@[simp] theorem walkMoveDone_frame (s : Station) :
    (walkMoveDone s).resetLow = s.resetLow ∧ (walkMoveDone s).now = s.now ∧ (walkMoveDone s).pins = s.pins ∧
    (walkMoveDone s).sht = s.sht ∧ (walkMoveDone s).stc.addr = s.stc.addr ∧
    (walkMoveDone s).stc.headRole = s.stc.headRole ∧ (walkMoveDone s).stc.frameRole = s.stc.frameRole ∧
    (walkMoveDone s).stc.lock = s.stc.lock ∧ (walkMoveDone s).stc.roster = s.stc.roster ∧
    (walkMoveDone s).stc.timing = s.stc.timing ∧ (walkMoveDone s).stc.motion = s.stc.motion ∧
    (walkMoveDone s).stc.thread = s.stc.thread ∧ (walkMoveDone s).stc.joinTimer = s.stc.joinTimer ∧
    (walkMoveDone s).stc.lastRefusal = s.stc.lastRefusal ∧ (walkMoveDone s).prt = s.prt ∧
    (walkMoveDone s).thm.counts = s.thm.counts ∧ (walkMoveDone s).thm.service = s.thm.service ∧
    (walkMoveDone s).hsc.mark = s.hsc.mark := by
  simp only [walkMoveDone]
  (repeat' split) <;> simp

@[simp] theorem startLeg_frame (t : Int × Int) (s : Station) :
    (startLeg t s).resetLow = s.resetLow ∧ (startLeg t s).now = s.now ∧ (startLeg t s).pins = s.pins ∧
    (startLeg t s).sht = s.sht ∧ (startLeg t s).gtu = s.gtu ∧ (startLeg t s).stc = s.stc ∧
    (startLeg t s).sli = s.sli ∧ (startLeg t s).prt = s.prt ∧ (startLeg t s).pgs = s.pgs ∧
    (startLeg t s).ssq = s.ssq ∧ (startLeg t s).sgv = s.sgv ∧ (startLeg t s).ncc = s.ncc ∧
    (startLeg t s).thm = s.thm ∧ (startLeg t s).hsc = s.hsc := by simp [startLeg]

@[simp] theorem traceLegs_frame (l : List (Int × Int)) (s : Station) :
    (traceLegs l s).resetLow = s.resetLow ∧ (traceLegs l s).now = s.now ∧ (traceLegs l s).pins = s.pins ∧
    (traceLegs l s).sht = s.sht ∧ (traceLegs l s).gtu = s.gtu ∧ (traceLegs l s).stc = s.stc ∧
    (traceLegs l s).sli = s.sli ∧ (traceLegs l s).prt = s.prt ∧ (traceLegs l s).pgs = s.pgs ∧
    (traceLegs l s).ssq = s.ssq ∧ (traceLegs l s).sgv = s.sgv ∧ (traceLegs l s).ncc = s.ncc ∧
    (traceLegs l s).thm = s.thm ∧ (traceLegs l s).hsc = s.hsc := by
  induction l generalizing s with
  | nil => simp [traceLegs]
  | cons t l ih =>
    simp only [traceLegs]
    (repeat' split) <;> simp [*]

@[simp] theorem goLegDone_frame (s : Station) :
    (goLegDone s).resetLow = s.resetLow ∧ (goLegDone s).now = s.now ∧ (goLegDone s).pins = s.pins ∧
    (goLegDone s).sht = s.sht ∧ (goLegDone s).gtu = s.gtu ∧ (goLegDone s).stc = s.stc ∧ (goLegDone s).sli = s.sli ∧
    (goLegDone s).prt = s.prt ∧ (goLegDone s).pgs = s.pgs ∧ (goLegDone s).ssq = s.ssq ∧ (goLegDone s).sgv = s.sgv ∧
    (goLegDone s).ncc = s.ncc ∧ (goLegDone s).thm = s.thm ∧ (goLegDone s).hsc = s.hsc := by
  simp only [goLegDone]
  (repeat' split) <;> simp

@[simp] theorem completionInPlace_frame (rule : InPlaceRule) (kind : MoveKind) (s : Station) :
    (completionInPlace rule kind s).resetLow = s.resetLow ∧ (completionInPlace rule kind s).now = s.now ∧
    (completionInPlace rule kind s).pins = s.pins ∧ (completionInPlace rule kind s).sht = s.sht ∧
    (completionInPlace rule kind s).gtu = s.gtu ∧ (completionInPlace rule kind s).stc = s.stc ∧
    (completionInPlace rule kind s).sli = s.sli ∧ (completionInPlace rule kind s).prt = s.prt ∧
    (completionInPlace rule kind s).pgs = s.pgs ∧ (completionInPlace rule kind s).ssq = s.ssq ∧
    (completionInPlace rule kind s).sgv = s.sgv ∧ (completionInPlace rule kind s).ncc = s.ncc ∧
    (completionInPlace rule kind s).thm = s.thm ∧ (completionInPlace rule kind s).hsc = s.hsc := by
  simp only [completionInPlace]
  (repeat' split) <;> simp

@[simp] theorem completeMove_frame (s : Station) :
    (completeMove s).resetLow = s.resetLow ∧ (completeMove s).now = s.now ∧ (completeMove s).pins = s.pins ∧
    (completeMove s).sht = s.sht ∧ (completeMove s).stc.addr = s.stc.addr ∧
    (completeMove s).stc.headRole = s.stc.headRole ∧ (completeMove s).stc.frameRole = s.stc.frameRole ∧
    (completeMove s).stc.lock = s.stc.lock ∧ (completeMove s).stc.roster = s.stc.roster ∧
    (completeMove s).stc.timing = s.stc.timing ∧ (completeMove s).stc.motion = s.stc.motion ∧
    (completeMove s).stc.thread = s.stc.thread ∧ (completeMove s).stc.joinTimer = s.stc.joinTimer ∧
    (completeMove s).stc.lastRefusal = s.stc.lastRefusal ∧ (completeMove s).prt = s.prt ∧
    (completeMove s).thm.counts = s.thm.counts ∧ (completeMove s).thm.service = s.thm.service ∧
    (completeMove s).hsc.mark = s.hsc.mark := by
  simp only [completeMove]
  (repeat' split) <;> simp

@[simp] theorem walkRecordMade_frame (dir : WalkDir) (target : Nat) (s : Station) :
    (walkRecordMade dir target s).resetLow = s.resetLow ∧ (walkRecordMade dir target s).now = s.now ∧
    (walkRecordMade dir target s).pins = s.pins ∧ (walkRecordMade dir target s).sht = s.sht ∧
    (walkRecordMade dir target s).gtu = s.gtu ∧ (walkRecordMade dir target s).stc = s.stc ∧
    (walkRecordMade dir target s).sli = s.sli ∧ (walkRecordMade dir target s).prt = s.prt ∧
    (walkRecordMade dir target s).pnc = s.pnc ∧ (walkRecordMade dir target s).sgv = s.sgv ∧
    (walkRecordMade dir target s).ncc = s.ncc ∧ (walkRecordMade dir target s).thm = s.thm ∧
    (walkRecordMade dir target s).hsc = s.hsc := by
  simp only [walkRecordMade]
  (repeat' split) <;> simp

@[simp] theorem walkFirstMove_frame (s : Station) :
    (walkFirstMove s).resetLow = s.resetLow ∧ (walkFirstMove s).now = s.now ∧ (walkFirstMove s).pins = s.pins ∧
    (walkFirstMove s).sht = s.sht ∧ (walkFirstMove s).stc.addr = s.stc.addr ∧
    (walkFirstMove s).stc.headRole = s.stc.headRole ∧ (walkFirstMove s).stc.frameRole = s.stc.frameRole ∧
    (walkFirstMove s).stc.lock = s.stc.lock ∧ (walkFirstMove s).stc.roster = s.stc.roster ∧
    (walkFirstMove s).stc.timing = s.stc.timing ∧ (walkFirstMove s).stc.motion = s.stc.motion ∧
    (walkFirstMove s).stc.thread = s.stc.thread ∧ (walkFirstMove s).stc.joinTimer = s.stc.joinTimer ∧
    (walkFirstMove s).stc.lastRefusal = s.stc.lastRefusal ∧ (walkFirstMove s).prt = s.prt ∧
    (walkFirstMove s).thm.counts = s.thm.counts ∧ (walkFirstMove s).thm.service = s.thm.service ∧
    (walkFirstMove s).hsc.mark = s.hsc.mark := by
  simp only [walkFirstMove]
  (repeat' split) <;> simp

@[simp] theorem walkBegin_frame (dir : WalkDir) (n actual target : Nat) (s : Station) :
    (walkBegin dir n actual target s).resetLow = s.resetLow ∧ (walkBegin dir n actual target s).now = s.now ∧
    (walkBegin dir n actual target s).pins = s.pins ∧ (walkBegin dir n actual target s).sht = s.sht ∧
    (walkBegin dir n actual target s).stc.addr = s.stc.addr ∧
    (walkBegin dir n actual target s).stc.headRole = s.stc.headRole ∧
    (walkBegin dir n actual target s).stc.frameRole = s.stc.frameRole ∧
    (walkBegin dir n actual target s).stc.lock = s.stc.lock ∧
    (walkBegin dir n actual target s).stc.roster = s.stc.roster ∧
    (walkBegin dir n actual target s).stc.timing = s.stc.timing ∧
    (walkBegin dir n actual target s).stc.motion = s.stc.motion ∧
    (walkBegin dir n actual target s).stc.thread = s.stc.thread ∧
    (walkBegin dir n actual target s).stc.joinTimer = s.stc.joinTimer ∧
    (walkBegin dir n actual target s).stc.lastRefusal = s.stc.lastRefusal ∧
    (walkBegin dir n actual target s).thm.counts = s.thm.counts ∧
    (walkBegin dir n actual target s).thm.service = s.thm.service ∧
    (walkBegin dir n actual target s).hsc.mark = s.hsc.mark := by
  simp only [walkBegin]
  (repeat' split) <;> simp

@[simp] theorem walkNowhere_frame (dir : WalkDir) (n : Nat) (s : Station) :
    (walkNowhere dir n s).resetLow = s.resetLow ∧ (walkNowhere dir n s).now = s.now ∧
    (walkNowhere dir n s).pins = s.pins ∧ (walkNowhere dir n s).sht = s.sht ∧ (walkNowhere dir n s).gtu = s.gtu ∧
    (walkNowhere dir n s).stc = s.stc ∧ (walkNowhere dir n s).sli = s.sli ∧ (walkNowhere dir n s).prt = s.prt ∧
    (walkNowhere dir n s).pgs = s.pgs ∧ (walkNowhere dir n s).ssq.stitch = s.ssq.stitch ∧
    (walkNowhere dir n s).pnc = s.pnc ∧ (walkNowhere dir n s).sgv = s.sgv ∧ (walkNowhere dir n s).ncc = s.ncc ∧
    (walkNowhere dir n s).thm = s.thm ∧ (walkNowhere dir n s).hsc = s.hsc := by simp [walkNowhere]

@[simp] theorem backOwner_frame (p : Payload) (s : Station) :
    (backOwner p s).resetLow = s.resetLow ∧ (backOwner p s).now = s.now ∧ (backOwner p s).pins = s.pins ∧
    (backOwner p s).sht = s.sht ∧ (backOwner p s).stc.addr = s.stc.addr ∧
    (backOwner p s).stc.headRole = s.stc.headRole ∧ (backOwner p s).stc.frameRole = s.stc.frameRole ∧
    (backOwner p s).stc.lock = s.stc.lock ∧ (backOwner p s).stc.roster = s.stc.roster ∧
    (backOwner p s).stc.timing = s.stc.timing ∧ (backOwner p s).stc.motion = s.stc.motion ∧
    (backOwner p s).stc.thread = s.stc.thread ∧ (backOwner p s).stc.joinTimer = s.stc.joinTimer ∧
    (backOwner p s).thm.counts = s.thm.counts ∧ (backOwner p s).thm.service = s.thm.service ∧
    (backOwner p s).hsc.mark = s.hsc.mark := by
  simp only [backOwner]
  (repeat' split) <;> simp

@[simp] theorem forwardOwner_frame (p : Payload) (s : Station) :
    (forwardOwner p s).resetLow = s.resetLow ∧ (forwardOwner p s).now = s.now ∧ (forwardOwner p s).pins = s.pins ∧
    (forwardOwner p s).sht = s.sht ∧ (forwardOwner p s).stc.addr = s.stc.addr ∧
    (forwardOwner p s).stc.headRole = s.stc.headRole ∧ (forwardOwner p s).stc.frameRole = s.stc.frameRole ∧
    (forwardOwner p s).stc.lock = s.stc.lock ∧ (forwardOwner p s).stc.roster = s.stc.roster ∧
    (forwardOwner p s).stc.timing = s.stc.timing ∧ (forwardOwner p s).stc.motion = s.stc.motion ∧
    (forwardOwner p s).stc.thread = s.stc.thread ∧ (forwardOwner p s).stc.joinTimer = s.stc.joinTimer ∧
    (forwardOwner p s).thm.counts = s.thm.counts ∧ (forwardOwner p s).thm.service = s.thm.service ∧
    (forwardOwner p s).hsc.mark = s.hsc.mark := by
  simp only [forwardOwner]
  (repeat' split) <;> simp

end Sys2Proof.Machine
end

