-- ==== Sys2Proof/Laws/Gate.lean ====
section
/-! SUPPORT. Laws/Gate.lean: what the thread monitor and the angle events leave as they are: for each operation one lemma with every record, and
every item of a record it writes only in part, that it does not touch. -/

namespace Sys2Proof.Machine

@[simp] theorem openPenetration_frame (n : Nat) (trim : Bool) (s : Station) :
    (openPenetration n trim s).resetLow = s.resetLow ∧ (openPenetration n trim s).now = s.now ∧
    (openPenetration n trim s).pins = s.pins ∧ (openPenetration n trim s).sht = s.sht ∧
    (openPenetration n trim s).gtu = s.gtu ∧ (openPenetration n trim s).stc = s.stc ∧
    (openPenetration n trim s).sli = s.sli ∧ (openPenetration n trim s).prt = s.prt ∧
    (openPenetration n trim s).pgs = s.pgs ∧ (openPenetration n trim s).ssq = s.ssq ∧
    (openPenetration n trim s).pnc = s.pnc ∧ (openPenetration n trim s).sgv = s.sgv ∧
    (openPenetration n trim s).ncc = s.ncc ∧ (openPenetration n trim s).thm.counts = s.thm.counts ∧
    (openPenetration n trim s).thm.service = s.thm.service ∧ (openPenetration n trim s).hsc = s.hsc := by simp [openPenetration]

@[simp] theorem openWindow_frame (s : Station) :
    (openWindow s).resetLow = s.resetLow ∧ (openWindow s).now = s.now ∧ (openWindow s).pins = s.pins ∧
    (openWindow s).sht = s.sht ∧ (openWindow s).gtu = s.gtu ∧ (openWindow s).stc = s.stc ∧
    (openWindow s).sli = s.sli ∧ (openWindow s).prt = s.prt ∧ (openWindow s).pgs = s.pgs ∧
    (openWindow s).ssq = s.ssq ∧ (openWindow s).pnc = s.pnc ∧ (openWindow s).sgv = s.sgv ∧
    (openWindow s).ncc = s.ncc ∧ (openWindow s).thm.counts = s.thm.counts ∧
    (openWindow s).thm.service = s.thm.service ∧ (openWindow s).hsc = s.hsc := by
  simp only [openWindow]
  (repeat' split) <;> simp

@[simp] theorem takeReading_frame (t : Nat) (s : Station) :
    (takeReading t s).resetLow = s.resetLow ∧ (takeReading t s).now = s.now ∧ (takeReading t s).pins = s.pins ∧
    (takeReading t s).sht = s.sht ∧ (takeReading t s).gtu = s.gtu ∧ (takeReading t s).stc = s.stc ∧
    (takeReading t s).sli = s.sli ∧ (takeReading t s).prt = s.prt ∧ (takeReading t s).pgs = s.pgs ∧
    (takeReading t s).ssq = s.ssq ∧ (takeReading t s).pnc = s.pnc ∧ (takeReading t s).sgv = s.sgv ∧
    (takeReading t s).ncc = s.ncc ∧ (takeReading t s).thm.counts = s.thm.counts ∧
    (takeReading t s).thm.service = s.thm.service ∧ (takeReading t s).hsc = s.hsc := by
  simp only [takeReading]
  (repeat' split) <;> simp

@[simp] theorem threadBreak_frame (p : Penetration) (s : Station) :
    (threadBreak p s).resetLow = s.resetLow ∧ (threadBreak p s).now = s.now ∧ (threadBreak p s).pins = s.pins ∧
    (threadBreak p s).sht = s.sht ∧ (threadBreak p s).stc.addr = s.stc.addr ∧
    (threadBreak p s).stc.headRole = s.stc.headRole ∧ (threadBreak p s).stc.frameRole = s.stc.frameRole ∧
    (threadBreak p s).stc.lock = s.stc.lock ∧ (threadBreak p s).stc.roster = s.stc.roster ∧
    (threadBreak p s).stc.timing = s.stc.timing ∧ (threadBreak p s).stc.motion = s.stc.motion ∧
    (threadBreak p s).stc.thread = s.stc.thread ∧ (threadBreak p s).stc.joinTimer = s.stc.joinTimer ∧
    (threadBreak p s).stc.lastRefusal = s.stc.lastRefusal ∧ (threadBreak p s).prt = s.prt ∧
    (threadBreak p s).pgs = s.pgs ∧ (threadBreak p s).ssq = s.ssq ∧ (threadBreak p s).thm.counts = s.thm.counts ∧
    (threadBreak p s).thm.service = s.thm.service := by simp [threadBreak]

@[simp] theorem tensionFault_frame (k : FaultKind) (n : Nat) (s : Station) :
    (tensionFault k n s).resetLow = s.resetLow ∧ (tensionFault k n s).now = s.now ∧
    (tensionFault k n s).pins = s.pins ∧ (tensionFault k n s).sht = s.sht ∧
    (tensionFault k n s).stc.addr = s.stc.addr ∧ (tensionFault k n s).stc.headRole = s.stc.headRole ∧
    (tensionFault k n s).stc.frameRole = s.stc.frameRole ∧ (tensionFault k n s).stc.lock = s.stc.lock ∧
    (tensionFault k n s).stc.roster = s.stc.roster ∧ (tensionFault k n s).stc.timing = s.stc.timing ∧
    (tensionFault k n s).stc.motion = s.stc.motion ∧ (tensionFault k n s).stc.thread = s.stc.thread ∧
    (tensionFault k n s).stc.joinTimer = s.stc.joinTimer ∧ (tensionFault k n s).stc.lastRefusal = s.stc.lastRefusal ∧
    (tensionFault k n s).prt = s.prt ∧ (tensionFault k n s).pgs = s.pgs ∧ (tensionFault k n s).ssq = s.ssq ∧
    (tensionFault k n s).hsc.mark = s.hsc.mark := by
  simp only [tensionFault]
  (repeat' split) <;> simp

@[simp] theorem judgeTension_frame (n : Nat) (s : Station) :
    (judgeTension n s).resetLow = s.resetLow ∧ (judgeTension n s).now = s.now ∧ (judgeTension n s).pins = s.pins ∧
    (judgeTension n s).sht = s.sht ∧ (judgeTension n s).stc.addr = s.stc.addr ∧
    (judgeTension n s).stc.headRole = s.stc.headRole ∧ (judgeTension n s).stc.frameRole = s.stc.frameRole ∧
    (judgeTension n s).stc.lock = s.stc.lock ∧ (judgeTension n s).stc.roster = s.stc.roster ∧
    (judgeTension n s).stc.timing = s.stc.timing ∧ (judgeTension n s).stc.motion = s.stc.motion ∧
    (judgeTension n s).stc.thread = s.stc.thread ∧ (judgeTension n s).stc.joinTimer = s.stc.joinTimer ∧
    (judgeTension n s).stc.lastRefusal = s.stc.lastRefusal ∧ (judgeTension n s).prt = s.prt ∧
    (judgeTension n s).pgs = s.pgs ∧ (judgeTension n s).ssq = s.ssq ∧ (judgeTension n s).hsc.mark = s.hsc.mark := by
  simp only [judgeTension]
  (repeat' split) <;> simp

@[simp] theorem takeSample_frame (p : Penetration) (s : Station) :
    (takeSample p s).resetLow = s.resetLow ∧ (takeSample p s).now = s.now ∧ (takeSample p s).pins = s.pins ∧
    (takeSample p s).sht = s.sht ∧ (takeSample p s).stc.addr = s.stc.addr ∧
    (takeSample p s).stc.headRole = s.stc.headRole ∧ (takeSample p s).stc.frameRole = s.stc.frameRole ∧
    (takeSample p s).stc.lock = s.stc.lock ∧ (takeSample p s).stc.roster = s.stc.roster ∧
    (takeSample p s).stc.timing = s.stc.timing ∧ (takeSample p s).stc.motion = s.stc.motion ∧
    (takeSample p s).stc.thread = s.stc.thread ∧ (takeSample p s).stc.joinTimer = s.stc.joinTimer ∧
    (takeSample p s).stc.lastRefusal = s.stc.lastRefusal ∧ (takeSample p s).prt = s.prt ∧
    (takeSample p s).pgs = s.pgs ∧ (takeSample p s).ssq = s.ssq ∧ (takeSample p s).hsc.mark = s.hsc.mark := by
  simp only [takeSample]
  (repeat' split) <;> simp

@[simp] theorem closePenetration_frame (s : Station) :
    (closePenetration s).resetLow = s.resetLow ∧ (closePenetration s).now = s.now ∧
    (closePenetration s).pins = s.pins ∧ (closePenetration s).sht = s.sht ∧
    (closePenetration s).stc.addr = s.stc.addr ∧ (closePenetration s).stc.headRole = s.stc.headRole ∧
    (closePenetration s).stc.frameRole = s.stc.frameRole ∧ (closePenetration s).stc.lock = s.stc.lock ∧
    (closePenetration s).stc.roster = s.stc.roster ∧ (closePenetration s).stc.timing = s.stc.timing ∧
    (closePenetration s).stc.motion = s.stc.motion ∧ (closePenetration s).stc.thread = s.stc.thread ∧
    (closePenetration s).stc.joinTimer = s.stc.joinTimer ∧ (closePenetration s).stc.lastRefusal = s.stc.lastRefusal ∧
    (closePenetration s).prt = s.prt ∧ (closePenetration s).pgs = s.pgs ∧ (closePenetration s).ssq = s.ssq := by
  simp only [closePenetration]
  (repeat' split) <;> simp

@[simp] theorem countPulse_frame (s : Station) :
    (countPulse s).resetLow = s.resetLow ∧ (countPulse s).now = s.now ∧ (countPulse s).pins = s.pins ∧
    (countPulse s).sht = s.sht ∧ (countPulse s).gtu = s.gtu ∧ (countPulse s).stc = s.stc ∧
    (countPulse s).sli = s.sli ∧ (countPulse s).prt = s.prt ∧ (countPulse s).pgs = s.pgs ∧
    (countPulse s).ssq = s.ssq ∧ (countPulse s).pnc = s.pnc ∧ (countPulse s).sgv = s.sgv ∧
    (countPulse s).ncc = s.ncc ∧ (countPulse s).thm.counts = s.thm.counts ∧
    (countPulse s).thm.service = s.thm.service ∧ (countPulse s).hsc = s.hsc := by
  simp only [countPulse]
  (repeat' split) <;> simp

@[simp] theorem requestVeto_frame (s : Station) :
    (requestVeto s).resetLow = s.resetLow ∧ (requestVeto s).now = s.now ∧ (requestVeto s).pins = s.pins ∧
    (requestVeto s).sht = s.sht ∧ (requestVeto s).stc = s.stc ∧ (requestVeto s).sli = s.sli ∧
    (requestVeto s).prt = s.prt ∧ (requestVeto s).pgs = s.pgs ∧ (requestVeto s).ssq = s.ssq ∧
    (requestVeto s).pnc = s.pnc ∧ (requestVeto s).sgv = s.sgv ∧ (requestVeto s).ncc = s.ncc ∧
    (requestVeto s).thm = s.thm ∧ (requestVeto s).hsc = s.hsc := by simp [requestVeto]

@[simp] theorem eventM_frame (s : Station) :
    (eventM s).resetLow = s.resetLow ∧ (eventM s).now = s.now ∧ (eventM s).pins = s.pins ∧ (eventM s).sht = s.sht ∧
    (eventM s).stc.addr = s.stc.addr ∧ (eventM s).stc.headRole = s.stc.headRole ∧
    (eventM s).stc.frameRole = s.stc.frameRole ∧ (eventM s).stc.lock = s.stc.lock ∧
    (eventM s).stc.roster = s.stc.roster ∧ (eventM s).stc.timing = s.stc.timing ∧
    (eventM s).stc.motion = s.stc.motion ∧ (eventM s).stc.thread = s.stc.thread ∧
    (eventM s).stc.joinTimer = s.stc.joinTimer ∧ (eventM s).stc.lastRefusal = s.stc.lastRefusal ∧
    (eventM s).prt = s.prt ∧ (eventM s).pgs = s.pgs ∧ (eventM s).ssq = s.ssq ∧ (eventM s).thm = s.thm ∧
    (eventM s).hsc.mark = s.hsc.mark := by
  simp only [eventM]
  (repeat' split) <;> simp

@[simp] theorem vetoTaken_frame (s : Station) :
    (vetoTaken s).resetLow = s.resetLow ∧ (vetoTaken s).now = s.now ∧ (vetoTaken s).pins = s.pins ∧
    (vetoTaken s).sht = s.sht ∧ (vetoTaken s).stc.addr = s.stc.addr ∧ (vetoTaken s).stc.headRole = s.stc.headRole ∧
    (vetoTaken s).stc.frameRole = s.stc.frameRole ∧ (vetoTaken s).stc.lock = s.stc.lock ∧
    (vetoTaken s).stc.roster = s.stc.roster ∧ (vetoTaken s).stc.timing = s.stc.timing ∧
    (vetoTaken s).stc.motion = s.stc.motion ∧ (vetoTaken s).stc.thread = s.stc.thread ∧
    (vetoTaken s).stc.joinTimer = s.stc.joinTimer ∧ (vetoTaken s).stc.lastRefusal = s.stc.lastRefusal ∧
    (vetoTaken s).prt = s.prt ∧ (vetoTaken s).pgs = s.pgs ∧ (vetoTaken s).ssq = s.ssq ∧ (vetoTaken s).thm = s.thm ∧
    (vetoTaken s).hsc.mark = s.hsc.mark := by
  simp only [vetoTaken]
  (repeat' split) <;> simp

@[simp] theorem sampleH_frame (s : Station) :
    (sampleH s).resetLow = s.resetLow ∧ (sampleH s).now = s.now ∧ (sampleH s).pins = s.pins ∧
    (sampleH s).sht = s.sht ∧ (sampleH s).stc.addr = s.stc.addr ∧ (sampleH s).stc.headRole = s.stc.headRole ∧
    (sampleH s).stc.frameRole = s.stc.frameRole ∧ (sampleH s).stc.lock = s.stc.lock ∧
    (sampleH s).stc.roster = s.stc.roster ∧ (sampleH s).stc.timing = s.stc.timing ∧
    (sampleH s).stc.motion = s.stc.motion ∧ (sampleH s).stc.thread = s.stc.thread ∧
    (sampleH s).stc.joinTimer = s.stc.joinTimer ∧ (sampleH s).stc.lastRefusal = s.stc.lastRefusal ∧
    (sampleH s).prt = s.prt ∧ (sampleH s).pgs = s.pgs ∧ (sampleH s).ssq = s.ssq ∧ (sampleH s).thm = s.thm ∧
    (sampleH s).hsc.mark = s.hsc.mark := by
  simp only [sampleH]
  (repeat' split) <;> simp

@[simp] theorem eventH_frame (s : Station) :
    (eventH s).resetLow = s.resetLow ∧ (eventH s).now = s.now ∧ (eventH s).pins = s.pins ∧ (eventH s).sht = s.sht ∧
    (eventH s).stc.addr = s.stc.addr ∧ (eventH s).stc.headRole = s.stc.headRole ∧
    (eventH s).stc.frameRole = s.stc.frameRole ∧ (eventH s).stc.lock = s.stc.lock ∧
    (eventH s).stc.roster = s.stc.roster ∧ (eventH s).stc.timing = s.stc.timing ∧
    (eventH s).stc.motion = s.stc.motion ∧ (eventH s).stc.thread = s.stc.thread ∧
    (eventH s).stc.joinTimer = s.stc.joinTimer ∧ (eventH s).stc.lastRefusal = s.stc.lastRefusal ∧
    (eventH s).prt = s.prt ∧ (eventH s).pgs = s.pgs ∧ (eventH s).ssq = s.ssq ∧ (eventH s).thm = s.thm ∧
    (eventH s).hsc.mark = s.hsc.mark := by simp [eventH]

@[simp] theorem assertGate_frame (s : Station) :
    (assertGate s).resetLow = s.resetLow ∧ (assertGate s).now = s.now ∧ (assertGate s).pins = s.pins ∧
    (assertGate s).sht = s.sht ∧ (assertGate s).stc = s.stc ∧ (assertGate s).sli = s.sli ∧
    (assertGate s).prt = s.prt ∧ (assertGate s).pgs = s.pgs ∧ (assertGate s).ssq = s.ssq ∧
    (assertGate s).pnc = s.pnc ∧ (assertGate s).sgv = s.sgv ∧ (assertGate s).ncc = s.ncc ∧
    (assertGate s).thm = s.thm ∧ (assertGate s).hsc = s.hsc := by
  simp only [assertGate]
  (repeat' split) <;> simp

@[simp] theorem carryOut_frame (s : Station) :
    (carryOut s).resetLow = s.resetLow ∧ (carryOut s).now = s.now ∧ (carryOut s).pins = s.pins ∧
    (carryOut s).sht = s.sht ∧ (carryOut s).gtu = s.gtu ∧ (carryOut s).stc = s.stc ∧ (carryOut s).sli = s.sli ∧
    (carryOut s).prt = s.prt ∧ (carryOut s).pgs = s.pgs ∧ (carryOut s).ssq = s.ssq ∧ (carryOut s).pnc = s.pnc ∧
    (carryOut s).sgv = s.sgv ∧ (carryOut s).ncc = s.ncc ∧ (carryOut s).thm.counts = s.thm.counts ∧
    (carryOut s).thm.service = s.thm.service := by
  simp only [carryOut]
  (repeat' split) <;> simp

@[simp] theorem eventAArm_frame (s : Station) :
    (eventAArm s).resetLow = s.resetLow ∧ (eventAArm s).now = s.now ∧ (eventAArm s).pins = s.pins ∧
    (eventAArm s).sht = s.sht ∧ (eventAArm s).stc = s.stc ∧ (eventAArm s).sli = s.sli ∧ (eventAArm s).prt = s.prt ∧
    (eventAArm s).pgs = s.pgs ∧ (eventAArm s).ssq = s.ssq ∧ (eventAArm s).pnc = s.pnc ∧ (eventAArm s).sgv = s.sgv ∧
    (eventAArm s).ncc = s.ncc ∧ (eventAArm s).thm.counts = s.thm.counts ∧ (eventAArm s).thm.service = s.thm.service := by
  simp only [eventAArm]
  (repeat' split) <;> simp

@[simp] theorem eventKOn_frame (s : Station) :
    (eventKOn s).resetLow = s.resetLow ∧ (eventKOn s).now = s.now ∧ (eventKOn s).pins = s.pins ∧
    (eventKOn s).sht = s.sht ∧ (eventKOn s).gtu = s.gtu ∧ (eventKOn s).stc = s.stc ∧ (eventKOn s).sli = s.sli ∧
    (eventKOn s).prt = s.prt ∧ (eventKOn s).pgs = s.pgs ∧ (eventKOn s).ssq = s.ssq ∧ (eventKOn s).pnc = s.pnc ∧
    (eventKOn s).sgv = s.sgv ∧ (eventKOn s).ncc = s.ncc ∧ (eventKOn s).thm = s.thm ∧
    (eventKOn s).hsc.mark = s.hsc.mark := by
  simp only [eventKOn]
  (repeat' split) <;> simp

@[simp] theorem commitStitch_frame (r : StitchRecord) (s : Station) :
    (commitStitch r s).resetLow = s.resetLow ∧ (commitStitch r s).now = s.now ∧ (commitStitch r s).pins = s.pins ∧
    (commitStitch r s).sht = s.sht ∧ (commitStitch r s).gtu = s.gtu ∧ (commitStitch r s).stc = s.stc ∧
    (commitStitch r s).sli = s.sli ∧ (commitStitch r s).prt = s.prt ∧ (commitStitch r s).pnc = s.pnc ∧
    (commitStitch r s).sgv = s.sgv ∧ (commitStitch r s).ncc = s.ncc ∧ (commitStitch r s).thm = s.thm ∧
    (commitStitch r s).hsc = s.hsc := by
  simp only [commitStitch]
  (repeat' split) <;> simp

@[simp] theorem commitDemand_frame (r : StitchRecord) (s : Station) :
    (commitDemand r s).resetLow = s.resetLow ∧ (commitDemand r s).now = s.now ∧ (commitDemand r s).pins = s.pins ∧
    (commitDemand r s).sht = s.sht ∧ (commitDemand r s).gtu = s.gtu ∧ (commitDemand r s).stc = s.stc ∧
    (commitDemand r s).sli = s.sli ∧ (commitDemand r s).prt = s.prt ∧ (commitDemand r s).pgs = s.pgs ∧
    (commitDemand r s).ssq = s.ssq ∧ (commitDemand r s).pnc = s.pnc ∧ (commitDemand r s).ncc = s.ncc ∧
    (commitDemand r s).thm = s.thm ∧ (commitDemand r s).hsc = s.hsc := by
  simp only [commitDemand]
  (repeat' split) <;> simp

@[simp] theorem commitMove_frame (r : StitchRecord) (s : Station) :
    (commitMove r s).resetLow = s.resetLow ∧ (commitMove r s).now = s.now ∧ (commitMove r s).pins = s.pins ∧
    (commitMove r s).sht = s.sht ∧ (commitMove r s).gtu = s.gtu ∧ (commitMove r s).stc = s.stc ∧
    (commitMove r s).sli = s.sli ∧ (commitMove r s).prt = s.prt ∧ (commitMove r s).pgs = s.pgs ∧
    (commitMove r s).ssq = s.ssq ∧ (commitMove r s).sgv = s.sgv ∧ (commitMove r s).ncc = s.ncc ∧
    (commitMove r s).thm = s.thm ∧ (commitMove r s).hsc = s.hsc := by simp [commitMove]

@[simp] theorem commitFrame_frame (r : StitchRecord) (s : Station) :
    (commitFrame r s).resetLow = s.resetLow ∧ (commitFrame r s).now = s.now ∧ (commitFrame r s).pins = s.pins ∧
    (commitFrame r s).sht = s.sht ∧ (commitFrame r s).stc.addr = s.stc.addr ∧
    (commitFrame r s).stc.headRole = s.stc.headRole ∧ (commitFrame r s).stc.frameRole = s.stc.frameRole ∧
    (commitFrame r s).stc.lock = s.stc.lock ∧ (commitFrame r s).stc.roster = s.stc.roster ∧
    (commitFrame r s).stc.timing = s.stc.timing ∧ (commitFrame r s).stc.motion = s.stc.motion ∧
    (commitFrame r s).stc.thread = s.stc.thread ∧ (commitFrame r s).stc.joinTimer = s.stc.joinTimer ∧
    (commitFrame r s).stc.lastRefusal = s.stc.lastRefusal ∧ (commitFrame r s).prt = s.prt ∧
    (commitFrame r s).pgs = s.pgs ∧ (commitFrame r s).ssq = s.ssq ∧ (commitFrame r s).thm = s.thm ∧
    (commitFrame r s).hsc.mark = s.hsc.mark := by
  simp only [commitFrame]
  (repeat' split) <;> simp

@[simp] theorem commitHead_frame (n : Nat) (fr : Option StitchRecord) (s : Station) :
    (commitHead n fr s).resetLow = s.resetLow ∧ (commitHead n fr s).now = s.now ∧ (commitHead n fr s).pins = s.pins ∧
    (commitHead n fr s).sht = s.sht ∧ (commitHead n fr s).gtu = s.gtu ∧ (commitHead n fr s).stc = s.stc ∧
    (commitHead n fr s).sli = s.sli ∧ (commitHead n fr s).prt = s.prt ∧ (commitHead n fr s).pgs = s.pgs ∧
    (commitHead n fr s).ssq = s.ssq ∧ (commitHead n fr s).pnc = s.pnc ∧ (commitHead n fr s).sgv = s.sgv ∧
    (commitHead n fr s).thm.counts = s.thm.counts ∧ (commitHead n fr s).thm.service = s.thm.service ∧
    (commitHead n fr s).hsc.mark = s.hsc.mark := by
  simp only [commitHead]
  (repeat' split) <;> simp

@[simp] theorem plannedStop_frame (r : StitchRecord) (s : Station) :
    (plannedStop r s).resetLow = s.resetLow ∧ (plannedStop r s).now = s.now ∧ (plannedStop r s).pins = s.pins ∧
    (plannedStop r s).sht = s.sht ∧ (plannedStop r s).stc.addr = s.stc.addr ∧
    (plannedStop r s).stc.headRole = s.stc.headRole ∧ (plannedStop r s).stc.frameRole = s.stc.frameRole ∧
    (plannedStop r s).stc.lock = s.stc.lock ∧ (plannedStop r s).stc.roster = s.stc.roster ∧
    (plannedStop r s).stc.timing = s.stc.timing ∧ (plannedStop r s).stc.motion = s.stc.motion ∧
    (plannedStop r s).stc.thread = s.stc.thread ∧ (plannedStop r s).stc.joinTimer = s.stc.joinTimer ∧
    (plannedStop r s).stc.lastRefusal = s.stc.lastRefusal ∧ (plannedStop r s).prt = s.prt ∧
    (plannedStop r s).pgs = s.pgs ∧ (plannedStop r s).ssq = s.ssq ∧ (plannedStop r s).thm = s.thm ∧
    (plannedStop r s).hsc.mark = s.hsc.mark := by
  simp only [plannedStop]
  (repeat' split) <;> simp

@[simp] theorem commit_frame (s : Station) :
    (commit s).resetLow = s.resetLow ∧ (commit s).now = s.now ∧ (commit s).pins = s.pins ∧ (commit s).sht = s.sht ∧
    (commit s).stc.addr = s.stc.addr ∧ (commit s).stc.headRole = s.stc.headRole ∧
    (commit s).stc.frameRole = s.stc.frameRole ∧ (commit s).stc.lock = s.stc.lock ∧
    (commit s).stc.roster = s.stc.roster ∧ (commit s).stc.timing = s.stc.timing ∧
    (commit s).stc.motion = s.stc.motion ∧ (commit s).stc.thread = s.stc.thread ∧
    (commit s).stc.joinTimer = s.stc.joinTimer ∧ (commit s).stc.lastRefusal = s.stc.lastRefusal ∧
    (commit s).prt = s.prt ∧ (commit s).thm.counts = s.thm.counts ∧ (commit s).thm.service = s.thm.service ∧
    (commit s).hsc.mark = s.hsc.mark := by
  simp only [commit]
  (repeat' split) <;> simp

@[simp] theorem dwellCommon_frame (s : Station) :
    (dwellCommon s).resetLow = s.resetLow ∧ (dwellCommon s).now = s.now ∧ (dwellCommon s).pins = s.pins ∧
    (dwellCommon s).sht = s.sht ∧ (dwellCommon s).stc = s.stc ∧ (dwellCommon s).sli = s.sli ∧
    (dwellCommon s).prt = s.prt ∧ (dwellCommon s).pgs = s.pgs ∧ (dwellCommon s).ssq = s.ssq ∧
    (dwellCommon s).pnc = s.pnc ∧ (dwellCommon s).sgv = s.sgv ∧ (dwellCommon s).ncc = s.ncc ∧
    (dwellCommon s).thm = s.thm ∧ (dwellCommon s).hsc.mark = s.hsc.mark := by
  simp only [dwellCommon]
  (repeat' split) <;> simp

@[simp] theorem dwellRun_frame (s : Station) :
    (dwellRun s).resetLow = s.resetLow ∧ (dwellRun s).now = s.now ∧ (dwellRun s).pins = s.pins ∧
    (dwellRun s).sht = s.sht ∧ (dwellRun s).stc.addr = s.stc.addr ∧ (dwellRun s).stc.headRole = s.stc.headRole ∧
    (dwellRun s).stc.frameRole = s.stc.frameRole ∧ (dwellRun s).stc.lock = s.stc.lock ∧
    (dwellRun s).stc.roster = s.stc.roster ∧ (dwellRun s).stc.timing = s.stc.timing ∧
    (dwellRun s).stc.motion = s.stc.motion ∧ (dwellRun s).stc.thread = s.stc.thread ∧
    (dwellRun s).stc.joinTimer = s.stc.joinTimer ∧ (dwellRun s).stc.lastRefusal = s.stc.lastRefusal ∧
    (dwellRun s).prt = s.prt ∧ (dwellRun s).pgs = s.pgs ∧ (dwellRun s).ssq = s.ssq ∧ (dwellRun s).thm = s.thm ∧
    (dwellRun s).hsc.mark = s.hsc.mark := by
  simp only [dwellRun]
  (repeat' split) <;> simp

@[simp] theorem eventD_frame (s : Station) :
    (eventD s).resetLow = s.resetLow ∧ (eventD s).now = s.now ∧ (eventD s).pins = s.pins ∧ (eventD s).sht = s.sht ∧
    (eventD s).stc.addr = s.stc.addr ∧ (eventD s).stc.headRole = s.stc.headRole ∧
    (eventD s).stc.frameRole = s.stc.frameRole ∧ (eventD s).stc.lock = s.stc.lock ∧
    (eventD s).stc.roster = s.stc.roster ∧ (eventD s).stc.timing = s.stc.timing ∧
    (eventD s).stc.motion = s.stc.motion ∧ (eventD s).stc.thread = s.stc.thread ∧
    (eventD s).stc.joinTimer = s.stc.joinTimer ∧ (eventD s).stc.lastRefusal = s.stc.lastRefusal ∧
    (eventD s).prt = s.prt ∧ (eventD s).thm.counts = s.thm.counts ∧ (eventD s).thm.service = s.thm.service ∧
    (eventD s).hsc.mark = s.hsc.mark := by
  simp only [eventD]
  (repeat' split) <;> simp

@[simp] theorem openMoveWindow_frame (s : Station) :
    (openMoveWindow s).resetLow = s.resetLow ∧ (openMoveWindow s).now = s.now ∧ (openMoveWindow s).pins = s.pins ∧
    (openMoveWindow s).sht = s.sht ∧ (openMoveWindow s).gtu = s.gtu ∧ (openMoveWindow s).stc = s.stc ∧
    (openMoveWindow s).sli = s.sli ∧ (openMoveWindow s).prt = s.prt ∧ (openMoveWindow s).pgs = s.pgs ∧
    (openMoveWindow s).ssq = s.ssq ∧ (openMoveWindow s).sgv = s.sgv ∧ (openMoveWindow s).ncc = s.ncc ∧
    (openMoveWindow s).thm = s.thm ∧ (openMoveWindow s).hsc = s.hsc := by
  simp only [openMoveWindow]
  (repeat' split) <;> simp

@[simp] theorem holdAtWOpen_frame (s : Station) :
    (holdAtWOpen s).resetLow = s.resetLow ∧ (holdAtWOpen s).now = s.now ∧ (holdAtWOpen s).pins = s.pins ∧
    (holdAtWOpen s).sht = s.sht ∧ (holdAtWOpen s).gtu = s.gtu ∧ (holdAtWOpen s).stc = s.stc ∧
    (holdAtWOpen s).sli = s.sli ∧ (holdAtWOpen s).prt = s.prt ∧ (holdAtWOpen s).pgs = s.pgs ∧
    (holdAtWOpen s).ssq = s.ssq ∧ (holdAtWOpen s).pnc = s.pnc ∧ (holdAtWOpen s).sgv = s.sgv ∧
    (holdAtWOpen s).ncc = s.ncc ∧ (holdAtWOpen s).thm = s.thm ∧ (holdAtWOpen s).hsc.mark = s.hsc.mark := by
  simp only [holdAtWOpen]
  (repeat' split) <;> simp

@[simp] theorem eventWOpen_frame (s : Station) :
    (eventWOpen s).resetLow = s.resetLow ∧ (eventWOpen s).now = s.now ∧ (eventWOpen s).pins = s.pins ∧
    (eventWOpen s).sht = s.sht ∧ (eventWOpen s).gtu = s.gtu ∧ (eventWOpen s).stc = s.stc ∧
    (eventWOpen s).sli = s.sli ∧ (eventWOpen s).prt = s.prt ∧ (eventWOpen s).pgs = s.pgs ∧
    (eventWOpen s).ssq = s.ssq ∧ (eventWOpen s).sgv = s.sgv ∧ (eventWOpen s).ncc = s.ncc ∧
    (eventWOpen s).thm = s.thm ∧ (eventWOpen s).hsc.mark = s.hsc.mark := by
  simp only [eventWOpen]
  (repeat' split) <;> simp

@[simp] theorem receive_frame (n : AngleName) (s : Station) :
    (receive n s).resetLow = s.resetLow ∧ (receive n s).now = s.now ∧ (receive n s).pins = s.pins ∧
    (receive n s).sht = s.sht ∧ (receive n s).stc.addr = s.stc.addr ∧ (receive n s).stc.headRole = s.stc.headRole ∧
    (receive n s).stc.frameRole = s.stc.frameRole ∧ (receive n s).stc.lock = s.stc.lock ∧
    (receive n s).stc.roster = s.stc.roster ∧ (receive n s).stc.timing = s.stc.timing ∧
    (receive n s).stc.motion = s.stc.motion ∧ (receive n s).stc.thread = s.stc.thread ∧
    (receive n s).stc.joinTimer = s.stc.joinTimer ∧ (receive n s).stc.lastRefusal = s.stc.lastRefusal ∧
    (receive n s).prt = s.prt := by
  simp only [receive]
  (repeat' split) <;> simp

@[simp] theorem raiseEvent_frame (n : AngleName) (s : Station) :
    (raiseEvent n s).resetLow = s.resetLow ∧ (raiseEvent n s).now = s.now ∧ (raiseEvent n s).pins = s.pins ∧
    (raiseEvent n s).sht.angle = s.sht.angle ∧ (raiseEvent n s).sht.synced = s.sht.synced ∧
    (raiseEvent n s).sht.lag = s.sht.lag ∧ (raiseEvent n s).sht.run = s.sht.run ∧
    (raiseEvent n s).sht.period = s.sht.period ∧ (raiseEvent n s).sht.chain = s.sht.chain ∧
    (raiseEvent n s).sht.indexAt = s.sht.indexAt ∧ (raiseEvent n s).sht.stillFrom = s.sht.stillFrom ∧
    (raiseEvent n s).sht.atRest = s.sht.atRest ∧ (raiseEvent n s).sht.onTop = s.sht.onTop ∧
    (raiseEvent n s).stc.addr = s.stc.addr ∧ (raiseEvent n s).stc.headRole = s.stc.headRole ∧
    (raiseEvent n s).stc.frameRole = s.stc.frameRole ∧ (raiseEvent n s).stc.lock = s.stc.lock ∧
    (raiseEvent n s).stc.roster = s.stc.roster ∧ (raiseEvent n s).stc.timing = s.stc.timing ∧
    (raiseEvent n s).stc.motion = s.stc.motion ∧ (raiseEvent n s).stc.thread = s.stc.thread ∧
    (raiseEvent n s).stc.joinTimer = s.stc.joinTimer ∧ (raiseEvent n s).stc.lastRefusal = s.stc.lastRefusal ∧
    (raiseEvent n s).prt = s.prt := by simp [raiseEvent]

@[simp] theorem raiseIfDue_frame (s : Station) (n : AngleName) :
    (raiseIfDue s n).resetLow = s.resetLow ∧ (raiseIfDue s n).now = s.now ∧ (raiseIfDue s n).pins = s.pins ∧
    (raiseIfDue s n).sht.angle = s.sht.angle ∧ (raiseIfDue s n).sht.synced = s.sht.synced ∧
    (raiseIfDue s n).sht.lag = s.sht.lag ∧ (raiseIfDue s n).sht.run = s.sht.run ∧
    (raiseIfDue s n).sht.period = s.sht.period ∧ (raiseIfDue s n).sht.chain = s.sht.chain ∧
    (raiseIfDue s n).sht.indexAt = s.sht.indexAt ∧ (raiseIfDue s n).sht.stillFrom = s.sht.stillFrom ∧
    (raiseIfDue s n).sht.atRest = s.sht.atRest ∧ (raiseIfDue s n).sht.onTop = s.sht.onTop ∧
    (raiseIfDue s n).stc.addr = s.stc.addr ∧ (raiseIfDue s n).stc.headRole = s.stc.headRole ∧
    (raiseIfDue s n).stc.frameRole = s.stc.frameRole ∧ (raiseIfDue s n).stc.lock = s.stc.lock ∧
    (raiseIfDue s n).stc.roster = s.stc.roster ∧ (raiseIfDue s n).stc.timing = s.stc.timing ∧
    (raiseIfDue s n).stc.motion = s.stc.motion ∧ (raiseIfDue s n).stc.thread = s.stc.thread ∧
    (raiseIfDue s n).stc.joinTimer = s.stc.joinTimer ∧ (raiseIfDue s n).stc.lastRefusal = s.stc.lastRefusal ∧
    (raiseIfDue s n).prt = s.prt := by
  simp only [raiseIfDue]
  (repeat' split) <;> simp

@[simp] theorem raiseEvents_frame (s : Station) :
    (raiseEvents s).resetLow = s.resetLow ∧ (raiseEvents s).now = s.now ∧ (raiseEvents s).pins = s.pins ∧
    (raiseEvents s).sht.angle = s.sht.angle ∧ (raiseEvents s).sht.synced = s.sht.synced ∧
    (raiseEvents s).sht.lag = s.sht.lag ∧ (raiseEvents s).sht.run = s.sht.run ∧
    (raiseEvents s).sht.period = s.sht.period ∧ (raiseEvents s).sht.chain = s.sht.chain ∧
    (raiseEvents s).sht.indexAt = s.sht.indexAt ∧ (raiseEvents s).sht.stillFrom = s.sht.stillFrom ∧
    (raiseEvents s).sht.atRest = s.sht.atRest ∧ (raiseEvents s).sht.onTop = s.sht.onTop ∧
    (raiseEvents s).stc.addr = s.stc.addr ∧ (raiseEvents s).stc.headRole = s.stc.headRole ∧
    (raiseEvents s).stc.frameRole = s.stc.frameRole ∧ (raiseEvents s).stc.lock = s.stc.lock ∧
    (raiseEvents s).stc.roster = s.stc.roster ∧ (raiseEvents s).stc.timing = s.stc.timing ∧
    (raiseEvents s).stc.motion = s.stc.motion ∧ (raiseEvents s).stc.thread = s.stc.thread ∧
    (raiseEvents s).stc.joinTimer = s.stc.joinTimer ∧ (raiseEvents s).stc.lastRefusal = s.stc.lastRefusal ∧
    (raiseEvents s).prt = s.prt := by simp [raiseEvents, angleNames]

@[simp] theorem seeLevel_frame (high : Bool) (s : Station) :
    (seeLevel high s).resetLow = s.resetLow ∧ (seeLevel high s).now = s.now ∧ (seeLevel high s).pins = s.pins ∧
    (seeLevel high s).sht = s.sht ∧ (seeLevel high s).stc.addr = s.stc.addr ∧
    (seeLevel high s).stc.headRole = s.stc.headRole ∧ (seeLevel high s).stc.frameRole = s.stc.frameRole ∧
    (seeLevel high s).stc.lock = s.stc.lock ∧ (seeLevel high s).stc.roster = s.stc.roster ∧
    (seeLevel high s).stc.timing = s.stc.timing ∧ (seeLevel high s).stc.motion = s.stc.motion ∧
    (seeLevel high s).stc.thread = s.stc.thread ∧ (seeLevel high s).stc.joinTimer = s.stc.joinTimer ∧
    (seeLevel high s).stc.lastRefusal = s.stc.lastRefusal ∧ (seeLevel high s).pgs = s.pgs ∧
    (seeLevel high s).ssq = s.ssq ∧ (seeLevel high s).thm.counts = s.thm.counts ∧
    (seeLevel high s).thm.service = s.thm.service ∧ (seeLevel high s).hsc.mark = s.hsc.mark := by simp [seeLevel]

@[simp] theorem stall_frame (s : Station) :
    (stall s).resetLow = s.resetLow ∧ (stall s).now = s.now ∧ (stall s).pins = s.pins ∧ (stall s).sht = s.sht ∧
    (stall s).stc.addr = s.stc.addr ∧ (stall s).stc.headRole = s.stc.headRole ∧
    (stall s).stc.frameRole = s.stc.frameRole ∧ (stall s).stc.lock = s.stc.lock ∧
    (stall s).stc.roster = s.stc.roster ∧ (stall s).stc.timing = s.stc.timing ∧ (stall s).stc.motion = s.stc.motion ∧
    (stall s).stc.thread = s.stc.thread ∧ (stall s).stc.joinTimer = s.stc.joinTimer ∧
    (stall s).stc.lastRefusal = s.stc.lastRefusal ∧ (stall s).prt = s.prt ∧ (stall s).pgs = s.pgs ∧
    (stall s).ssq = s.ssq ∧ (stall s).thm = s.thm ∧ (stall s).hsc.mark = s.hsc.mark := by
  simp only [stall]
  (repeat' split) <;> simp

end Sys2Proof.Machine
end

