-- ==== Sys2Proof/Laws/Shaft.lean ====
section
/-! SUPPORT. Laws/Shaft.lean: what the Shaft Tracker leave as they are: for each operation one lemma with every record, and
every item of a record it writes only in part, that it does not touch. -/

namespace Sys2Proof.Machine

@[simp] theorem restLeft_frame (s : Station) :
    (restLeft s).resetLow = s.resetLow ∧ (restLeft s).now = s.now ∧ (restLeft s).pins = s.pins ∧
    (restLeft s).sht.angle = s.sht.angle ∧ (restLeft s).sht.synced = s.sht.synced ∧
    (restLeft s).sht.lag = s.sht.lag ∧ (restLeft s).sht.run = s.sht.run ∧ (restLeft s).sht.raised = s.sht.raised ∧
    (restLeft s).sht.period = s.sht.period ∧ (restLeft s).sht.chain = s.sht.chain ∧
    (restLeft s).sht.indexAt = s.sht.indexAt ∧ (restLeft s).sht.stillFrom = s.sht.stillFrom ∧
    (restLeft s).gtu = s.gtu ∧ (restLeft s).stc = s.stc ∧ (restLeft s).sli = s.sli ∧ (restLeft s).prt = s.prt ∧
    (restLeft s).pgs = s.pgs ∧ (restLeft s).ssq = s.ssq ∧ (restLeft s).pnc = s.pnc ∧ (restLeft s).ncc = s.ncc ∧
    (restLeft s).thm = s.thm ∧ (restLeft s).hsc = s.hsc := by simp [restLeft]

@[simp] theorem countArrives_frame (s : Station) :
    (countArrives s).resetLow = s.resetLow ∧ (countArrives s).now = s.now ∧ (countArrives s).pins = s.pins ∧
    (countArrives s).sht.angle = s.sht.angle ∧ (countArrives s).sht.synced = s.sht.synced ∧
    (countArrives s).sht.lag = s.sht.lag ∧ (countArrives s).sht.run = s.sht.run ∧
    (countArrives s).sht.raised = s.sht.raised ∧ (countArrives s).sht.period = s.sht.period ∧
    (countArrives s).sht.chain = s.sht.chain ∧ (countArrives s).sht.indexAt = s.sht.indexAt ∧
    (countArrives s).stc = s.stc ∧ (countArrives s).sli = s.sli ∧ (countArrives s).prt = s.prt ∧
    (countArrives s).pgs = s.pgs ∧ (countArrives s).ssq = s.ssq ∧ (countArrives s).pnc = s.pnc ∧
    (countArrives s).ncc = s.ncc ∧ (countArrives s).thm = s.thm ∧ (countArrives s).hsc = s.hsc := by
  simp only [countArrives]
  (repeat' split) <;> simp

@[simp] theorem presentTension_frame (t : Nat) (s : Station) :
    (presentTension t s).resetLow = s.resetLow ∧ (presentTension t s).now = s.now ∧
    (presentTension t s).sht = s.sht ∧ (presentTension t s).gtu = s.gtu ∧ (presentTension t s).stc = s.stc ∧
    (presentTension t s).sli = s.sli ∧ (presentTension t s).prt = s.prt ∧ (presentTension t s).pgs = s.pgs ∧
    (presentTension t s).ssq = s.ssq ∧ (presentTension t s).pnc = s.pnc ∧ (presentTension t s).sgv = s.sgv ∧
    (presentTension t s).ncc = s.ncc ∧ (presentTension t s).thm.counts = s.thm.counts ∧
    (presentTension t s).thm.service = s.thm.service ∧ (presentTension t s).hsc = s.hsc := by
  simp only [presentTension]
  (repeat' split) <;> simp

@[simp] theorem loseSync_frame (s : Station) :
    (loseSync s).resetLow = s.resetLow ∧ (loseSync s).now = s.now ∧ (loseSync s).pins = s.pins ∧
    (loseSync s).sht.angle = s.sht.angle ∧ (loseSync s).sht.lag = s.sht.lag ∧ (loseSync s).sht.run = s.sht.run ∧
    (loseSync s).sht.indexAt = s.sht.indexAt ∧ (loseSync s).sht.stillFrom = s.sht.stillFrom ∧
    (loseSync s).sht.atRest = s.sht.atRest ∧ (loseSync s).gtu = s.gtu ∧ (loseSync s).stc = s.stc ∧
    (loseSync s).sli = s.sli ∧ (loseSync s).prt = s.prt ∧ (loseSync s).pgs = s.pgs ∧ (loseSync s).ssq = s.ssq ∧
    (loseSync s).pnc = s.pnc ∧ (loseSync s).ncc = s.ncc ∧ (loseSync s).thm = s.thm ∧ (loseSync s).hsc = s.hsc := by simp [loseSync]

@[simp] theorem encoderFault_frame (s : Station) :
    (encoderFault s).resetLow = s.resetLow ∧ (encoderFault s).now = s.now ∧ (encoderFault s).pins = s.pins ∧
    (encoderFault s).sht.angle = s.sht.angle ∧ (encoderFault s).sht.lag = s.sht.lag ∧
    (encoderFault s).sht.run = s.sht.run ∧ (encoderFault s).sht.indexAt = s.sht.indexAt ∧
    (encoderFault s).sht.stillFrom = s.sht.stillFrom ∧ (encoderFault s).sht.atRest = s.sht.atRest ∧
    (encoderFault s).stc.addr = s.stc.addr ∧ (encoderFault s).stc.headRole = s.stc.headRole ∧
    (encoderFault s).stc.frameRole = s.stc.frameRole ∧ (encoderFault s).stc.lock = s.stc.lock ∧
    (encoderFault s).stc.roster = s.stc.roster ∧ (encoderFault s).stc.timing = s.stc.timing ∧
    (encoderFault s).stc.motion = s.stc.motion ∧ (encoderFault s).stc.thread = s.stc.thread ∧
    (encoderFault s).stc.joinTimer = s.stc.joinTimer ∧ (encoderFault s).stc.lastRefusal = s.stc.lastRefusal ∧
    (encoderFault s).prt = s.prt ∧ (encoderFault s).pgs = s.pgs ∧ (encoderFault s).ssq = s.ssq ∧
    (encoderFault s).thm.counts = s.thm.counts ∧ (encoderFault s).thm.service = s.thm.service ∧
    (encoderFault s).hsc.mark = s.hsc.mark := by simp [encoderFault]

@[simp] theorem advance_frame (s : Station) :
    (advance s).resetLow = s.resetLow ∧ (advance s).now = s.now ∧ (advance s).pins = s.pins ∧
    (advance s).sht.lag = s.sht.lag ∧ (advance s).sht.indexAt = s.sht.indexAt ∧
    (advance s).sht.stillFrom = s.sht.stillFrom ∧ (advance s).sht.atRest = s.sht.atRest ∧
    (advance s).stc.addr = s.stc.addr ∧ (advance s).stc.headRole = s.stc.headRole ∧
    (advance s).stc.frameRole = s.stc.frameRole ∧ (advance s).stc.lock = s.stc.lock ∧
    (advance s).stc.roster = s.stc.roster ∧ (advance s).stc.timing = s.stc.timing ∧
    (advance s).stc.motion = s.stc.motion ∧ (advance s).stc.thread = s.stc.thread ∧
    (advance s).stc.joinTimer = s.stc.joinTimer ∧ (advance s).stc.lastRefusal = s.stc.lastRefusal ∧
    (advance s).prt = s.prt := by
  simp only [advance]
  (repeat' split) <;> simp

@[simp] theorem countForward_frame (t : Nat) (s : Station) :
    (countForward t s).resetLow = s.resetLow ∧ (countForward t s).now = s.now ∧
    (countForward t s).sht.indexAt = s.sht.indexAt ∧ (countForward t s).stc.addr = s.stc.addr ∧
    (countForward t s).stc.headRole = s.stc.headRole ∧ (countForward t s).stc.frameRole = s.stc.frameRole ∧
    (countForward t s).stc.lock = s.stc.lock ∧ (countForward t s).stc.roster = s.stc.roster ∧
    (countForward t s).stc.timing = s.stc.timing ∧ (countForward t s).stc.motion = s.stc.motion ∧
    (countForward t s).stc.thread = s.stc.thread ∧ (countForward t s).stc.joinTimer = s.stc.joinTimer ∧
    (countForward t s).stc.lastRefusal = s.stc.lastRefusal ∧ (countForward t s).prt = s.prt := by
  simp only [countForward]
  (repeat' split) <;> simp

@[simp] theorem countReverse_frame (t : Nat) (s : Station) :
    (countReverse t s).resetLow = s.resetLow ∧ (countReverse t s).now = s.now ∧
    (countReverse t s).sht.run = s.sht.run ∧ (countReverse t s).sht.indexAt = s.sht.indexAt ∧
    (countReverse t s).stc.addr = s.stc.addr ∧ (countReverse t s).stc.headRole = s.stc.headRole ∧
    (countReverse t s).stc.frameRole = s.stc.frameRole ∧ (countReverse t s).stc.lock = s.stc.lock ∧
    (countReverse t s).stc.roster = s.stc.roster ∧ (countReverse t s).stc.timing = s.stc.timing ∧
    (countReverse t s).stc.motion = s.stc.motion ∧ (countReverse t s).stc.thread = s.stc.thread ∧
    (countReverse t s).stc.joinTimer = s.stc.joinTimer ∧ (countReverse t s).stc.lastRefusal = s.stc.lastRefusal ∧
    (countReverse t s).prt = s.prt ∧ (countReverse t s).pgs = s.pgs ∧ (countReverse t s).ssq = s.ssq ∧
    (countReverse t s).thm.counts = s.thm.counts ∧ (countReverse t s).thm.service = s.thm.service ∧
    (countReverse t s).hsc.mark = s.hsc.mark := by
  simp only [countReverse]
  (repeat' split) <;> simp

@[simp] theorem takePeriod_frame (s : Station) :
    (takePeriod s).resetLow = s.resetLow ∧ (takePeriod s).now = s.now ∧ (takePeriod s).pins = s.pins ∧
    (takePeriod s).sht = s.sht ∧ (takePeriod s).stc.addr = s.stc.addr ∧
    (takePeriod s).stc.headRole = s.stc.headRole ∧ (takePeriod s).stc.frameRole = s.stc.frameRole ∧
    (takePeriod s).stc.lock = s.stc.lock ∧ (takePeriod s).stc.roster = s.stc.roster ∧
    (takePeriod s).stc.timing = s.stc.timing ∧ (takePeriod s).stc.motion = s.stc.motion ∧
    (takePeriod s).stc.thread = s.stc.thread ∧ (takePeriod s).stc.joinTimer = s.stc.joinTimer ∧
    (takePeriod s).stc.lastRefusal = s.stc.lastRefusal ∧ (takePeriod s).prt = s.prt ∧ (takePeriod s).pgs = s.pgs ∧
    (takePeriod s).ssq = s.ssq ∧ (takePeriod s).thm = s.thm ∧ (takePeriod s).hsc.mark = s.hsc.mark := by
  simp only [takePeriod]
  (repeat' split) <;> simp

@[simp] theorem capture_frame (s : Station) :
    (capture s).resetLow = s.resetLow ∧ (capture s).now = s.now ∧ (capture s).pins = s.pins ∧
    (capture s).sht.angle = s.sht.angle ∧ (capture s).sht.synced = s.sht.synced ∧ (capture s).sht.lag = s.sht.lag ∧
    (capture s).sht.run = s.sht.run ∧ (capture s).sht.raised = s.sht.raised ∧
    (capture s).sht.stillFrom = s.sht.stillFrom ∧ (capture s).sht.atRest = s.sht.atRest ∧
    (capture s).sht.onTop = s.sht.onTop ∧ (capture s).stc.addr = s.stc.addr ∧
    (capture s).stc.headRole = s.stc.headRole ∧ (capture s).stc.frameRole = s.stc.frameRole ∧
    (capture s).stc.lock = s.stc.lock ∧ (capture s).stc.roster = s.stc.roster ∧
    (capture s).stc.timing = s.stc.timing ∧ (capture s).stc.motion = s.stc.motion ∧
    (capture s).stc.thread = s.stc.thread ∧ (capture s).stc.joinTimer = s.stc.joinTimer ∧
    (capture s).stc.lastRefusal = s.stc.lastRefusal ∧ (capture s).prt = s.prt ∧ (capture s).pgs = s.pgs ∧
    (capture s).ssq = s.ssq ∧ (capture s).thm = s.thm ∧ (capture s).hsc.mark = s.hsc.mark := by
  simp only [capture]
  (repeat' split) <;> simp

@[simp] theorem sweep_frame (n : Nat) (s : Station) :
    (sweep n s).resetLow = s.resetLow ∧ (sweep n s).now = s.now ∧ (sweep n s).pins = s.pins ∧
    (sweep n s).sht.synced = s.sht.synced ∧ (sweep n s).sht.lag = s.sht.lag ∧ (sweep n s).sht.run = s.sht.run ∧
    (sweep n s).sht.period = s.sht.period ∧ (sweep n s).sht.chain = s.sht.chain ∧
    (sweep n s).sht.indexAt = s.sht.indexAt ∧ (sweep n s).sht.stillFrom = s.sht.stillFrom ∧
    (sweep n s).sht.atRest = s.sht.atRest ∧ (sweep n s).sht.onTop = s.sht.onTop ∧ (sweep n s).stc.addr = s.stc.addr ∧
    (sweep n s).stc.headRole = s.stc.headRole ∧ (sweep n s).stc.frameRole = s.stc.frameRole ∧
    (sweep n s).stc.lock = s.stc.lock ∧ (sweep n s).stc.roster = s.stc.roster ∧
    (sweep n s).stc.timing = s.stc.timing ∧ (sweep n s).stc.motion = s.stc.motion ∧
    (sweep n s).stc.thread = s.stc.thread ∧ (sweep n s).stc.joinTimer = s.stc.joinTimer ∧
    (sweep n s).stc.lastRefusal = s.stc.lastRefusal ∧ (sweep n s).prt = s.prt := by
  induction n generalizing s with
  | zero => simp [sweep]
  | succ n ih =>
    simp only [sweep]
    (repeat' split) <;> simp [*]

@[simp] theorem indexBegins_frame (s : Station) :
    (indexBegins s).resetLow = s.resetLow ∧ (indexBegins s).now = s.now ∧ (indexBegins s).pins = s.pins ∧
    (indexBegins s).sht.synced = s.sht.synced ∧ (indexBegins s).sht.lag = s.sht.lag ∧
    (indexBegins s).sht.period = s.sht.period ∧ (indexBegins s).sht.chain = s.sht.chain ∧
    (indexBegins s).sht.indexAt = s.sht.indexAt ∧ (indexBegins s).sht.stillFrom = s.sht.stillFrom ∧
    (indexBegins s).sht.atRest = s.sht.atRest ∧ (indexBegins s).sht.onTop = s.sht.onTop ∧
    (indexBegins s).stc.addr = s.stc.addr ∧ (indexBegins s).stc.headRole = s.stc.headRole ∧
    (indexBegins s).stc.frameRole = s.stc.frameRole ∧ (indexBegins s).stc.lock = s.stc.lock ∧
    (indexBegins s).stc.roster = s.stc.roster ∧ (indexBegins s).stc.timing = s.stc.timing ∧
    (indexBegins s).stc.motion = s.stc.motion ∧ (indexBegins s).stc.thread = s.stc.thread ∧
    (indexBegins s).stc.joinTimer = s.stc.joinTimer ∧ (indexBegins s).stc.lastRefusal = s.stc.lastRefusal ∧
    (indexBegins s).prt = s.prt := by simp [indexBegins]

@[simp] theorem indexSyncs_frame (s : Station) :
    (indexSyncs s).resetLow = s.resetLow ∧ (indexSyncs s).now = s.now ∧ (indexSyncs s).pins = s.pins ∧
    (indexSyncs s).sht.period = s.sht.period ∧ (indexSyncs s).sht.indexAt = s.sht.indexAt ∧
    (indexSyncs s).sht.stillFrom = s.sht.stillFrom ∧ (indexSyncs s).sht.atRest = s.sht.atRest ∧
    (indexSyncs s).stc.addr = s.stc.addr ∧ (indexSyncs s).stc.headRole = s.stc.headRole ∧
    (indexSyncs s).stc.frameRole = s.stc.frameRole ∧ (indexSyncs s).stc.lock = s.stc.lock ∧
    (indexSyncs s).stc.roster = s.stc.roster ∧ (indexSyncs s).stc.timing = s.stc.timing ∧
    (indexSyncs s).stc.motion = s.stc.motion ∧ (indexSyncs s).stc.thread = s.stc.thread ∧
    (indexSyncs s).stc.joinTimer = s.stc.joinTimer ∧ (indexSyncs s).stc.lastRefusal = s.stc.lastRefusal ∧
    (indexSyncs s).prt = s.prt := by simp [indexSyncs]

@[simp] theorem takeIndex_frame (s : Station) :
    (takeIndex s).resetLow = s.resetLow ∧ (takeIndex s).now = s.now ∧ (takeIndex s).pins = s.pins ∧
    (takeIndex s).sht.stillFrom = s.sht.stillFrom ∧ (takeIndex s).sht.atRest = s.sht.atRest ∧
    (takeIndex s).stc.addr = s.stc.addr ∧ (takeIndex s).stc.headRole = s.stc.headRole ∧
    (takeIndex s).stc.frameRole = s.stc.frameRole ∧ (takeIndex s).stc.lock = s.stc.lock ∧
    (takeIndex s).stc.roster = s.stc.roster ∧ (takeIndex s).stc.timing = s.stc.timing ∧
    (takeIndex s).stc.motion = s.stc.motion ∧ (takeIndex s).stc.thread = s.stc.thread ∧
    (takeIndex s).stc.joinTimer = s.stc.joinTimer ∧ (takeIndex s).stc.lastRefusal = s.stc.lastRefusal ∧
    (takeIndex s).prt = s.prt := by
  simp only [takeIndex]
  (repeat' split) <;> simp

@[simp] theorem judgeRest_frame (s : Station) :
    (judgeRest s).resetLow = s.resetLow ∧ (judgeRest s).now = s.now ∧ (judgeRest s).pins = s.pins ∧
    (judgeRest s).sht.angle = s.sht.angle ∧ (judgeRest s).sht.synced = s.sht.synced ∧
    (judgeRest s).sht.lag = s.sht.lag ∧ (judgeRest s).sht.run = s.sht.run ∧ (judgeRest s).sht.raised = s.sht.raised ∧
    (judgeRest s).sht.indexAt = s.sht.indexAt ∧ (judgeRest s).sht.stillFrom = s.sht.stillFrom ∧
    (judgeRest s).gtu = s.gtu ∧ (judgeRest s).stc = s.stc ∧ (judgeRest s).sli = s.sli ∧ (judgeRest s).prt = s.prt ∧
    (judgeRest s).pgs = s.pgs ∧ (judgeRest s).ssq = s.ssq ∧ (judgeRest s).pnc = s.pnc ∧ (judgeRest s).ncc = s.ncc ∧
    (judgeRest s).thm = s.thm ∧ (judgeRest s).hsc = s.hsc := by simp [judgeRest]

@[simp] theorem retryStep_frame (st : CaseStep) (s : Station) :
    (retryStep st s).resetLow = s.resetLow ∧ (retryStep st s).now = s.now ∧ (retryStep st s).pins = s.pins ∧
    (retryStep st s).sht = s.sht ∧ (retryStep st s).gtu = s.gtu ∧ (retryStep st s).stc = s.stc ∧
    (retryStep st s).sli = s.sli ∧ (retryStep st s).prt = s.prt ∧ (retryStep st s).pgs = s.pgs ∧
    (retryStep st s).ssq = s.ssq ∧ (retryStep st s).pnc = s.pnc ∧ (retryStep st s).sgv = s.sgv ∧
    (retryStep st s).thm = s.thm ∧ (retryStep st s).hsc = s.hsc := by simp [retryStep]

@[simp] theorem caseAtRest_frame (s : Station) :
    (caseAtRest s).resetLow = s.resetLow ∧ (caseAtRest s).now = s.now ∧ (caseAtRest s).pins = s.pins ∧
    (caseAtRest s).sht = s.sht ∧ (caseAtRest s).gtu = s.gtu ∧ (caseAtRest s).stc = s.stc ∧
    (caseAtRest s).sli = s.sli ∧ (caseAtRest s).prt = s.prt ∧ (caseAtRest s).pgs = s.pgs ∧
    (caseAtRest s).ssq = s.ssq ∧ (caseAtRest s).pnc = s.pnc ∧ (caseAtRest s).sgv = s.sgv ∧
    (caseAtRest s).thm = s.thm ∧ (caseAtRest s).hsc = s.hsc := by
  simp only [caseAtRest]
  (repeat' split) <;> simp

@[simp] theorem pantographAtRest_frame (s : Station) :
    (pantographAtRest s).resetLow = s.resetLow ∧ (pantographAtRest s).now = s.now ∧
    (pantographAtRest s).pins = s.pins ∧ (pantographAtRest s).sht = s.sht ∧
    (pantographAtRest s).stc.addr = s.stc.addr ∧ (pantographAtRest s).stc.headRole = s.stc.headRole ∧
    (pantographAtRest s).stc.frameRole = s.stc.frameRole ∧ (pantographAtRest s).stc.lock = s.stc.lock ∧
    (pantographAtRest s).stc.roster = s.stc.roster ∧ (pantographAtRest s).stc.timing = s.stc.timing ∧
    (pantographAtRest s).stc.motion = s.stc.motion ∧ (pantographAtRest s).stc.thread = s.stc.thread ∧
    (pantographAtRest s).stc.joinTimer = s.stc.joinTimer ∧ (pantographAtRest s).stc.lastRefusal = s.stc.lastRefusal ∧
    (pantographAtRest s).prt = s.prt ∧ (pantographAtRest s).pgs = s.pgs ∧ (pantographAtRest s).ssq = s.ssq ∧
    (pantographAtRest s).thm = s.thm ∧ (pantographAtRest s).hsc.mark = s.hsc.mark := by
  simp only [pantographAtRest]
  (repeat' split) <;> simp

@[simp] theorem governorAtRest_frame (inSequence : Bool) (s : Station) :
    (governorAtRest inSequence s).resetLow = s.resetLow ∧ (governorAtRest inSequence s).now = s.now ∧
    (governorAtRest inSequence s).pins = s.pins ∧ (governorAtRest inSequence s).sht = s.sht ∧
    (governorAtRest inSequence s).stc.addr = s.stc.addr ∧
    (governorAtRest inSequence s).stc.headRole = s.stc.headRole ∧
    (governorAtRest inSequence s).stc.frameRole = s.stc.frameRole ∧
    (governorAtRest inSequence s).stc.lock = s.stc.lock ∧ (governorAtRest inSequence s).stc.roster = s.stc.roster ∧
    (governorAtRest inSequence s).stc.timing = s.stc.timing ∧
    (governorAtRest inSequence s).stc.motion = s.stc.motion ∧
    (governorAtRest inSequence s).stc.thread = s.stc.thread ∧
    (governorAtRest inSequence s).stc.joinTimer = s.stc.joinTimer ∧
    (governorAtRest inSequence s).stc.lastRefusal = s.stc.lastRefusal ∧ (governorAtRest inSequence s).prt = s.prt ∧
    (governorAtRest inSequence s).pgs = s.pgs ∧ (governorAtRest inSequence s).ssq = s.ssq ∧
    (governorAtRest inSequence s).thm = s.thm ∧ (governorAtRest inSequence s).hsc.mark = s.hsc.mark := by
  simp only [governorAtRest]
  (repeat' split) <;> simp

@[simp] theorem commitAtRest_frame (s : Station) :
    (commitAtRest s).resetLow = s.resetLow ∧ (commitAtRest s).now = s.now ∧ (commitAtRest s).pins = s.pins ∧
    (commitAtRest s).sht = s.sht ∧ (commitAtRest s).stc.addr = s.stc.addr ∧
    (commitAtRest s).stc.headRole = s.stc.headRole ∧ (commitAtRest s).stc.frameRole = s.stc.frameRole ∧
    (commitAtRest s).stc.lock = s.stc.lock ∧ (commitAtRest s).stc.roster = s.stc.roster ∧
    (commitAtRest s).stc.timing = s.stc.timing ∧ (commitAtRest s).stc.motion = s.stc.motion ∧
    (commitAtRest s).stc.thread = s.stc.thread ∧ (commitAtRest s).stc.joinTimer = s.stc.joinTimer ∧
    (commitAtRest s).stc.lastRefusal = s.stc.lastRefusal ∧ (commitAtRest s).pgs = s.pgs ∧
    (commitAtRest s).ssq = s.ssq ∧ (commitAtRest s).thm.counts = s.thm.counts ∧
    (commitAtRest s).thm.service = s.thm.service ∧ (commitAtRest s).hsc.mark = s.hsc.mark := by
  simp only [commitAtRest]
  (repeat' split) <;> simp

@[simp] theorem comeToRest_frame (s : Station) :
    (comeToRest s).resetLow = s.resetLow ∧ (comeToRest s).now = s.now ∧ (comeToRest s).pins = s.pins ∧
    (comeToRest s).sht.angle = s.sht.angle ∧ (comeToRest s).sht.synced = s.sht.synced ∧
    (comeToRest s).sht.lag = s.sht.lag ∧ (comeToRest s).sht.run = s.sht.run ∧
    (comeToRest s).sht.raised = s.sht.raised ∧ (comeToRest s).sht.indexAt = s.sht.indexAt ∧
    (comeToRest s).sht.stillFrom = s.sht.stillFrom ∧ (comeToRest s).stc.addr = s.stc.addr ∧
    (comeToRest s).stc.headRole = s.stc.headRole ∧ (comeToRest s).stc.frameRole = s.stc.frameRole ∧
    (comeToRest s).stc.lock = s.stc.lock ∧ (comeToRest s).stc.roster = s.stc.roster ∧
    (comeToRest s).stc.timing = s.stc.timing ∧ (comeToRest s).stc.motion = s.stc.motion ∧
    (comeToRest s).stc.thread = s.stc.thread ∧ (comeToRest s).stc.joinTimer = s.stc.joinTimer ∧
    (comeToRest s).stc.lastRefusal = s.stc.lastRefusal ∧ (comeToRest s).pgs = s.pgs ∧ (comeToRest s).ssq = s.ssq ∧
    (comeToRest s).thm.counts = s.thm.counts ∧ (comeToRest s).thm.service = s.thm.service ∧
    (comeToRest s).hsc.mark = s.hsc.mark := by
  simp only [comeToRest]
  (repeat' split) <;> simp

end Sys2Proof.Machine
end

