-- ==== Sys2Proof/Laws/Events.lean ====
section
/-! SUPPORT. Laws/Events.lean: what the drive, the needle case, the peers and the transmit slot leave as they are: for each operation one lemma with every record, and
every item of a record it writes only in part, that it does not touch. -/

namespace Sys2Proof.Machine

@[simp] theorem creepLosesDrive_frame (s : Station) :
    (creepLosesDrive s).resetLow = s.resetLow ∧ (creepLosesDrive s).now = s.now ∧ (creepLosesDrive s).pins = s.pins ∧
    (creepLosesDrive s).sht = s.sht ∧ (creepLosesDrive s).gtu = s.gtu ∧ (creepLosesDrive s).stc = s.stc ∧
    (creepLosesDrive s).sli = s.sli ∧ (creepLosesDrive s).prt = s.prt ∧ (creepLosesDrive s).pgs = s.pgs ∧
    (creepLosesDrive s).ssq = s.ssq ∧ (creepLosesDrive s).pnc = s.pnc ∧ (creepLosesDrive s).ncc = s.ncc ∧
    (creepLosesDrive s).thm = s.thm ∧ (creepLosesDrive s).hsc = s.hsc := by
  simp only [creepLosesDrive]
  (repeat' split) <;> simp

@[simp] theorem driveFalls_frame (s : Station) :
    (driveFalls s).resetLow = s.resetLow ∧ (driveFalls s).now = s.now ∧ (driveFalls s).pins = s.pins ∧
    (driveFalls s).sht = s.sht ∧ (driveFalls s).stc.addr = s.stc.addr ∧
    (driveFalls s).stc.headRole = s.stc.headRole ∧ (driveFalls s).stc.frameRole = s.stc.frameRole ∧
    (driveFalls s).stc.lock = s.stc.lock ∧ (driveFalls s).stc.roster = s.stc.roster ∧
    (driveFalls s).stc.timing = s.stc.timing ∧ (driveFalls s).stc.motion = s.stc.motion ∧
    (driveFalls s).stc.thread = s.stc.thread ∧ (driveFalls s).stc.joinTimer = s.stc.joinTimer ∧
    (driveFalls s).stc.lastRefusal = s.stc.lastRefusal ∧ (driveFalls s).prt = s.prt ∧ (driveFalls s).pgs = s.pgs ∧
    (driveFalls s).ssq = s.ssq ∧ (driveFalls s).thm = s.thm ∧ (driveFalls s).hsc.mark = s.hsc.mark := by
  simp only [driveFalls]
  (repeat' split) <;> simp

@[simp] theorem driveReadyFall_frame (s : Station) :
    (driveReadyFall s).resetLow = s.resetLow ∧ (driveReadyFall s).now = s.now ∧ (driveReadyFall s).sht = s.sht ∧
    (driveReadyFall s).stc.addr = s.stc.addr ∧ (driveReadyFall s).stc.headRole = s.stc.headRole ∧
    (driveReadyFall s).stc.frameRole = s.stc.frameRole ∧ (driveReadyFall s).stc.lock = s.stc.lock ∧
    (driveReadyFall s).stc.roster = s.stc.roster ∧ (driveReadyFall s).stc.timing = s.stc.timing ∧
    (driveReadyFall s).stc.motion = s.stc.motion ∧ (driveReadyFall s).stc.thread = s.stc.thread ∧
    (driveReadyFall s).stc.joinTimer = s.stc.joinTimer ∧ (driveReadyFall s).stc.lastRefusal = s.stc.lastRefusal ∧
    (driveReadyFall s).prt = s.prt ∧ (driveReadyFall s).pgs = s.pgs ∧ (driveReadyFall s).ssq = s.ssq ∧
    (driveReadyFall s).thm = s.thm ∧ (driveReadyFall s).hsc.mark = s.hsc.mark := by
  simp only [driveReadyFall]
  (repeat' split) <;> simp

@[simp] theorem sequenceGoesOn_frame (s : Station) :
    (sequenceGoesOn s).resetLow = s.resetLow ∧ (sequenceGoesOn s).now = s.now ∧ (sequenceGoesOn s).pins = s.pins ∧
    (sequenceGoesOn s).sht = s.sht ∧ (sequenceGoesOn s).gtu = s.gtu ∧ (sequenceGoesOn s).stc = s.stc ∧
    (sequenceGoesOn s).sli = s.sli ∧ (sequenceGoesOn s).prt = s.prt ∧ (sequenceGoesOn s).pgs = s.pgs ∧
    (sequenceGoesOn s).ssq = s.ssq ∧ (sequenceGoesOn s).pnc = s.pnc ∧ (sequenceGoesOn s).ncc = s.ncc ∧
    (sequenceGoesOn s).thm = s.thm ∧ (sequenceGoesOn s).hsc = s.hsc := by
  simp only [sequenceGoesOn]
  (repeat' split) <;> simp

@[simp] theorem driveRises_frame (s : Station) :
    (driveRises s).resetLow = s.resetLow ∧ (driveRises s).now = s.now ∧ (driveRises s).pins = s.pins ∧
    (driveRises s).sht = s.sht ∧ (driveRises s).gtu = s.gtu ∧ (driveRises s).stc = s.stc ∧
    (driveRises s).sli = s.sli ∧ (driveRises s).prt = s.prt ∧ (driveRises s).pgs = s.pgs ∧
    (driveRises s).ssq = s.ssq ∧ (driveRises s).pnc = s.pnc ∧ (driveRises s).ncc = s.ncc ∧
    (driveRises s).thm = s.thm ∧ (driveRises s).hsc = s.hsc := by
  simp only [driveRises]
  (repeat' split) <;> simp

@[simp] theorem driveReadyRise_frame (s : Station) :
    (driveReadyRise s).resetLow = s.resetLow ∧ (driveReadyRise s).now = s.now ∧ (driveReadyRise s).sht = s.sht ∧
    (driveReadyRise s).gtu = s.gtu ∧ (driveReadyRise s).stc = s.stc ∧ (driveReadyRise s).sli = s.sli ∧
    (driveReadyRise s).prt = s.prt ∧ (driveReadyRise s).pgs = s.pgs ∧ (driveReadyRise s).ssq = s.ssq ∧
    (driveReadyRise s).pnc = s.pnc ∧ (driveReadyRise s).ncc = s.ncc ∧ (driveReadyRise s).thm = s.thm ∧
    (driveReadyRise s).hsc = s.hsc := by
  simp only [driveReadyRise]
  (repeat' split) <;> simp

@[simp] theorem creepEnds_frame (s : Station) :
    (creepEnds s).resetLow = s.resetLow ∧ (creepEnds s).now = s.now ∧ (creepEnds s).pins = s.pins ∧
    (creepEnds s).sht = s.sht ∧ (creepEnds s).stc.addr = s.stc.addr ∧
    (creepEnds s).stc.headRole = s.stc.headRole ∧ (creepEnds s).stc.frameRole = s.stc.frameRole ∧
    (creepEnds s).stc.lock = s.stc.lock ∧ (creepEnds s).stc.roster = s.stc.roster ∧
    (creepEnds s).stc.timing = s.stc.timing ∧ (creepEnds s).stc.motion = s.stc.motion ∧
    (creepEnds s).stc.thread = s.stc.thread ∧ (creepEnds s).stc.joinTimer = s.stc.joinTimer ∧
    (creepEnds s).stc.lastRefusal = s.stc.lastRefusal ∧ (creepEnds s).prt = s.prt ∧
    (creepEnds s).pgs = s.pgs ∧ (creepEnds s).ssq = s.ssq ∧ (creepEnds s).thm = s.thm ∧
    (creepEnds s).hsc.mark = s.hsc.mark := by
  simp only [creepEnds]
  (repeat' split) <;> simp

@[simp] theorem creepRunsOut_frame (s : Station) :
    (creepRunsOut s).resetLow = s.resetLow ∧ (creepRunsOut s).now = s.now ∧ (creepRunsOut s).pins = s.pins ∧
    (creepRunsOut s).sht = s.sht ∧ (creepRunsOut s).stc.addr = s.stc.addr ∧
    (creepRunsOut s).stc.headRole = s.stc.headRole ∧ (creepRunsOut s).stc.frameRole = s.stc.frameRole ∧
    (creepRunsOut s).stc.lock = s.stc.lock ∧ (creepRunsOut s).stc.roster = s.stc.roster ∧
    (creepRunsOut s).stc.timing = s.stc.timing ∧ (creepRunsOut s).stc.motion = s.stc.motion ∧
    (creepRunsOut s).stc.thread = s.stc.thread ∧ (creepRunsOut s).stc.joinTimer = s.stc.joinTimer ∧
    (creepRunsOut s).stc.lastRefusal = s.stc.lastRefusal ∧ (creepRunsOut s).prt = s.prt ∧
    (creepRunsOut s).pgs = s.pgs ∧ (creepRunsOut s).ssq = s.ssq ∧ (creepRunsOut s).thm = s.thm ∧
    (creepRunsOut s).hsc.mark = s.hsc.mark := by
  simp only [creepRunsOut]
  (repeat' split) <;> simp

@[simp] theorem endStep_frame (s : Station) :
    (endStep s).resetLow = s.resetLow ∧ (endStep s).now = s.now ∧ (endStep s).pins = s.pins ∧
    (endStep s).sht = s.sht ∧ (endStep s).gtu = s.gtu ∧ (endStep s).stc = s.stc ∧ (endStep s).sli = s.sli ∧
    (endStep s).prt = s.prt ∧ (endStep s).pgs = s.pgs ∧ (endStep s).ssq = s.ssq ∧ (endStep s).pnc = s.pnc ∧
    (endStep s).sgv = s.sgv ∧ (endStep s).thm = s.thm ∧ (endStep s).hsc = s.hsc := by simp [endStep]

@[simp] theorem markSuccess_frame (st : CaseStep) (s : Station) :
    (markSuccess st s).resetLow = s.resetLow ∧ (markSuccess st s).now = s.now ∧ (markSuccess st s).pins = s.pins ∧
    (markSuccess st s).sht = s.sht ∧ (markSuccess st s).gtu = s.gtu ∧ (markSuccess st s).stc = s.stc ∧
    (markSuccess st s).sli = s.sli ∧ (markSuccess st s).prt = s.prt ∧ (markSuccess st s).pgs = s.pgs ∧
    (markSuccess st s).ssq = s.ssq ∧ (markSuccess st s).pnc = s.pnc ∧ (markSuccess st s).sgv = s.sgv ∧
    (markSuccess st s).thm = s.thm ∧ (markSuccess st s).hsc = s.hsc := by
  simp only [markSuccess]
  split <;> simp

@[simp] theorem stopCase_frame (why : CaseStopped) (fr : FaultRecord) (s : Station) :
    (stopCase why fr s).resetLow = s.resetLow ∧ (stopCase why fr s).now = s.now ∧ (stopCase why fr s).pins = s.pins ∧
    (stopCase why fr s).sht = s.sht ∧ (stopCase why fr s).stc.addr = s.stc.addr ∧
    (stopCase why fr s).stc.headRole = s.stc.headRole ∧ (stopCase why fr s).stc.frameRole = s.stc.frameRole ∧
    (stopCase why fr s).stc.lock = s.stc.lock ∧ (stopCase why fr s).stc.roster = s.stc.roster ∧
    (stopCase why fr s).stc.timing = s.stc.timing ∧ (stopCase why fr s).stc.motion = s.stc.motion ∧
    (stopCase why fr s).stc.thread = s.stc.thread ∧ (stopCase why fr s).stc.joinTimer = s.stc.joinTimer ∧
    (stopCase why fr s).stc.lastRefusal = s.stc.lastRefusal ∧ (stopCase why fr s).prt = s.prt ∧
    (stopCase why fr s).pgs = s.pgs ∧ (stopCase why fr s).ssq = s.ssq ∧ (stopCase why fr s).thm = s.thm ∧
    (stopCase why fr s).hsc.mark = s.hsc.mark := by simp [stopCase]

@[simp] theorem sensorInStep_frame (st : CaseStep) (s : Station) :
    (sensorInStep st s).resetLow = s.resetLow ∧ (sensorInStep st s).now = s.now ∧ (sensorInStep st s).pins = s.pins ∧
    (sensorInStep st s).sht = s.sht ∧ (sensorInStep st s).stc.addr = s.stc.addr ∧
    (sensorInStep st s).stc.headRole = s.stc.headRole ∧ (sensorInStep st s).stc.frameRole = s.stc.frameRole ∧
    (sensorInStep st s).stc.lock = s.stc.lock ∧ (sensorInStep st s).stc.roster = s.stc.roster ∧
    (sensorInStep st s).stc.timing = s.stc.timing ∧ (sensorInStep st s).stc.motion = s.stc.motion ∧
    (sensorInStep st s).stc.thread = s.stc.thread ∧ (sensorInStep st s).stc.joinTimer = s.stc.joinTimer ∧
    (sensorInStep st s).stc.lastRefusal = s.stc.lastRefusal ∧ (sensorInStep st s).prt = s.prt ∧
    (sensorInStep st s).pgs = s.pgs ∧ (sensorInStep st s).ssq = s.ssq ∧ (sensorInStep st s).thm = s.thm ∧
    (sensorInStep st s).hsc.mark = s.hsc.mark := by
  simp only [sensorInStep]
  (repeat' split) <;> simp

@[simp] theorem sensorAlone_frame (before : Nat) (s : Station) :
    (sensorAlone before s).resetLow = s.resetLow ∧ (sensorAlone before s).now = s.now ∧
    (sensorAlone before s).pins = s.pins ∧ (sensorAlone before s).sht = s.sht ∧
    (sensorAlone before s).stc.addr = s.stc.addr ∧ (sensorAlone before s).stc.headRole = s.stc.headRole ∧
    (sensorAlone before s).stc.frameRole = s.stc.frameRole ∧ (sensorAlone before s).stc.lock = s.stc.lock ∧
    (sensorAlone before s).stc.roster = s.stc.roster ∧ (sensorAlone before s).stc.timing = s.stc.timing ∧
    (sensorAlone before s).stc.motion = s.stc.motion ∧ (sensorAlone before s).stc.thread = s.stc.thread ∧
    (sensorAlone before s).stc.joinTimer = s.stc.joinTimer ∧
    (sensorAlone before s).stc.lastRefusal = s.stc.lastRefusal ∧ (sensorAlone before s).prt = s.prt ∧
    (sensorAlone before s).pgs = s.pgs ∧ (sensorAlone before s).ssq = s.ssq ∧ (sensorAlone before s).thm = s.thm ∧
    (sensorAlone before s).hsc.mark = s.hsc.mark := by
  simp only [sensorAlone]
  (repeat' split) <;> simp

@[simp] theorem sensorChange_frame (before : Nat) (s : Station) :
    (sensorChange before s).resetLow = s.resetLow ∧ (sensorChange before s).now = s.now ∧
    (sensorChange before s).pins = s.pins ∧ (sensorChange before s).sht = s.sht ∧
    (sensorChange before s).stc.addr = s.stc.addr ∧ (sensorChange before s).stc.headRole = s.stc.headRole ∧
    (sensorChange before s).stc.frameRole = s.stc.frameRole ∧ (sensorChange before s).stc.lock = s.stc.lock ∧
    (sensorChange before s).stc.roster = s.stc.roster ∧ (sensorChange before s).stc.timing = s.stc.timing ∧
    (sensorChange before s).stc.motion = s.stc.motion ∧ (sensorChange before s).stc.thread = s.stc.thread ∧
    (sensorChange before s).stc.joinTimer = s.stc.joinTimer ∧
    (sensorChange before s).stc.lastRefusal = s.stc.lastRefusal ∧ (sensorChange before s).prt = s.prt ∧
    (sensorChange before s).pgs = s.pgs ∧ (sensorChange before s).ssq = s.ssq ∧
    (sensorChange before s).thm.counts = s.thm.counts ∧ (sensorChange before s).thm.service = s.thm.service ∧
    (sensorChange before s).hsc.mark = s.hsc.mark := by
  simp only [sensorChange]
  (repeat' split) <;> simp

@[simp] theorem caseJam_frame (st : CaseStep) (s : Station) :
    (caseJam st s).resetLow = s.resetLow ∧ (caseJam st s).now = s.now ∧ (caseJam st s).pins = s.pins ∧
    (caseJam st s).sht = s.sht ∧ (caseJam st s).stc.addr = s.stc.addr ∧
    (caseJam st s).stc.headRole = s.stc.headRole ∧ (caseJam st s).stc.frameRole = s.stc.frameRole ∧
    (caseJam st s).stc.lock = s.stc.lock ∧ (caseJam st s).stc.roster = s.stc.roster ∧
    (caseJam st s).stc.timing = s.stc.timing ∧ (caseJam st s).stc.motion = s.stc.motion ∧
    (caseJam st s).stc.thread = s.stc.thread ∧ (caseJam st s).stc.joinTimer = s.stc.joinTimer ∧
    (caseJam st s).stc.lastRefusal = s.stc.lastRefusal ∧ (caseJam st s).prt = s.prt ∧ (caseJam st s).pgs = s.pgs ∧
    (caseJam st s).ssq = s.ssq ∧ (caseJam st s).thm = s.thm ∧ (caseJam st s).hsc.mark = s.hsc.mark := by simp [caseJam]

@[simp] theorem stepRunsOut_frame (st : CaseStep) (s : Station) :
    (stepRunsOut st s).resetLow = s.resetLow ∧ (stepRunsOut st s).now = s.now ∧ (stepRunsOut st s).pins = s.pins ∧
    (stepRunsOut st s).sht = s.sht ∧ (stepRunsOut st s).stc.addr = s.stc.addr ∧
    (stepRunsOut st s).stc.headRole = s.stc.headRole ∧ (stepRunsOut st s).stc.frameRole = s.stc.frameRole ∧
    (stepRunsOut st s).stc.lock = s.stc.lock ∧ (stepRunsOut st s).stc.roster = s.stc.roster ∧
    (stepRunsOut st s).stc.timing = s.stc.timing ∧ (stepRunsOut st s).stc.motion = s.stc.motion ∧
    (stepRunsOut st s).stc.thread = s.stc.thread ∧ (stepRunsOut st s).stc.joinTimer = s.stc.joinTimer ∧
    (stepRunsOut st s).stc.lastRefusal = s.stc.lastRefusal ∧ (stepRunsOut st s).prt = s.prt ∧
    (stepRunsOut st s).pgs = s.pgs ∧ (stepRunsOut st s).ssq = s.ssq ∧ (stepRunsOut st s).thm = s.thm ∧
    (stepRunsOut st s).hsc.mark = s.hsc.mark := by
  simp only [stepRunsOut]
  (repeat' split) <;> simp

@[simp] theorem stepTimeout_frame (s : Station) :
    (stepTimeout s).resetLow = s.resetLow ∧ (stepTimeout s).now = s.now ∧ (stepTimeout s).pins = s.pins ∧
    (stepTimeout s).sht = s.sht ∧ (stepTimeout s).stc.addr = s.stc.addr ∧
    (stepTimeout s).stc.headRole = s.stc.headRole ∧ (stepTimeout s).stc.frameRole = s.stc.frameRole ∧
    (stepTimeout s).stc.lock = s.stc.lock ∧ (stepTimeout s).stc.roster = s.stc.roster ∧
    (stepTimeout s).stc.timing = s.stc.timing ∧ (stepTimeout s).stc.motion = s.stc.motion ∧
    (stepTimeout s).stc.thread = s.stc.thread ∧ (stepTimeout s).stc.joinTimer = s.stc.joinTimer ∧
    (stepTimeout s).stc.lastRefusal = s.stc.lastRefusal ∧ (stepTimeout s).prt = s.prt ∧ (stepTimeout s).pgs = s.pgs ∧
    (stepTimeout s).ssq = s.ssq ∧ (stepTimeout s).thm = s.thm ∧ (stepTimeout s).hsc.mark = s.hsc.mark := by
  simp only [stepTimeout]
  (repeat' split) <;> simp

@[simp] theorem settleRunsOut_frame (s : Station) :
    (settleRunsOut s).resetLow = s.resetLow ∧ (settleRunsOut s).now = s.now ∧ (settleRunsOut s).pins = s.pins ∧
    (settleRunsOut s).sht = s.sht ∧ (settleRunsOut s).gtu = s.gtu ∧ (settleRunsOut s).stc = s.stc ∧
    (settleRunsOut s).sli = s.sli ∧ (settleRunsOut s).prt = s.prt ∧ (settleRunsOut s).pgs = s.pgs ∧
    (settleRunsOut s).ssq = s.ssq ∧ (settleRunsOut s).pnc = s.pnc ∧ (settleRunsOut s).sgv = s.sgv ∧
    (settleRunsOut s).thm.counts = s.thm.counts ∧ (settleRunsOut s).thm.service = s.thm.service ∧
    (settleRunsOut s).hsc = s.hsc := by
  simp only [settleRunsOut]
  (repeat' split) <;> simp

@[simp] theorem setPeer_frame (addr : Nat) (f : PeerEntry → PeerEntry) (s : Station) :
    (setPeer addr f s).resetLow = s.resetLow ∧ (setPeer addr f s).now = s.now ∧ (setPeer addr f s).pins = s.pins ∧
    (setPeer addr f s).sht = s.sht ∧ (setPeer addr f s).gtu = s.gtu ∧ (setPeer addr f s).stc = s.stc ∧
    (setPeer addr f s).sli = s.sli ∧ (setPeer addr f s).pgs = s.pgs ∧ (setPeer addr f s).ssq = s.ssq ∧
    (setPeer addr f s).pnc = s.pnc ∧ (setPeer addr f s).sgv = s.sgv ∧ (setPeer addr f s).ncc = s.ncc ∧
    (setPeer addr f s).thm = s.thm ∧ (setPeer addr f s).hsc = s.hsc := by simp [setPeer]

@[simp] theorem handActivity_frame (e : PeerEntry) (s : Station) :
    (handActivity e s).resetLow = s.resetLow ∧ (handActivity e s).now = s.now ∧ (handActivity e s).pins = s.pins ∧
    (handActivity e s).sht = s.sht ∧ (handActivity e s).stc.addr = s.stc.addr ∧
    (handActivity e s).stc.headRole = s.stc.headRole ∧ (handActivity e s).stc.frameRole = s.stc.frameRole ∧
    (handActivity e s).stc.lock = s.stc.lock ∧ (handActivity e s).stc.roster = s.stc.roster ∧
    (handActivity e s).stc.timing = s.stc.timing ∧ (handActivity e s).stc.motion = s.stc.motion ∧
    (handActivity e s).stc.thread = s.stc.thread ∧ (handActivity e s).stc.joinTimer = s.stc.joinTimer ∧
    (handActivity e s).stc.lastRefusal = s.stc.lastRefusal ∧ (handActivity e s).prt = s.prt ∧
    (handActivity e s).pgs = s.pgs ∧ (handActivity e s).ssq = s.ssq ∧ (handActivity e s).thm = s.thm ∧
    (handActivity e s).hsc.mark = s.hsc.mark := by
  simp only [handActivity]
  (repeat' split) <;> simp

@[simp] theorem copyStitch_frame (k : Walk) (n : Nat) (s : Station) :
    (copyStitch k n s).resetLow = s.resetLow ∧ (copyStitch k n s).now = s.now ∧ (copyStitch k n s).pins = s.pins ∧
    (copyStitch k n s).sht = s.sht ∧ (copyStitch k n s).stc.addr = s.stc.addr ∧
    (copyStitch k n s).stc.headRole = s.stc.headRole ∧ (copyStitch k n s).stc.frameRole = s.stc.frameRole ∧
    (copyStitch k n s).stc.lock = s.stc.lock ∧ (copyStitch k n s).stc.roster = s.stc.roster ∧
    (copyStitch k n s).stc.timing = s.stc.timing ∧ (copyStitch k n s).stc.motion = s.stc.motion ∧
    (copyStitch k n s).stc.thread = s.stc.thread ∧ (copyStitch k n s).stc.joinTimer = s.stc.joinTimer ∧
    (copyStitch k n s).stc.lastRefusal = s.stc.lastRefusal ∧ (copyStitch k n s).prt = s.prt ∧
    (copyStitch k n s).thm.counts = s.thm.counts ∧ (copyStitch k n s).thm.service = s.thm.service ∧
    (copyStitch k n s).hsc.mark = s.hsc.mark := by simp [copyStitch]

@[simp] theorem headWalkEnd_frame (k : Walk) (i : StatusItems) (s : Station) :
    (headWalkEnd k i s).resetLow = s.resetLow ∧ (headWalkEnd k i s).now = s.now ∧ (headWalkEnd k i s).pins = s.pins ∧
    (headWalkEnd k i s).sht = s.sht ∧ (headWalkEnd k i s).stc.addr = s.stc.addr ∧
    (headWalkEnd k i s).stc.headRole = s.stc.headRole ∧ (headWalkEnd k i s).stc.frameRole = s.stc.frameRole ∧
    (headWalkEnd k i s).stc.lock = s.stc.lock ∧ (headWalkEnd k i s).stc.roster = s.stc.roster ∧
    (headWalkEnd k i s).stc.timing = s.stc.timing ∧ (headWalkEnd k i s).stc.motion = s.stc.motion ∧
    (headWalkEnd k i s).stc.thread = s.stc.thread ∧ (headWalkEnd k i s).stc.joinTimer = s.stc.joinTimer ∧
    (headWalkEnd k i s).stc.lastRefusal = s.stc.lastRefusal ∧ (headWalkEnd k i s).prt = s.prt ∧
    (headWalkEnd k i s).thm.counts = s.thm.counts ∧ (headWalkEnd k i s).thm.service = s.thm.service ∧
    (headWalkEnd k i s).hsc.mark = s.hsc.mark := by
  simp only [headWalkEnd]
  (repeat' split) <;> simp

@[simp] theorem handFrameStitch_frame (e : PeerEntry) (i : StatusItems) (s : Station) :
    (handFrameStitch e i s).resetLow = s.resetLow ∧ (handFrameStitch e i s).now = s.now ∧
    (handFrameStitch e i s).pins = s.pins ∧ (handFrameStitch e i s).sht = s.sht ∧
    (handFrameStitch e i s).stc.addr = s.stc.addr ∧ (handFrameStitch e i s).stc.headRole = s.stc.headRole ∧
    (handFrameStitch e i s).stc.frameRole = s.stc.frameRole ∧ (handFrameStitch e i s).stc.lock = s.stc.lock ∧
    (handFrameStitch e i s).stc.roster = s.stc.roster ∧ (handFrameStitch e i s).stc.timing = s.stc.timing ∧
    (handFrameStitch e i s).stc.motion = s.stc.motion ∧ (handFrameStitch e i s).stc.thread = s.stc.thread ∧
    (handFrameStitch e i s).stc.joinTimer = s.stc.joinTimer ∧
    (handFrameStitch e i s).stc.lastRefusal = s.stc.lastRefusal ∧ (handFrameStitch e i s).prt = s.prt ∧
    (handFrameStitch e i s).thm.counts = s.thm.counts ∧ (handFrameStitch e i s).thm.service = s.thm.service ∧
    (handFrameStitch e i s).hsc.mark = s.hsc.mark := by
  simp only [handFrameStitch]
  (repeat' split) <;> simp

@[simp] theorem handPeerRest_frame (i : StatusItems) (s : Station) :
    (handPeerRest i s).resetLow = s.resetLow ∧ (handPeerRest i s).now = s.now ∧ (handPeerRest i s).pins = s.pins ∧
    (handPeerRest i s).sht = s.sht ∧ (handPeerRest i s).gtu = s.gtu ∧ (handPeerRest i s).stc = s.stc ∧
    (handPeerRest i s).sli = s.sli ∧ (handPeerRest i s).prt = s.prt ∧ (handPeerRest i s).pgs = s.pgs ∧
    (handPeerRest i s).ssq = s.ssq ∧ (handPeerRest i s).pnc = s.pnc ∧ (handPeerRest i s).ncc = s.ncc ∧
    (handPeerRest i s).thm = s.thm ∧ (handPeerRest i s).hsc = s.hsc := by
  simp only [handPeerRest]
  (repeat' split) <;> simp

@[simp] theorem judgePeerHalt_frame (i : StatusItems) (s : Station) :
    (judgePeerHalt i s).resetLow = s.resetLow ∧ (judgePeerHalt i s).now = s.now ∧ (judgePeerHalt i s).pins = s.pins ∧
    (judgePeerHalt i s).sht = s.sht ∧ (judgePeerHalt i s).stc.addr = s.stc.addr ∧
    (judgePeerHalt i s).stc.headRole = s.stc.headRole ∧ (judgePeerHalt i s).stc.frameRole = s.stc.frameRole ∧
    (judgePeerHalt i s).stc.lock = s.stc.lock ∧ (judgePeerHalt i s).stc.roster = s.stc.roster ∧
    (judgePeerHalt i s).stc.timing = s.stc.timing ∧ (judgePeerHalt i s).stc.motion = s.stc.motion ∧
    (judgePeerHalt i s).stc.thread = s.stc.thread ∧ (judgePeerHalt i s).stc.joinTimer = s.stc.joinTimer ∧
    (judgePeerHalt i s).stc.lastRefusal = s.stc.lastRefusal ∧ (judgePeerHalt i s).prt = s.prt ∧
    (judgePeerHalt i s).pgs = s.pgs ∧ (judgePeerHalt i s).ssq = s.ssq ∧ (judgePeerHalt i s).thm = s.thm ∧
    (judgePeerHalt i s).hsc.mark = s.hsc.mark := by
  simp only [judgePeerHalt]
  (repeat' split) <;> simp

@[simp] theorem judgeIndex_frame (addr : Nat) (i : StatusItems) (s : Station) :
    (judgeIndex addr i s).resetLow = s.resetLow ∧ (judgeIndex addr i s).now = s.now ∧
    (judgeIndex addr i s).pins = s.pins ∧ (judgeIndex addr i s).sht = s.sht ∧
    (judgeIndex addr i s).stc.addr = s.stc.addr ∧ (judgeIndex addr i s).stc.headRole = s.stc.headRole ∧
    (judgeIndex addr i s).stc.frameRole = s.stc.frameRole ∧ (judgeIndex addr i s).stc.lock = s.stc.lock ∧
    (judgeIndex addr i s).stc.roster = s.stc.roster ∧ (judgeIndex addr i s).stc.timing = s.stc.timing ∧
    (judgeIndex addr i s).stc.motion = s.stc.motion ∧ (judgeIndex addr i s).stc.thread = s.stc.thread ∧
    (judgeIndex addr i s).stc.joinTimer = s.stc.joinTimer ∧
    (judgeIndex addr i s).stc.lastRefusal = s.stc.lastRefusal ∧ (judgeIndex addr i s).pgs = s.pgs ∧
    (judgeIndex addr i s).ssq = s.ssq ∧ (judgeIndex addr i s).thm = s.thm ∧
    (judgeIndex addr i s).hsc.mark = s.hsc.mark := by
  simp only [judgeIndex]
  (repeat' split) <;> simp

@[simp] theorem hearPeer_frame (e : PeerEntry) (i : StatusItems) (s : Station) :
    (hearPeer e i s).resetLow = s.resetLow ∧ (hearPeer e i s).now = s.now ∧ (hearPeer e i s).pins = s.pins ∧
    (hearPeer e i s).sht = s.sht ∧ (hearPeer e i s).stc.addr = s.stc.addr ∧
    (hearPeer e i s).stc.headRole = s.stc.headRole ∧ (hearPeer e i s).stc.frameRole = s.stc.frameRole ∧
    (hearPeer e i s).stc.lock = s.stc.lock ∧ (hearPeer e i s).stc.roster = s.stc.roster ∧
    (hearPeer e i s).stc.timing = s.stc.timing ∧ (hearPeer e i s).stc.motion = s.stc.motion ∧
    (hearPeer e i s).stc.thread = s.stc.thread ∧ (hearPeer e i s).stc.joinTimer = s.stc.joinTimer ∧
    (hearPeer e i s).stc.lastRefusal = s.stc.lastRefusal ∧ (hearPeer e i s).thm.counts = s.thm.counts ∧
    (hearPeer e i s).thm.service = s.thm.service ∧ (hearPeer e i s).hsc.mark = s.hsc.mark := by simp [hearPeer]

@[simp] theorem takeStatus_frame (src : Addr) (p : Payload) (s : Station) :
    (takeStatus src p s).resetLow = s.resetLow ∧ (takeStatus src p s).now = s.now ∧
    (takeStatus src p s).pins = s.pins ∧ (takeStatus src p s).sht = s.sht := by
  simp only [takeStatus]
  (repeat' split) <;> simp

@[simp] theorem walkLosesPeer_frame (e : PeerEntry) (s : Station) :
    (walkLosesPeer e s).resetLow = s.resetLow ∧ (walkLosesPeer e s).now = s.now ∧ (walkLosesPeer e s).pins = s.pins ∧
    (walkLosesPeer e s).sht = s.sht ∧ (walkLosesPeer e s).gtu = s.gtu ∧ (walkLosesPeer e s).stc = s.stc ∧
    (walkLosesPeer e s).sli = s.sli ∧ (walkLosesPeer e s).prt = s.prt ∧ (walkLosesPeer e s).pgs = s.pgs ∧
    (walkLosesPeer e s).ssq.stitch = s.ssq.stitch ∧ (walkLosesPeer e s).pnc = s.pnc ∧
    (walkLosesPeer e s).sgv = s.sgv ∧ (walkLosesPeer e s).ncc = s.ncc ∧ (walkLosesPeer e s).thm = s.thm ∧
    (walkLosesPeer e s).hsc = s.hsc := by
  simp only [walkLosesPeer]
  (repeat' split) <;> simp

@[simp] theorem losePeer_frame (e : PeerEntry) (s : Station) :
    (losePeer e s).resetLow = s.resetLow ∧ (losePeer e s).now = s.now ∧ (losePeer e s).pins = s.pins ∧
    (losePeer e s).sht = s.sht ∧ (losePeer e s).stc.addr = s.stc.addr ∧
    (losePeer e s).stc.headRole = s.stc.headRole ∧ (losePeer e s).stc.frameRole = s.stc.frameRole ∧
    (losePeer e s).stc.lock = s.stc.lock ∧ (losePeer e s).stc.roster = s.stc.roster ∧
    (losePeer e s).stc.timing = s.stc.timing ∧ (losePeer e s).stc.motion = s.stc.motion ∧
    (losePeer e s).stc.thread = s.stc.thread ∧ (losePeer e s).stc.joinTimer = s.stc.joinTimer ∧
    (losePeer e s).stc.lastRefusal = s.stc.lastRefusal ∧ (losePeer e s).pgs = s.pgs ∧
    (losePeer e s).ssq.stitch = s.ssq.stitch ∧ (losePeer e s).thm = s.thm ∧ (losePeer e s).hsc.mark = s.hsc.mark := by
  simp only [losePeer]
  (repeat' split) <;> simp

@[simp] theorem ageRunsOut_frame (addr : Addr) (s : Station) :
    (ageRunsOut addr s).resetLow = s.resetLow ∧ (ageRunsOut addr s).now = s.now ∧ (ageRunsOut addr s).pins = s.pins ∧
    (ageRunsOut addr s).sht = s.sht ∧ (ageRunsOut addr s).stc.addr = s.stc.addr ∧
    (ageRunsOut addr s).stc.headRole = s.stc.headRole ∧ (ageRunsOut addr s).stc.frameRole = s.stc.frameRole ∧
    (ageRunsOut addr s).stc.lock = s.stc.lock ∧ (ageRunsOut addr s).stc.roster = s.stc.roster ∧
    (ageRunsOut addr s).stc.timing = s.stc.timing ∧ (ageRunsOut addr s).stc.motion = s.stc.motion ∧
    (ageRunsOut addr s).stc.thread = s.stc.thread ∧ (ageRunsOut addr s).stc.joinTimer = s.stc.joinTimer ∧
    (ageRunsOut addr s).stc.lastRefusal = s.stc.lastRefusal ∧ (ageRunsOut addr s).pgs = s.pgs ∧
    (ageRunsOut addr s).ssq.stitch = s.ssq.stitch ∧ (ageRunsOut addr s).thm = s.thm ∧
    (ageRunsOut addr s).hsc.mark = s.hsc.mark := by
  simp only [ageRunsOut]
  (repeat' split) <;> simp

@[simp] theorem attemptStatus_frame (s : Station) :
    (attemptStatus s).resetLow = s.resetLow ∧ (attemptStatus s).now = s.now ∧ (attemptStatus s).pins = s.pins ∧
    (attemptStatus s).sht = s.sht ∧ (attemptStatus s).gtu = s.gtu ∧ (attemptStatus s).stc = s.stc ∧
    (attemptStatus s).prt = s.prt ∧ (attemptStatus s).pgs = s.pgs ∧ (attemptStatus s).ssq = s.ssq ∧
    (attemptStatus s).pnc = s.pnc ∧ (attemptStatus s).sgv = s.sgv ∧ (attemptStatus s).ncc = s.ncc ∧
    (attemptStatus s).thm = s.thm ∧ (attemptStatus s).hsc = s.hsc := by
  simp only [attemptStatus]
  (repeat' split) <;> simp

@[simp] theorem yieldLine_frame (s : Station) :
    (yieldLine s).resetLow = s.resetLow ∧ (yieldLine s).now = s.now ∧ (yieldLine s).pins = s.pins ∧
    (yieldLine s).sht = s.sht ∧ (yieldLine s).gtu = s.gtu ∧ (yieldLine s).stc = s.stc ∧ (yieldLine s).prt = s.prt ∧
    (yieldLine s).pgs = s.pgs ∧ (yieldLine s).ssq = s.ssq ∧ (yieldLine s).pnc = s.pnc ∧ (yieldLine s).sgv = s.sgv ∧
    (yieldLine s).ncc = s.ncc ∧ (yieldLine s).thm = s.thm ∧ (yieldLine s).hsc = s.hsc := by simp [yieldLine]

@[simp] theorem statusIsSent_frame (s : Station) :
    (statusIsSent s).resetLow = s.resetLow ∧ (statusIsSent s).now = s.now ∧ (statusIsSent s).pins = s.pins ∧
    (statusIsSent s).sht = s.sht ∧ (statusIsSent s).gtu = s.gtu ∧ (statusIsSent s).stc = s.stc ∧
    (statusIsSent s).prt = s.prt ∧ (statusIsSent s).pgs = s.pgs ∧ (statusIsSent s).ssq = s.ssq ∧
    (statusIsSent s).pnc = s.pnc ∧ (statusIsSent s).sgv = s.sgv ∧ (statusIsSent s).ncc = s.ncc ∧
    (statusIsSent s).thm = s.thm ∧ (statusIsSent s).hsc = s.hsc := by
  simp only [statusIsSent]
  (repeat' split) <;> simp

end Sys2Proof.Machine
end

