-- ==== Sys2Proof/Laws/Notices.lean ====
section
/-! SUPPORT. Laws/Notices.lean: what the timers' and the console notices' effects leave as they are: for each operation one lemma with every record, and
every item of a record it writes only in part, that it does not touch. -/

namespace Sys2Proof.Machine

/-- A notice taken through the checks is left alone, refused, or handed to its owner. -/
theorem takeNotice_cases (kind : NoticeKind) (lenOk : Bool) (src : Addr) (p : Payload) (owner : Station → Station) (s : Station) :
    takeNotice kind lenOk src p owner s = s ∨ (∃ r, takeNotice kind lenOk src p owner s = refuse kind r s) ∨
      takeNotice kind lenOk src p owner s = owner s := by
  unfold takeNotice
  (repeat' split) <;> first | exact .inl rfl | exact .inr (.inl ⟨_, rfl⟩) | exact .inr (.inr rfl)

/-- A section checked is held, after which the set may be complete, or refused. -/
theorem holdSection_cases {α : Type} (check : Except RefusalReason α) (hold : α → Station → Station) (s : Station) :
    (∃ a, check = .ok a ∧ holdSection check hold s = sectionHeld (hold a s)) ∨
      (∃ r, check = .error r ∧ holdSection check hold s = refuse .configure r s) := by
  cases check <;> simp [holdSection]

/-- A Go taken through R102 is refused or carried out. -/
theorem goOwner_cases (v : GoVariant) (p : Payload) (act : Station → Station) (s : Station) :
    (∃ r, goRefusal v p s = some r ∧ goOwner v p act s = refuse .pantographGo r s) ∨
      (goRefusal v p s = none ∧ goOwner v p act s = act s) := by
  unfold goOwner
  cases goRefusal v p s <;> simp

@[simp] theorem goOneLeg_frame (g : Go) (t : Int × Int) (s : Station) :
    (goOneLeg g t s).resetLow = s.resetLow ∧ (goOneLeg g t s).now = s.now ∧ (goOneLeg g t s).pins = s.pins ∧
    (goOneLeg g t s).sht = s.sht ∧ (goOneLeg g t s).gtu = s.gtu ∧ (goOneLeg g t s).stc = s.stc ∧
    (goOneLeg g t s).sli = s.sli ∧ (goOneLeg g t s).prt = s.prt ∧ (goOneLeg g t s).pgs = s.pgs ∧
    (goOneLeg g t s).ssq = s.ssq ∧ (goOneLeg g t s).sgv = s.sgv ∧ (goOneLeg g t s).ncc = s.ncc ∧
    (goOneLeg g t s).thm = s.thm ∧ (goOneLeg g t s).hsc = s.hsc := by
  simp only [goOneLeg]
  (repeat' split) <;> simp

@[simp] theorem goReturn_frame (s : Station) :
    (goReturn s).resetLow = s.resetLow ∧ (goReturn s).now = s.now ∧ (goReturn s).pins = s.pins ∧
    (goReturn s).sht = s.sht ∧ (goReturn s).gtu = s.gtu ∧ (goReturn s).stc = s.stc ∧ (goReturn s).sli = s.sli ∧
    (goReturn s).prt = s.prt ∧ (goReturn s).pgs = s.pgs ∧ (goReturn s).ssq = s.ssq ∧ (goReturn s).sgv = s.sgv ∧
    (goReturn s).ncc = s.ncc ∧ (goReturn s).thm = s.thm ∧ (goReturn s).hsc = s.hsc := by
  simp [Sys2Proof.Machine.goReturn]

@[simp] theorem armRunsOut_frame (s : Station) :
    (armRunsOut s).resetLow = s.resetLow ∧ (armRunsOut s).now = s.now ∧ (armRunsOut s).pins = s.pins ∧
    (armRunsOut s).sht = s.sht ∧ (armRunsOut s).gtu = s.gtu ∧ (armRunsOut s).stc.addr = s.stc.addr ∧
    (armRunsOut s).stc.headRole = s.stc.headRole ∧ (armRunsOut s).stc.frameRole = s.stc.frameRole ∧
    (armRunsOut s).stc.lock = s.stc.lock ∧ (armRunsOut s).stc.roster = s.stc.roster ∧
    (armRunsOut s).stc.timing = s.stc.timing ∧ (armRunsOut s).stc.motion = s.stc.motion ∧
    (armRunsOut s).stc.thread = s.stc.thread ∧ (armRunsOut s).stc.joinTimer = s.stc.joinTimer ∧
    (armRunsOut s).stc.lastRefusal = s.stc.lastRefusal ∧ (armRunsOut s).prt = s.prt ∧ (armRunsOut s).pgs = s.pgs ∧
    (armRunsOut s).ssq = s.ssq ∧ (armRunsOut s).pnc = s.pnc ∧ (armRunsOut s).thm = s.thm ∧ (armRunsOut s).hsc = s.hsc := by
  simp only [armRunsOut]
  (repeat' split) <;> simp

@[simp] theorem discardSections_frame (s : Station) :
    (discardSections s).resetLow = s.resetLow ∧ (discardSections s).now = s.now ∧ (discardSections s).pins = s.pins ∧
    (discardSections s).sht = s.sht ∧ (discardSections s).gtu = s.gtu ∧ (discardSections s).stc.addr = s.stc.addr ∧
    (discardSections s).stc.headRole = s.stc.headRole ∧ (discardSections s).stc.frameRole = s.stc.frameRole ∧
    (discardSections s).stc.lock = s.stc.lock ∧ (discardSections s).stc.joinTimer = s.stc.joinTimer ∧
    (discardSections s).stc.lastRefusal = s.stc.lastRefusal ∧ (discardSections s).sli = s.sli ∧
    (discardSections s).pgs = s.pgs ∧ (discardSections s).ssq = s.ssq ∧ (discardSections s).sgv = s.sgv ∧
    (discardSections s).ncc = s.ncc ∧ (discardSections s).thm = s.thm ∧ (discardSections s).hsc = s.hsc := by simp [discardSections]

@[simp] theorem joinRunsOut_frame (s : Station) :
    (joinRunsOut s).resetLow = s.resetLow ∧ (joinRunsOut s).now = s.now ∧ (joinRunsOut s).pins = s.pins ∧
    (joinRunsOut s).sht = s.sht ∧ (joinRunsOut s).stc.addr = s.stc.addr ∧
    (joinRunsOut s).stc.headRole = s.stc.headRole ∧ (joinRunsOut s).stc.frameRole = s.stc.frameRole ∧
    (joinRunsOut s).stc.lock = s.stc.lock ∧ (joinRunsOut s).stc.lastRefusal = s.stc.lastRefusal ∧
    (joinRunsOut s).pgs = s.pgs ∧ (joinRunsOut s).ssq = s.ssq ∧ (joinRunsOut s).thm = s.thm ∧
    (joinRunsOut s).hsc.mark = s.hsc.mark := by
  simp only [joinRunsOut]
  (repeat' split) <;> simp

@[simp] theorem stopOwner_frame (s : Station) :
    (stopOwner s).resetLow = s.resetLow ∧ (stopOwner s).now = s.now ∧ (stopOwner s).pins = s.pins ∧
    (stopOwner s).sht = s.sht ∧ (stopOwner s).stc.addr = s.stc.addr ∧ (stopOwner s).stc.headRole = s.stc.headRole ∧
    (stopOwner s).stc.frameRole = s.stc.frameRole ∧ (stopOwner s).stc.lock = s.stc.lock ∧
    (stopOwner s).stc.roster = s.stc.roster ∧ (stopOwner s).stc.timing = s.stc.timing ∧
    (stopOwner s).stc.motion = s.stc.motion ∧ (stopOwner s).stc.thread = s.stc.thread ∧
    (stopOwner s).stc.joinTimer = s.stc.joinTimer ∧ (stopOwner s).stc.lastRefusal = s.stc.lastRefusal ∧
    (stopOwner s).prt = s.prt ∧ (stopOwner s).pgs = s.pgs ∧ (stopOwner s).ssq.stitch = s.ssq.stitch ∧
    (stopOwner s).thm = s.thm ∧ (stopOwner s).hsc.mark = s.hsc.mark := by
  simp only [stopOwner]
  (repeat' split) <;> simp

@[simp] theorem startOwner_frame (s : Station) :
    (startOwner s).resetLow = s.resetLow ∧ (startOwner s).now = s.now ∧ (startOwner s).pins = s.pins ∧
    (startOwner s).sht = s.sht ∧ (startOwner s).gtu = s.gtu ∧ (startOwner s).stc.addr = s.stc.addr ∧
    (startOwner s).stc.headRole = s.stc.headRole ∧ (startOwner s).stc.frameRole = s.stc.frameRole ∧
    (startOwner s).stc.lock = s.stc.lock ∧ (startOwner s).stc.roster = s.stc.roster ∧
    (startOwner s).stc.timing = s.stc.timing ∧ (startOwner s).stc.motion = s.stc.motion ∧
    (startOwner s).stc.thread = s.stc.thread ∧ (startOwner s).stc.joinTimer = s.stc.joinTimer ∧
    (startOwner s).prt = s.prt ∧ (startOwner s).pgs = s.pgs ∧ (startOwner s).ssq = s.ssq ∧
    (startOwner s).thm = s.thm ∧ (startOwner s).hsc.mark = s.hsc.mark := by
  simp only [startOwner]
  (repeat' split) <;> simp

@[simp] theorem setActivity_frame (a : Activity) (s : Station) :
    (setActivity a s).resetLow = s.resetLow ∧ (setActivity a s).now = s.now ∧ (setActivity a s).pins = s.pins ∧
    (setActivity a s).sht = s.sht ∧ (setActivity a s).stc.addr = s.stc.addr ∧
    (setActivity a s).stc.headRole = s.stc.headRole ∧ (setActivity a s).stc.frameRole = s.stc.frameRole ∧
    (setActivity a s).stc.lock = s.stc.lock ∧ (setActivity a s).stc.roster = s.stc.roster ∧
    (setActivity a s).stc.timing = s.stc.timing ∧ (setActivity a s).stc.motion = s.stc.motion ∧
    (setActivity a s).stc.thread = s.stc.thread ∧ (setActivity a s).stc.joinTimer = s.stc.joinTimer ∧
    (setActivity a s).stc.lastRefusal = s.stc.lastRefusal ∧ (setActivity a s).prt = s.prt ∧
    (setActivity a s).pgs = s.pgs ∧ (setActivity a s).ssq = s.ssq ∧ (setActivity a s).thm = s.thm ∧
    (setActivity a s).hsc.mark = s.hsc.mark := by
  simp only [setActivity]
  (repeat' split) <;> simp

@[simp] theorem headSelectOwner_frame (p : Payload) (s : Station) :
    (headSelectOwner p s).resetLow = s.resetLow ∧ (headSelectOwner p s).now = s.now ∧
    (headSelectOwner p s).pins = s.pins ∧ (headSelectOwner p s).sht = s.sht ∧
    (headSelectOwner p s).stc.addr = s.stc.addr ∧ (headSelectOwner p s).stc.headRole = s.stc.headRole ∧
    (headSelectOwner p s).stc.frameRole = s.stc.frameRole ∧ (headSelectOwner p s).stc.lock = s.stc.lock ∧
    (headSelectOwner p s).stc.roster = s.stc.roster ∧ (headSelectOwner p s).stc.timing = s.stc.timing ∧
    (headSelectOwner p s).stc.motion = s.stc.motion ∧ (headSelectOwner p s).stc.thread = s.stc.thread ∧
    (headSelectOwner p s).stc.joinTimer = s.stc.joinTimer ∧
    (headSelectOwner p s).stc.lastRefusal = s.stc.lastRefusal ∧ (headSelectOwner p s).prt = s.prt ∧
    (headSelectOwner p s).pgs = s.pgs ∧ (headSelectOwner p s).ssq = s.ssq ∧ (headSelectOwner p s).thm = s.thm ∧
    (headSelectOwner p s).hsc.mark = s.hsc.mark := by
  simp only [headSelectOwner]
  (repeat' split) <;> simp

@[simp] theorem removeOldest_frame (s : Station) :
    (removeOldest s).resetLow = s.resetLow ∧ (removeOldest s).now = s.now ∧ (removeOldest s).pins = s.pins ∧
    (removeOldest s).sht = s.sht ∧ (removeOldest s).gtu = s.gtu ∧ (removeOldest s).stc.addr = s.stc.addr ∧
    (removeOldest s).stc.headRole = s.stc.headRole ∧ (removeOldest s).stc.frameRole = s.stc.frameRole ∧
    (removeOldest s).stc.lock = s.stc.lock ∧ (removeOldest s).stc.roster = s.stc.roster ∧
    (removeOldest s).stc.timing = s.stc.timing ∧ (removeOldest s).stc.motion = s.stc.motion ∧
    (removeOldest s).stc.thread = s.stc.thread ∧ (removeOldest s).stc.joinTimer = s.stc.joinTimer ∧
    (removeOldest s).stc.lastRefusal = s.stc.lastRefusal ∧ (removeOldest s).sli = s.sli ∧
    (removeOldest s).prt = s.prt ∧ (removeOldest s).pgs = s.pgs ∧ (removeOldest s).ssq = s.ssq ∧
    (removeOldest s).pnc = s.pnc ∧ (removeOldest s).sgv = s.sgv ∧ (removeOldest s).ncc = s.ncc ∧
    (removeOldest s).thm = s.thm ∧ (removeOldest s).hsc = s.hsc := by
  simp only [removeOldest]
  (repeat' split) <;> simp

@[simp] theorem restoreNeedle_frame (n : Nat) (s : Station) :
    (restoreNeedle n s).resetLow = s.resetLow ∧ (restoreNeedle n s).now = s.now ∧ (restoreNeedle n s).pins = s.pins ∧
    (restoreNeedle n s).sht = s.sht ∧ (restoreNeedle n s).gtu = s.gtu ∧ (restoreNeedle n s).stc = s.stc ∧
    (restoreNeedle n s).sli = s.sli ∧ (restoreNeedle n s).prt = s.prt ∧ (restoreNeedle n s).pgs = s.pgs ∧
    (restoreNeedle n s).ssq = s.ssq ∧ (restoreNeedle n s).pnc = s.pnc ∧ (restoreNeedle n s).sgv = s.sgv ∧
    (restoreNeedle n s).ncc = s.ncc ∧ (restoreNeedle n s).hsc = s.hsc := by
  simp only [restoreNeedle]
  (repeat' split) <;> simp

@[simp] theorem faultClearOwner_frame (p : Payload) (s : Station) :
    (faultClearOwner p s).resetLow = s.resetLow ∧ (faultClearOwner p s).now = s.now ∧
    (faultClearOwner p s).pins = s.pins ∧ (faultClearOwner p s).sht = s.sht ∧ (faultClearOwner p s).gtu = s.gtu ∧
    (faultClearOwner p s).stc.addr = s.stc.addr ∧ (faultClearOwner p s).stc.headRole = s.stc.headRole ∧
    (faultClearOwner p s).stc.frameRole = s.stc.frameRole ∧ (faultClearOwner p s).stc.lock = s.stc.lock ∧
    (faultClearOwner p s).stc.roster = s.stc.roster ∧ (faultClearOwner p s).stc.timing = s.stc.timing ∧
    (faultClearOwner p s).stc.motion = s.stc.motion ∧ (faultClearOwner p s).stc.thread = s.stc.thread ∧
    (faultClearOwner p s).stc.joinTimer = s.stc.joinTimer ∧
    (faultClearOwner p s).prt = s.prt ∧ (faultClearOwner p s).pgs = s.pgs ∧ (faultClearOwner p s).ssq = s.ssq ∧
    (faultClearOwner p s).pnc = s.pnc ∧ (faultClearOwner p s).sgv = s.sgv ∧ (faultClearOwner p s).ncc = s.ncc ∧
    (faultClearOwner p s).hsc = s.hsc := by
  simp only [faultClearOwner]
  (repeat' split) <;> simp

@[simp] theorem needleMapOwner_frame (p : Payload) (s : Station) :
    (needleMapOwner p s).resetLow = s.resetLow ∧ (needleMapOwner p s).now = s.now ∧
    (needleMapOwner p s).pins = s.pins ∧ (needleMapOwner p s).sht = s.sht ∧ (needleMapOwner p s).gtu = s.gtu ∧
    (needleMapOwner p s).stc.addr = s.stc.addr ∧ (needleMapOwner p s).stc.headRole = s.stc.headRole ∧
    (needleMapOwner p s).stc.frameRole = s.stc.frameRole ∧ (needleMapOwner p s).stc.lock = s.stc.lock ∧
    (needleMapOwner p s).stc.roster = s.stc.roster ∧ (needleMapOwner p s).stc.timing = s.stc.timing ∧
    (needleMapOwner p s).stc.motion = s.stc.motion ∧ (needleMapOwner p s).stc.thread = s.stc.thread ∧
    (needleMapOwner p s).stc.joinTimer = s.stc.joinTimer ∧
    (needleMapOwner p s).prt = s.prt ∧ (needleMapOwner p s).pgs = s.pgs ∧ (needleMapOwner p s).ssq = s.ssq ∧
    (needleMapOwner p s).pnc = s.pnc ∧ (needleMapOwner p s).sgv = s.sgv ∧
    (needleMapOwner p s).thm.counts = s.thm.counts ∧ (needleMapOwner p s).thm.service = s.thm.service ∧
    (needleMapOwner p s).hsc = s.hsc := by
  simp only [needleMapOwner]
  (repeat' split) <;> simp

@[simp] theorem enterReady_frame (s : Station) :
    (enterReady s).resetLow = s.resetLow ∧ (enterReady s).now = s.now ∧ (enterReady s).pins = s.pins ∧
    (enterReady s).sht = s.sht ∧ (enterReady s).gtu = s.gtu ∧ (enterReady s).stc.addr = s.stc.addr ∧
    (enterReady s).stc.headRole = s.stc.headRole ∧ (enterReady s).stc.frameRole = s.stc.frameRole ∧
    (enterReady s).stc.lock = s.stc.lock ∧ (enterReady s).stc.roster = s.stc.roster ∧
    (enterReady s).stc.timing = s.stc.timing ∧ (enterReady s).stc.motion = s.stc.motion ∧
    (enterReady s).stc.thread = s.stc.thread ∧ (enterReady s).stc.lastRefusal = s.stc.lastRefusal ∧
    (enterReady s).prt = s.prt ∧ (enterReady s).pgs = s.pgs ∧ (enterReady s).ssq = s.ssq ∧
    (enterReady s).pnc = s.pnc ∧ (enterReady s).ncc = s.ncc ∧ (enterReady s).thm = s.thm ∧ (enterReady s).hsc = s.hsc := by simp [enterReady]

@[simp] theorem sectionHeld_frame (s : Station) :
    (sectionHeld s).resetLow = s.resetLow ∧ (sectionHeld s).now = s.now ∧ (sectionHeld s).pins = s.pins ∧
    (sectionHeld s).sht = s.sht ∧ (sectionHeld s).gtu = s.gtu ∧ (sectionHeld s).stc.addr = s.stc.addr ∧
    (sectionHeld s).stc.headRole = s.stc.headRole ∧ (sectionHeld s).stc.frameRole = s.stc.frameRole ∧
    (sectionHeld s).stc.lock = s.stc.lock ∧ (sectionHeld s).stc.roster = s.stc.roster ∧
    (sectionHeld s).stc.timing = s.stc.timing ∧ (sectionHeld s).stc.motion = s.stc.motion ∧
    (sectionHeld s).stc.thread = s.stc.thread ∧ (sectionHeld s).stc.lastRefusal = s.stc.lastRefusal ∧
    (sectionHeld s).prt = s.prt ∧ (sectionHeld s).pgs = s.pgs ∧ (sectionHeld s).ssq = s.ssq ∧
    (sectionHeld s).pnc = s.pnc ∧ (sectionHeld s).ncc = s.ncc ∧ (sectionHeld s).thm = s.thm ∧
    (sectionHeld s).hsc = s.hsc := by
  simp only [sectionHeld]
  (repeat' split) <;> simp

@[simp] theorem holdRoster_frame (es : List RosterEntry) (s : Station) :
    (holdRoster es s).resetLow = s.resetLow ∧ (holdRoster es s).now = s.now ∧ (holdRoster es s).pins = s.pins ∧
    (holdRoster es s).sht = s.sht ∧ (holdRoster es s).gtu = s.gtu ∧ (holdRoster es s).stc.addr = s.stc.addr ∧
    (holdRoster es s).stc.headRole = s.stc.headRole ∧ (holdRoster es s).stc.frameRole = s.stc.frameRole ∧
    (holdRoster es s).stc.lock = s.stc.lock ∧ (holdRoster es s).stc.timing = s.stc.timing ∧
    (holdRoster es s).stc.motion = s.stc.motion ∧ (holdRoster es s).stc.thread = s.stc.thread ∧
    (holdRoster es s).stc.joinTimer = s.stc.joinTimer ∧ (holdRoster es s).stc.lastRefusal = s.stc.lastRefusal ∧
    (holdRoster es s).sli = s.sli ∧ (holdRoster es s).pgs = s.pgs ∧ (holdRoster es s).ssq = s.ssq ∧
    (holdRoster es s).pnc = s.pnc ∧ (holdRoster es s).sgv = s.sgv ∧ (holdRoster es s).ncc = s.ncc ∧
    (holdRoster es s).thm = s.thm ∧ (holdRoster es s).hsc = s.hsc := by simp [holdRoster]

@[simp] theorem rosterOwner_frame (p : Payload) (s : Station) :
    (rosterOwner p s).resetLow = s.resetLow ∧ (rosterOwner p s).now = s.now ∧ (rosterOwner p s).pins = s.pins ∧
    (rosterOwner p s).sht = s.sht ∧ (rosterOwner p s).gtu = s.gtu ∧ (rosterOwner p s).stc.addr = s.stc.addr ∧
    (rosterOwner p s).stc.headRole = s.stc.headRole ∧ (rosterOwner p s).stc.frameRole = s.stc.frameRole ∧
    (rosterOwner p s).stc.lock = s.stc.lock ∧ (rosterOwner p s).stc.timing = s.stc.timing ∧
    (rosterOwner p s).stc.motion = s.stc.motion ∧ (rosterOwner p s).stc.thread = s.stc.thread ∧
    (rosterOwner p s).pgs = s.pgs ∧ (rosterOwner p s).ssq = s.ssq ∧ (rosterOwner p s).pnc = s.pnc ∧
    (rosterOwner p s).ncc = s.ncc ∧ (rosterOwner p s).thm = s.thm ∧ (rosterOwner p s).hsc = s.hsc := by
  simp only [rosterOwner, holdSection]
  split <;> simp

@[simp] theorem holdTiming_frame (t : TimingSection) (s : Station) :
    (holdTiming t s).resetLow = s.resetLow ∧ (holdTiming t s).now = s.now ∧ (holdTiming t s).pins = s.pins ∧
    (holdTiming t s).sht = s.sht ∧ (holdTiming t s).gtu = s.gtu ∧ (holdTiming t s).stc.addr = s.stc.addr ∧
    (holdTiming t s).stc.headRole = s.stc.headRole ∧ (holdTiming t s).stc.frameRole = s.stc.frameRole ∧
    (holdTiming t s).stc.lock = s.stc.lock ∧ (holdTiming t s).stc.roster = s.stc.roster ∧
    (holdTiming t s).stc.motion = s.stc.motion ∧ (holdTiming t s).stc.thread = s.stc.thread ∧
    (holdTiming t s).stc.joinTimer = s.stc.joinTimer ∧ (holdTiming t s).stc.lastRefusal = s.stc.lastRefusal ∧
    (holdTiming t s).sli = s.sli ∧ (holdTiming t s).prt = s.prt ∧ (holdTiming t s).pgs = s.pgs ∧
    (holdTiming t s).ssq = s.ssq ∧ (holdTiming t s).pnc = s.pnc ∧ (holdTiming t s).sgv = s.sgv ∧
    (holdTiming t s).ncc = s.ncc ∧ (holdTiming t s).thm = s.thm ∧ (holdTiming t s).hsc = s.hsc := by simp [holdTiming]

@[simp] theorem timingOwner_frame (p : Payload) (s : Station) :
    (timingOwner p s).resetLow = s.resetLow ∧ (timingOwner p s).now = s.now ∧ (timingOwner p s).pins = s.pins ∧
    (timingOwner p s).sht = s.sht ∧ (timingOwner p s).gtu = s.gtu ∧ (timingOwner p s).stc.addr = s.stc.addr ∧
    (timingOwner p s).stc.headRole = s.stc.headRole ∧ (timingOwner p s).stc.frameRole = s.stc.frameRole ∧
    (timingOwner p s).stc.lock = s.stc.lock ∧ (timingOwner p s).stc.roster = s.stc.roster ∧
    (timingOwner p s).stc.motion = s.stc.motion ∧ (timingOwner p s).stc.thread = s.stc.thread ∧
    (timingOwner p s).prt = s.prt ∧ (timingOwner p s).pgs = s.pgs ∧ (timingOwner p s).ssq = s.ssq ∧
    (timingOwner p s).pnc = s.pnc ∧ (timingOwner p s).ncc = s.ncc ∧ (timingOwner p s).thm = s.thm ∧
    (timingOwner p s).hsc = s.hsc := by
  simp only [timingOwner, holdSection]
  split <;> simp

@[simp] theorem holdMotion_frame (m : MotionSection) (s : Station) :
    (holdMotion m s).resetLow = s.resetLow ∧ (holdMotion m s).now = s.now ∧ (holdMotion m s).pins = s.pins ∧
    (holdMotion m s).sht = s.sht ∧ (holdMotion m s).gtu = s.gtu ∧ (holdMotion m s).stc.addr = s.stc.addr ∧
    (holdMotion m s).stc.headRole = s.stc.headRole ∧ (holdMotion m s).stc.frameRole = s.stc.frameRole ∧
    (holdMotion m s).stc.lock = s.stc.lock ∧ (holdMotion m s).stc.roster = s.stc.roster ∧
    (holdMotion m s).stc.timing = s.stc.timing ∧ (holdMotion m s).stc.thread = s.stc.thread ∧
    (holdMotion m s).stc.joinTimer = s.stc.joinTimer ∧ (holdMotion m s).stc.lastRefusal = s.stc.lastRefusal ∧
    (holdMotion m s).sli = s.sli ∧ (holdMotion m s).prt = s.prt ∧ (holdMotion m s).pgs = s.pgs ∧
    (holdMotion m s).ssq = s.ssq ∧ (holdMotion m s).sgv = s.sgv ∧ (holdMotion m s).ncc = s.ncc ∧
    (holdMotion m s).thm = s.thm ∧ (holdMotion m s).hsc = s.hsc := by simp [holdMotion]

@[simp] theorem motionOwner_frame (p : Payload) (s : Station) :
    (motionOwner p s).resetLow = s.resetLow ∧ (motionOwner p s).now = s.now ∧ (motionOwner p s).pins = s.pins ∧
    (motionOwner p s).sht = s.sht ∧ (motionOwner p s).gtu = s.gtu ∧ (motionOwner p s).stc.addr = s.stc.addr ∧
    (motionOwner p s).stc.headRole = s.stc.headRole ∧ (motionOwner p s).stc.frameRole = s.stc.frameRole ∧
    (motionOwner p s).stc.lock = s.stc.lock ∧ (motionOwner p s).stc.roster = s.stc.roster ∧
    (motionOwner p s).stc.timing = s.stc.timing ∧ (motionOwner p s).stc.thread = s.stc.thread ∧
    (motionOwner p s).prt = s.prt ∧ (motionOwner p s).pgs = s.pgs ∧ (motionOwner p s).ssq = s.ssq ∧
    (motionOwner p s).ncc = s.ncc ∧ (motionOwner p s).thm = s.thm ∧ (motionOwner p s).hsc = s.hsc := by simp [motionOwner, holdSection]

@[simp] theorem holdThread_frame (t : ThreadSection) (s : Station) :
    (holdThread t s).resetLow = s.resetLow ∧ (holdThread t s).now = s.now ∧ (holdThread t s).pins = s.pins ∧
    (holdThread t s).sht = s.sht ∧ (holdThread t s).gtu = s.gtu ∧ (holdThread t s).stc.addr = s.stc.addr ∧
    (holdThread t s).stc.headRole = s.stc.headRole ∧ (holdThread t s).stc.frameRole = s.stc.frameRole ∧
    (holdThread t s).stc.lock = s.stc.lock ∧ (holdThread t s).stc.roster = s.stc.roster ∧
    (holdThread t s).stc.timing = s.stc.timing ∧ (holdThread t s).stc.motion = s.stc.motion ∧
    (holdThread t s).stc.joinTimer = s.stc.joinTimer ∧ (holdThread t s).stc.lastRefusal = s.stc.lastRefusal ∧
    (holdThread t s).sli = s.sli ∧ (holdThread t s).prt = s.prt ∧ (holdThread t s).pgs = s.pgs ∧
    (holdThread t s).ssq = s.ssq ∧ (holdThread t s).pnc = s.pnc ∧ (holdThread t s).sgv = s.sgv ∧
    (holdThread t s).ncc = s.ncc ∧ (holdThread t s).thm = s.thm ∧ (holdThread t s).hsc = s.hsc := by simp [holdThread]

@[simp] theorem threadOwner_frame (p : Payload) (s : Station) :
    (threadOwner p s).resetLow = s.resetLow ∧ (threadOwner p s).now = s.now ∧ (threadOwner p s).pins = s.pins ∧
    (threadOwner p s).sht = s.sht ∧ (threadOwner p s).gtu = s.gtu ∧ (threadOwner p s).stc.addr = s.stc.addr ∧
    (threadOwner p s).stc.headRole = s.stc.headRole ∧ (threadOwner p s).stc.frameRole = s.stc.frameRole ∧
    (threadOwner p s).stc.lock = s.stc.lock ∧ (threadOwner p s).stc.roster = s.stc.roster ∧
    (threadOwner p s).stc.timing = s.stc.timing ∧ (threadOwner p s).stc.motion = s.stc.motion ∧
    (threadOwner p s).prt = s.prt ∧ (threadOwner p s).pgs = s.pgs ∧ (threadOwner p s).ssq = s.ssq ∧
    (threadOwner p s).pnc = s.pnc ∧ (threadOwner p s).ncc = s.ncc ∧ (threadOwner p s).thm = s.thm ∧
    (threadOwner p s).hsc = s.hsc := by
  simp only [threadOwner, holdSection]
  split <;> simp

@[simp] theorem openStc_frame (s : Station) :
    (openStc s).resetLow = s.resetLow ∧ (openStc s).now = s.now ∧ (openStc s).pins = s.pins ∧
    (openStc s).sht = s.sht ∧ (openStc s).gtu = s.gtu ∧ (openStc s).stc.addr = s.stc.addr ∧
    (openStc s).stc.headRole = s.stc.headRole ∧ (openStc s).stc.frameRole = s.stc.frameRole ∧
    (openStc s).stc.lock = s.stc.lock ∧ (openStc s).stc.roster = s.stc.roster ∧
    (openStc s).stc.timing = s.stc.timing ∧ (openStc s).stc.motion = s.stc.motion ∧
    (openStc s).stc.thread = s.stc.thread ∧ (openStc s).stc.joinTimer = s.stc.joinTimer ∧
    (openStc s).stc.lastRefusal = s.stc.lastRefusal ∧ (openStc s).prt = s.prt ∧ (openStc s).pgs = s.pgs ∧
    (openStc s).ssq = s.ssq ∧ (openStc s).pnc = s.pnc ∧ (openStc s).sgv = s.sgv ∧ (openStc s).ncc = s.ncc ∧
    (openStc s).thm = s.thm ∧ (openStc s).hsc = s.hsc := by
  simp only [openStc]
  (repeat' split) <;> simp

@[simp] theorem openHead_frame (s : Station) :
    (openHead s).resetLow = s.resetLow ∧ (openHead s).now = s.now ∧ (openHead s).pins = s.pins ∧
    (openHead s).sht = s.sht ∧ (openHead s).gtu = s.gtu ∧ (openHead s).stc = s.stc ∧ (openHead s).sli = s.sli ∧
    (openHead s).prt = s.prt ∧ (openHead s).pgs = s.pgs ∧ (openHead s).ssq = s.ssq ∧ (openHead s).pnc = s.pnc ∧
    (openHead s).sgv = s.sgv ∧ (openHead s).thm.counts = s.thm.counts ∧ (openHead s).thm.service = s.thm.service := by
  simp only [openHead]
  (repeat' split) <;> simp

@[simp] theorem openInPlace_frame (s : Station) :
    (openInPlace s).resetLow = s.resetLow ∧ (openInPlace s).now = s.now ∧ (openInPlace s).pins = s.pins ∧
    (openInPlace s).sht = s.sht ∧ (openInPlace s).gtu = s.gtu ∧ (openInPlace s).stc = s.stc ∧
    (openInPlace s).sli = s.sli ∧ (openInPlace s).prt = s.prt ∧ (openInPlace s).pgs = s.pgs ∧
    (openInPlace s).ssq = s.ssq ∧ (openInPlace s).sgv = s.sgv ∧ (openInPlace s).ncc = s.ncc ∧
    (openInPlace s).thm = s.thm ∧ (openInPlace s).hsc = s.hsc := by
  simp only [openInPlace]
  (repeat' split) <;> simp

@[simp] theorem openFrame_frame (s : Station) :
    (openFrame s).resetLow = s.resetLow ∧ (openFrame s).now = s.now ∧ (openFrame s).pins = s.pins ∧
    (openFrame s).sht = s.sht ∧ (openFrame s).gtu = s.gtu ∧ (openFrame s).stc = s.stc ∧ (openFrame s).sli = s.sli ∧
    (openFrame s).prt = s.prt ∧ (openFrame s).pgs = s.pgs ∧ (openFrame s).ssq = s.ssq ∧ (openFrame s).ncc = s.ncc ∧
    (openFrame s).thm = s.thm ∧ (openFrame s).hsc = s.hsc := by
  simp only [openFrame]
  (repeat' split) <;> simp

@[simp] theorem openDesign_frame (h : Header) (s : Station) :
    (openDesign h s).resetLow = s.resetLow ∧ (openDesign h s).now = s.now ∧ (openDesign h s).pins = s.pins ∧
    (openDesign h s).sht = s.sht ∧ (openDesign h s).stc.addr = s.stc.addr ∧
    (openDesign h s).stc.headRole = s.stc.headRole ∧ (openDesign h s).stc.frameRole = s.stc.frameRole ∧
    (openDesign h s).stc.lock = s.stc.lock ∧ (openDesign h s).stc.roster = s.stc.roster ∧
    (openDesign h s).stc.timing = s.stc.timing ∧ (openDesign h s).stc.motion = s.stc.motion ∧
    (openDesign h s).stc.thread = s.stc.thread ∧ (openDesign h s).stc.joinTimer = s.stc.joinTimer ∧
    (openDesign h s).stc.lastRefusal = s.stc.lastRefusal ∧ (openDesign h s).prt = s.prt ∧
    (openDesign h s).thm.counts = s.thm.counts ∧ (openDesign h s).thm.service = s.thm.service := by simp [openDesign]

@[simp] theorem designOpenOwner_frame (p : Payload) (s : Station) :
    (designOpenOwner p s).resetLow = s.resetLow ∧ (designOpenOwner p s).now = s.now ∧
    (designOpenOwner p s).pins = s.pins ∧ (designOpenOwner p s).sht = s.sht ∧
    (designOpenOwner p s).stc.addr = s.stc.addr ∧ (designOpenOwner p s).stc.headRole = s.stc.headRole ∧
    (designOpenOwner p s).stc.frameRole = s.stc.frameRole ∧ (designOpenOwner p s).stc.lock = s.stc.lock ∧
    (designOpenOwner p s).stc.roster = s.stc.roster ∧ (designOpenOwner p s).stc.timing = s.stc.timing ∧
    (designOpenOwner p s).stc.motion = s.stc.motion ∧ (designOpenOwner p s).stc.thread = s.stc.thread ∧
    (designOpenOwner p s).stc.joinTimer = s.stc.joinTimer ∧ (designOpenOwner p s).prt = s.prt ∧
    (designOpenOwner p s).thm.counts = s.thm.counts ∧ (designOpenOwner p s).thm.service = s.thm.service := by
  simp only [designOpenOwner]
  (repeat' split) <;> simp

@[simp] theorem checkPage_frame (h : Header) (k : Nat) (rs : Option (List StitchRecord)) (s : Station) :
    (checkPage h k rs s).resetLow = s.resetLow ∧ (checkPage h k rs s).now = s.now ∧
    (checkPage h k rs s).pins = s.pins ∧ (checkPage h k rs s).sht = s.sht ∧
    (checkPage h k rs s).stc.addr = s.stc.addr ∧ (checkPage h k rs s).stc.headRole = s.stc.headRole ∧
    (checkPage h k rs s).stc.frameRole = s.stc.frameRole ∧ (checkPage h k rs s).stc.lock = s.stc.lock ∧
    (checkPage h k rs s).stc.roster = s.stc.roster ∧ (checkPage h k rs s).stc.timing = s.stc.timing ∧
    (checkPage h k rs s).stc.motion = s.stc.motion ∧ (checkPage h k rs s).stc.thread = s.stc.thread ∧
    (checkPage h k rs s).stc.joinTimer = s.stc.joinTimer ∧ (checkPage h k rs s).prt = s.prt ∧
    (checkPage h k rs s).ssq = s.ssq ∧ (checkPage h k rs s).thm = s.thm ∧ (checkPage h k rs s).hsc.mark = s.hsc.mark := by
  simp only [checkPage]
  (repeat' split) <;> simp

@[simp] theorem takePage_frame (h : Header) (k : Nat) (rs : Option (List StitchRecord)) (s : Station) :
    (takePage h k rs s).resetLow = s.resetLow ∧ (takePage h k rs s).now = s.now ∧ (takePage h k rs s).pins = s.pins ∧
    (takePage h k rs s).sht = s.sht ∧ (takePage h k rs s).stc.addr = s.stc.addr ∧
    (takePage h k rs s).stc.headRole = s.stc.headRole ∧ (takePage h k rs s).stc.frameRole = s.stc.frameRole ∧
    (takePage h k rs s).stc.lock = s.stc.lock ∧ (takePage h k rs s).stc.roster = s.stc.roster ∧
    (takePage h k rs s).stc.timing = s.stc.timing ∧ (takePage h k rs s).stc.motion = s.stc.motion ∧
    (takePage h k rs s).stc.thread = s.stc.thread ∧ (takePage h k rs s).stc.joinTimer = s.stc.joinTimer ∧
    (takePage h k rs s).prt = s.prt ∧ (takePage h k rs s).ssq = s.ssq ∧ (takePage h k rs s).thm = s.thm ∧
    (takePage h k rs s).hsc.mark = s.hsc.mark := by
  simp only [takePage]
  (repeat' split) <;> simp

@[simp] theorem designPageOwner_frame (p : Payload) (s : Station) :
    (designPageOwner p s).resetLow = s.resetLow ∧ (designPageOwner p s).now = s.now ∧
    (designPageOwner p s).pins = s.pins ∧ (designPageOwner p s).sht = s.sht ∧
    (designPageOwner p s).stc.addr = s.stc.addr ∧ (designPageOwner p s).stc.headRole = s.stc.headRole ∧
    (designPageOwner p s).stc.frameRole = s.stc.frameRole ∧ (designPageOwner p s).stc.lock = s.stc.lock ∧
    (designPageOwner p s).stc.roster = s.stc.roster ∧ (designPageOwner p s).stc.timing = s.stc.timing ∧
    (designPageOwner p s).stc.motion = s.stc.motion ∧ (designPageOwner p s).stc.thread = s.stc.thread ∧
    (designPageOwner p s).stc.joinTimer = s.stc.joinTimer ∧ (designPageOwner p s).prt = s.prt ∧
    (designPageOwner p s).ssq = s.ssq ∧ (designPageOwner p s).thm = s.thm ∧
    (designPageOwner p s).hsc.mark = s.hsc.mark := by
  simp only [designPageOwner]
  (repeat' split) <;> simp

@[simp] theorem goHome_frame (s : Station) :
    (goHome s).resetLow = s.resetLow ∧ (goHome s).now = s.now ∧ (goHome s).pins = s.pins ∧ (goHome s).sht = s.sht ∧
    (goHome s).gtu = s.gtu ∧ (goHome s).stc = s.stc ∧ (goHome s).sli = s.sli ∧ (goHome s).prt = s.prt ∧
    (goHome s).pgs = s.pgs ∧ (goHome s).ssq = s.ssq ∧ (goHome s).sgv = s.sgv ∧ (goHome s).ncc = s.ncc ∧
    (goHome s).thm = s.thm ∧ (goHome s).hsc = s.hsc := by simp [goHome]

@[simp] theorem homeFail_frame (a : Axis) (h : HomeAxis) (s : Station) :
    (homeFail a h s).resetLow = s.resetLow ∧ (homeFail a h s).now = s.now ∧ (homeFail a h s).pins = s.pins ∧
    (homeFail a h s).sht = s.sht ∧ (homeFail a h s).stc.addr = s.stc.addr ∧
    (homeFail a h s).stc.headRole = s.stc.headRole ∧ (homeFail a h s).stc.frameRole = s.stc.frameRole ∧
    (homeFail a h s).stc.lock = s.stc.lock ∧ (homeFail a h s).stc.roster = s.stc.roster ∧
    (homeFail a h s).stc.timing = s.stc.timing ∧ (homeFail a h s).stc.motion = s.stc.motion ∧
    (homeFail a h s).stc.thread = s.stc.thread ∧ (homeFail a h s).stc.joinTimer = s.stc.joinTimer ∧
    (homeFail a h s).stc.lastRefusal = s.stc.lastRefusal ∧ (homeFail a h s).prt = s.prt ∧
    (homeFail a h s).pgs = s.pgs ∧ (homeFail a h s).ssq = s.ssq ∧ (homeFail a h s).thm = s.thm ∧
    (homeFail a h s).hsc.mark = s.hsc.mark := by
  simp only [homeFail]
  (repeat' split) <;> simp

@[simp] theorem homeEnd_frame (x y : HomeAxis) (s : Station) :
    (homeEnd x y s).resetLow = s.resetLow ∧ (homeEnd x y s).now = s.now ∧ (homeEnd x y s).pins = s.pins ∧
    (homeEnd x y s).sht = s.sht ∧ (homeEnd x y s).stc.addr = s.stc.addr ∧
    (homeEnd x y s).stc.headRole = s.stc.headRole ∧ (homeEnd x y s).stc.frameRole = s.stc.frameRole ∧
    (homeEnd x y s).stc.lock = s.stc.lock ∧ (homeEnd x y s).stc.roster = s.stc.roster ∧
    (homeEnd x y s).stc.timing = s.stc.timing ∧ (homeEnd x y s).stc.motion = s.stc.motion ∧
    (homeEnd x y s).stc.thread = s.stc.thread ∧ (homeEnd x y s).stc.joinTimer = s.stc.joinTimer ∧
    (homeEnd x y s).stc.lastRefusal = s.stc.lastRefusal ∧ (homeEnd x y s).prt = s.prt ∧ (homeEnd x y s).pgs = s.pgs ∧
    (homeEnd x y s).ssq = s.ssq ∧ (homeEnd x y s).thm = s.thm ∧ (homeEnd x y s).hsc.mark = s.hsc.mark := by
  simp only [homeEnd]
  (repeat' split) <;> simp

@[simp] theorem homeEvent_frame (a : Axis) (f : HomeAxis → HomeAxis) (s : Station) :
    (homeEvent a f s).resetLow = s.resetLow ∧ (homeEvent a f s).now = s.now ∧ (homeEvent a f s).pins = s.pins ∧
    (homeEvent a f s).sht = s.sht ∧ (homeEvent a f s).stc.addr = s.stc.addr ∧
    (homeEvent a f s).stc.headRole = s.stc.headRole ∧ (homeEvent a f s).stc.frameRole = s.stc.frameRole ∧
    (homeEvent a f s).stc.lock = s.stc.lock ∧ (homeEvent a f s).stc.roster = s.stc.roster ∧
    (homeEvent a f s).stc.timing = s.stc.timing ∧ (homeEvent a f s).stc.motion = s.stc.motion ∧
    (homeEvent a f s).stc.thread = s.stc.thread ∧ (homeEvent a f s).stc.joinTimer = s.stc.joinTimer ∧
    (homeEvent a f s).stc.lastRefusal = s.stc.lastRefusal ∧ (homeEvent a f s).prt = s.prt ∧
    (homeEvent a f s).pgs = s.pgs ∧ (homeEvent a f s).ssq = s.ssq ∧ (homeEvent a f s).thm = s.thm ∧
    (homeEvent a f s).hsc.mark = s.hsc.mark := by
  simp only [homeEvent]
  (repeat' split) <;> simp

@[simp] theorem goPark_frame (s : Station) :
    (goPark s).resetLow = s.resetLow ∧ (goPark s).now = s.now ∧ (goPark s).pins = s.pins ∧ (goPark s).sht = s.sht ∧
    (goPark s).gtu = s.gtu ∧ (goPark s).stc = s.stc ∧ (goPark s).sli = s.sli ∧ (goPark s).prt = s.prt ∧
    (goPark s).pgs = s.pgs ∧ (goPark s).ssq = s.ssq ∧ (goPark s).sgv = s.sgv ∧ (goPark s).ncc = s.ncc ∧
    (goPark s).thm = s.thm ∧ (goPark s).hsc = s.hsc := by simp [goPark]

@[simp] theorem goAbsolute_frame (p : Payload) (s : Station) :
    (goAbsolute p s).resetLow = s.resetLow ∧ (goAbsolute p s).now = s.now ∧ (goAbsolute p s).pins = s.pins ∧
    (goAbsolute p s).sht = s.sht ∧ (goAbsolute p s).gtu = s.gtu ∧ (goAbsolute p s).stc = s.stc ∧
    (goAbsolute p s).sli = s.sli ∧ (goAbsolute p s).prt = s.prt ∧ (goAbsolute p s).pgs = s.pgs ∧
    (goAbsolute p s).ssq = s.ssq ∧ (goAbsolute p s).sgv = s.sgv ∧ (goAbsolute p s).ncc = s.ncc ∧
    (goAbsolute p s).thm = s.thm ∧ (goAbsolute p s).hsc = s.hsc := by simp [goAbsolute]

@[simp] theorem setOrigin_frame (s : Station) :
    (setOrigin s).resetLow = s.resetLow ∧ (setOrigin s).now = s.now ∧ (setOrigin s).pins = s.pins ∧
    (setOrigin s).sht = s.sht ∧ (setOrigin s).stc.addr = s.stc.addr ∧ (setOrigin s).stc.headRole = s.stc.headRole ∧
    (setOrigin s).stc.frameRole = s.stc.frameRole ∧ (setOrigin s).stc.lock = s.stc.lock ∧
    (setOrigin s).stc.roster = s.stc.roster ∧ (setOrigin s).stc.timing = s.stc.timing ∧
    (setOrigin s).stc.motion = s.stc.motion ∧ (setOrigin s).stc.thread = s.stc.thread ∧
    (setOrigin s).stc.joinTimer = s.stc.joinTimer ∧ (setOrigin s).stc.lastRefusal = s.stc.lastRefusal ∧
    (setOrigin s).prt = s.prt ∧ (setOrigin s).pgs = s.pgs ∧ (setOrigin s).ssq = s.ssq ∧ (setOrigin s).thm = s.thm ∧
    (setOrigin s).hsc.mark = s.hsc.mark := by simp [setOrigin]

@[simp] theorem goTrace_frame (s : Station) :
    (goTrace s).resetLow = s.resetLow ∧ (goTrace s).now = s.now ∧ (goTrace s).pins = s.pins ∧
    (goTrace s).sht = s.sht ∧ (goTrace s).gtu = s.gtu ∧ (goTrace s).stc = s.stc ∧ (goTrace s).sli = s.sli ∧
    (goTrace s).prt = s.prt ∧ (goTrace s).pgs = s.pgs ∧ (goTrace s).ssq = s.ssq ∧ (goTrace s).sgv = s.sgv ∧
    (goTrace s).ncc = s.ncc ∧ (goTrace s).thm = s.thm ∧ (goTrace s).hsc = s.hsc := by simp [goTrace]

end Sys2Proof.Machine
end

