-- ==== Sys2Proof/Laws/PerInstr.lean ====
section
/-! SUPPORT. Laws/PerInstr.lean: what holds of every command as syntax, one lemma per constructor of Instr. -/

namespace Sys2Proof.Laws

/-- The payload a command carries, if it is a notice (R41). -/
def payloadOf : Instr → Option Payload
  | .resetNLow => none
  | .hardReset _ _ _ => none
  | .encoderForwardCount _ => none
  | .encoderReverseCount _ => none
  | .indexPulse => none
  | .restReached => none
  | .seenLevelChange _ => none
  | .stallTimeout => none
  | .armTimeout => none
  | .joinTimeout => none
  | .noticeDiscarded _ => none
  | .stop _ p => some p
  | .stationReset _ p => some p
  | .start _ p => some p
  | .back _ p => some p
  | .forward _ p => some p
  | .headSelect _ p => some p
  | .faultClear _ p => some p
  | .pantographGoHome _ p _ _ => some p
  | .pantographGoPark _ p => some p
  | .pantographGoReturn _ p => some p
  | .pantographGoAbsolute _ p => some p
  | .pantographGoSetOrigin _ p => some p
  | .pantographGoTrace _ p => some p
  | .needleMap _ p => some p
  | .configureRoster _ p => some p
  | .configureTiming _ p => some p
  | .configureMotion _ p => some p
  | .configureThread _ p => some p
  | .designOpen _ p => some p
  | .designPage _ p => some p
  | .statusReceived _ p => some p
  | .peerLost _ => none
  | .statusInterval => none
  | .statusAttempt => none
  | .lostArbitration => none
  | .statusSent => none
  | .moveComplete => none
  | .homeSwitchClose _ => none
  | .homeBackoffDone _ => none
  | .homeSeekLimit _ => none
  | .driveReadyFall => none
  | .driveReadyRise => none
  | .creepTimeout => none
  | .caseSensorChange _ _ => none
  | .stepTimeout => none
  | .settleTimerExpiry => none
  | .threadPulse => none

theorem fits_le {p : Payload} (h : payloadFits p = true) : p.length ≤ 56 := of_decide_eq_true h

theorem fits_of_names {p : Payload} {b : Bool} (h : (payloadFits p && b) = true) : payloadFits p = true := by
  cases hp : payloadFits p <;> simp_all

/-- A well-formed command's payload is one a receiver takes: at most 56 bytes (R41). -/
def PayloadFits.Statement (i : Instr) : Prop := i.wf = true → ∀ p, payloadOf i = some p → p.length ≤ 56

theorem PayloadFits.resetNLow : PayloadFits.Statement .resetNLow := by
  intro _ q hq; cases hq

theorem PayloadFits.hardReset (addr : Addr) (head : Bool) (frame : Bool) : PayloadFits.Statement (.hardReset addr head frame) := by
  intro _ q hq; cases hq

theorem PayloadFits.encoderForwardCount (tension : BitVec 10) : PayloadFits.Statement (.encoderForwardCount tension) := by
  intro _ q hq; cases hq

theorem PayloadFits.encoderReverseCount (tension : BitVec 10) : PayloadFits.Statement (.encoderReverseCount tension) := by
  intro _ q hq; cases hq

theorem PayloadFits.indexPulse : PayloadFits.Statement .indexPulse := by
  intro _ q hq; cases hq

theorem PayloadFits.restReached : PayloadFits.Statement .restReached := by
  intro _ q hq; cases hq

theorem PayloadFits.seenLevelChange (high : Bool) : PayloadFits.Statement (.seenLevelChange high) := by
  intro _ q hq; cases hq

theorem PayloadFits.stallTimeout : PayloadFits.Statement .stallTimeout := by
  intro _ q hq; cases hq

theorem PayloadFits.armTimeout : PayloadFits.Statement .armTimeout := by
  intro _ q hq; cases hq

theorem PayloadFits.joinTimeout : PayloadFits.Statement .joinTimeout := by
  intro _ q hq; cases hq

theorem PayloadFits.noticeDiscarded (bits : List Bool) : PayloadFits.Statement (.noticeDiscarded bits) := by
  intro _ q hq; cases hq

theorem PayloadFits.stop (src : Addr) (p : Payload) : PayloadFits.Statement (.stop src p) := by
  intro h q hq; cases hq; exact fits_le h

theorem PayloadFits.stationReset (src : Addr) (p : Payload) : PayloadFits.Statement (.stationReset src p) := by
  intro h q hq; cases hq; exact fits_le h

theorem PayloadFits.start (src : Addr) (p : Payload) : PayloadFits.Statement (.start src p) := by
  intro h q hq; cases hq; exact fits_le h

theorem PayloadFits.back (src : Addr) (p : Payload) : PayloadFits.Statement (.back src p) := by
  intro h q hq; cases hq; exact fits_le h

theorem PayloadFits.forward (src : Addr) (p : Payload) : PayloadFits.Statement (.forward src p) := by
  intro h q hq; cases hq; exact fits_le h

theorem PayloadFits.headSelect (src : Addr) (p : Payload) : PayloadFits.Statement (.headSelect src p) := by
  intro h q hq; cases hq; exact fits_le h

theorem PayloadFits.faultClear (src : Addr) (p : Payload) : PayloadFits.Statement (.faultClear src p) := by
  intro h q hq; cases hq; exact fits_le h

theorem PayloadFits.pantographGoHome (src : Addr) (p : Payload) (xClosed : Bool) (yClosed : Bool) : PayloadFits.Statement (.pantographGoHome src p xClosed yClosed) := by
  intro h q hq; cases hq; exact fits_le (fits_of_names h)

theorem PayloadFits.pantographGoPark (src : Addr) (p : Payload) : PayloadFits.Statement (.pantographGoPark src p) := by
  intro h q hq; cases hq; exact fits_le (fits_of_names h)

theorem PayloadFits.pantographGoReturn (src : Addr) (p : Payload) : PayloadFits.Statement (.pantographGoReturn src p) := by
  intro h q hq; cases hq; exact fits_le (fits_of_names h)

theorem PayloadFits.pantographGoAbsolute (src : Addr) (p : Payload) : PayloadFits.Statement (.pantographGoAbsolute src p) := by
  intro h q hq; cases hq; exact fits_le (fits_of_names h)

theorem PayloadFits.pantographGoSetOrigin (src : Addr) (p : Payload) : PayloadFits.Statement (.pantographGoSetOrigin src p) := by
  intro h q hq; cases hq; exact fits_le (fits_of_names h)

theorem PayloadFits.pantographGoTrace (src : Addr) (p : Payload) : PayloadFits.Statement (.pantographGoTrace src p) := by
  intro h q hq; cases hq; exact fits_le (fits_of_names h)

theorem PayloadFits.needleMap (src : Addr) (p : Payload) : PayloadFits.Statement (.needleMap src p) := by
  intro h q hq; cases hq; exact fits_le h

theorem PayloadFits.configureRoster (src : Addr) (p : Payload) : PayloadFits.Statement (.configureRoster src p) := by
  intro h q hq; cases hq; exact fits_le (fits_of_names h)

theorem PayloadFits.configureTiming (src : Addr) (p : Payload) : PayloadFits.Statement (.configureTiming src p) := by
  intro h q hq; cases hq; exact fits_le (fits_of_names h)

theorem PayloadFits.configureMotion (src : Addr) (p : Payload) : PayloadFits.Statement (.configureMotion src p) := by
  intro h q hq; cases hq; exact fits_le (fits_of_names h)

theorem PayloadFits.configureThread (src : Addr) (p : Payload) : PayloadFits.Statement (.configureThread src p) := by
  intro h q hq; cases hq; exact fits_le (fits_of_names h)

theorem PayloadFits.designOpen (src : Addr) (p : Payload) : PayloadFits.Statement (.designOpen src p) := by
  intro h q hq; cases hq; exact fits_le h

theorem PayloadFits.designPage (src : Addr) (p : Payload) : PayloadFits.Statement (.designPage src p) := by
  intro h q hq; cases hq; exact fits_le h

theorem PayloadFits.statusReceived (src : Addr) (p : Payload) : PayloadFits.Statement (.statusReceived src p) := by
  intro h q hq; cases hq; exact fits_le h

theorem PayloadFits.peerLost (addr : Addr) : PayloadFits.Statement (.peerLost addr) := by
  intro _ q hq; cases hq

theorem PayloadFits.statusInterval : PayloadFits.Statement .statusInterval := by
  intro _ q hq; cases hq

theorem PayloadFits.statusAttempt : PayloadFits.Statement .statusAttempt := by
  intro _ q hq; cases hq

theorem PayloadFits.lostArbitration : PayloadFits.Statement .lostArbitration := by
  intro _ q hq; cases hq

theorem PayloadFits.statusSent : PayloadFits.Statement .statusSent := by
  intro _ q hq; cases hq

theorem PayloadFits.moveComplete : PayloadFits.Statement .moveComplete := by
  intro _ q hq; cases hq

theorem PayloadFits.homeSwitchClose (axis : Axis) : PayloadFits.Statement (.homeSwitchClose axis) := by
  intro _ q hq; cases hq

theorem PayloadFits.homeBackoffDone (axis : Axis) : PayloadFits.Statement (.homeBackoffDone axis) := by
  intro _ q hq; cases hq

theorem PayloadFits.homeSeekLimit (axis : Axis) : PayloadFits.Statement (.homeSeekLimit axis) := by
  intro _ q hq; cases hq

theorem PayloadFits.driveReadyFall : PayloadFits.Statement .driveReadyFall := by
  intro _ q hq; cases hq

theorem PayloadFits.driveReadyRise : PayloadFits.Statement .driveReadyRise := by
  intro _ q hq; cases hq

theorem PayloadFits.creepTimeout : PayloadFits.Statement .creepTimeout := by
  intro _ q hq; cases hq

theorem PayloadFits.caseSensorChange (code : BitVec 4) (latch : Bool) : PayloadFits.Statement (.caseSensorChange code latch) := by
  intro _ q hq; cases hq

theorem PayloadFits.stepTimeout : PayloadFits.Statement .stepTimeout := by
  intro _ q hq; cases hq

theorem PayloadFits.settleTimerExpiry : PayloadFits.Statement .settleTimerExpiry := by
  intro _ q hq; cases hq

theorem PayloadFits.threadPulse : PayloadFits.Statement .threadPulse := by
  intro _ q hq; cases hq

end Sys2Proof.Laws
end

