-- ==== Sys2Proof/Tests/Slice0.lean ====
section
/-! SUPPORT. Tests/Slice0.lean: our own tests. Expected results come from the rules and the worked examples of spec/, named
at each group. The theorems `meets_<statement>` show concrete states and operands that meet the hypotheses of each clause of
the statement of that name. -/

namespace Sys2Proof.Tests

open Sys2Proof Sys2Proof.Machine

/-! ## Helpers -/

/-- A header of 14 stitches on two pages, with extents 0..100 and a scale of 100 %. -/
def header14 : Header :=
  { ident := 7, stitches := 14, pages := 2, colourStops := 0, xmin := 0, xmax := 100, ymin := 0, ymax := 100, firstSlot := 1,
    exchange := false, mirrorX := false, mirrorY := false, scale := 100 }

/-- Page 0: a COLOR_STOP at stitch 6 to slot 2, a TRIM at stitch 8, SEW records elsewhere, each one unit along X. -/
def records0 : List StitchRecord :=
  [⟨.sew, 1, 0, 0⟩, ⟨.sew, 1, 0, 0⟩, ⟨.sew, 1, 0, 0⟩, ⟨.sew, 1, 0, 0⟩, ⟨.sew, 1, 0, 0⟩, ⟨.colorStop, 0, 0, 2⟩,
   ⟨.sew, 1, 0, 0⟩, ⟨.trim, 0, 0, 0⟩, ⟨.sew, 1, 0, 0⟩, ⟨.sew, 1, 0, 0⟩, ⟨.sew, 1, 0, 0⟩, ⟨.sew, 1, 0, 0⟩]

/-- Page 1: stitch 13 and the END at stitch 14. -/
def records1 : List StitchRecord := [⟨.sew, 1, 0, 0⟩, ⟨.endRecord, 0, 0, 0⟩]

/-- The store at stitch 0 with both pages posted. -/
def store0 : PageStore :=
  { header := some header14, free := (List.range 512).drop 2, posted := [⟨0, 0, records0⟩, ⟨1, 1, records1⟩], current := none,
    retained := [], nextWanted := 2, gap := false }

/-- The store at stitches 1 to 12: page 0 is the current page. -/
def store1 : PageStore := { store0 with posted := [⟨1, 1, records1⟩], current := some ⟨0, 0, records0⟩ }

/-- A station of the given state and roles with address 1: at rest on top, the hoop in place, the case on needle 3, the design
open at stitch 0, the drive ready. -/
def station (st : StationState) (head frame : Bool) : Station :=
  let r := Station.hardReset 0 Pins.idle 1 head frame
  { r with
    pins := { r.pins with driveReady := true, caseCode := 3, caseLatch := true }
    sht := { r.sht with synced := true, atRest := true, onTop := true }
    stc := { r.stc with
      state := st, roster := some [⟨1, head, frame⟩], timing := some .default, motion := some .default
      thread := some .default, joinTimer := none, former := if st = .armed then .ready else .none }
    pgs := store0
    ssq := { r.ssq with slot := 1 }
    pnc := { r.pnc with homed := true, inPlace := true, x := 12000, y := 8000, originX := 12000, originY := 8000 }
    ncc := { r.ncc with map := List.replicate 64 3, settled := true, settledNeedle := 3 } }

/-- The station with the shaft turning, at an angle. -/
def turning (a : Nat) (d : Station) : Station := { d with sht := { d.sht with angle := a, atRest := false, onTop := false } }

/-- The station at stitch `n` of page 0. -/
def stitched (n : Nat) (d : Station) : Station :=
  { d with pgs := store1, ssq := { d.ssq with stitch := n, px := n } }

/-- The station at the END record, stitch 14, with page 0 retained. -/
def atEnd (d : Station) : Station :=
  { d with
    pgs := { store0 with posted := [], current := some ⟨1, 1, records1⟩, retained := [⟨0, 0, records0⟩] }
    ssq := { d.ssq with stitch := 14, px := 11 } }

/-- The station with its drive released and the line high. -/
def released (d : Station) : Station := { d with gtu := { d.gtu with drive := .released, wanted := .released, seenHigh := true } }

/-- The station with a roster peer at an address, a head or a frame station. -/
def withPeer (a : Nat) (head frame : Bool) (d : Station) : Station :=
  { d with prt := [{ addr := a, head := head, frame := frame, heard := true, last := none, ageFrom := 0, lost := false,
                     mismatched := false }] }

/-- The items of a peer in a state at a stitch. -/
def peerItems (st : StationState) (n : Nat) : StatusItems :=
  { statusOf (station st true false) with stitch := n }

/-- The state of a station with no command waiting. -/
def of (d : Station) : State := { dev := d, pending := [] }

/-- The station after a command. -/
def run (c : Instr) (d : Station) : Station :=
  match exec c (of d) with
  | .next t => t.dev
  | .fault _ => d
  | .refused _ => d

/-- A Pantograph Go payload. -/
def goPayload (v x y : Nat) : Payload := [0, byteOf v] ++ be16 x ++ be16 y

/-- A Design Open payload of a 14-stitch design with the given scale. -/
def openPayload (scale : Nat) : Payload :=
  [0] ++ be16 7 ++ be24 14 ++ be24 2 ++ be16 0 ++ be16 0 ++ be16 100 ++ be16 0 ++ be16 100 ++ [1, 0, byteOf scale]

/-- Page 1 of that design as a Design Page payload, its last record of the given kind code. -/
def pagePayload (k : Nat) (last : Byte) : Payload := [0] ++ be16 k ++ [2, 1, 1, 0, 0] ++ [last, 0, 0, 0]

/-- The default MOTION section as a Configure payload (R28). -/
def motionPayload : Payload :=
  [0, 3] ++ be16 800 ++ [40] ++ be16 2000 ++ be16 24000 ++ be16 16000 ++ be16 0 ++ be16 0 ++ be16 1000 ++ [60] ++ be16 400 ++
    be16 600 ++ [40] ++ be16 80 ++ [16]

/-- The default TIMING section as a Configure payload, with the angle H given (R8). -/
def timingPayload (h : Nat) : Payload :=
  [0, 2] ++ be16 224 ++ be16 h ++ be16 320 ++ be16 400 ++ be16 600 ++ be16 520 ++ be16 620 ++ be16 640 ++ be16 672 ++ [30, 3, 15]

/-- The default THREAD section as a Configure payload, with the policy byte given (R29). -/
def threadPayload (policy : Byte) : Payload :=
  [0, 4, 3, 2] ++ be16 120 ++ be16 200 ++ be16 700 ++ be16 820 ++ [policy] ++ be16 250 ++ [50, 0]

/-! ## Well-formedness: each check refuses an ill-formed command -/

theorem test_wf_refuses_long_payload : Instr.wf (.stop 0 (List.replicate 57 0)) = false := by decide
theorem test_wf_takes_full_payload : Instr.wf (.statusReceived 2 (List.replicate 56 0)) = true := by decide
theorem test_wf_refuses_other_variant : Instr.wf (.pantographGoPark 0 (goPayload 1 0 0)) = false := by decide
theorem test_wf_refuses_other_section : Instr.wf (.configureMotion 0 (timingPayload 256)) = false := by decide
theorem test_wf_refuses_peer_zero : Instr.wf (.peerLost 0) = false := by decide
theorem test_wf_refuses_a_good_notice_as_discarded :
    Instr.wf (.noticeDiscarded (Notice.frame { kind := 2, src := 0, payload := [0] })) = false := by decide +kernel
theorem test_wf_takes_a_broken_notice :
    Instr.wf (.noticeDiscarded (stuffFrom true 0 (Notice.body { kind := 2, src := 0, payload := [0] }))) = true := by decide +kernel

/-- The table gives no row any bits, so no word spells a command. -/
theorem test_decode_spells_none : decodeTableWord 16 3 = none ∧ (State.reset.withFetchWord 16 3) = State.reset := ⟨rfl, rfl⟩

/-! ## The line (R40, R41, R171) -/

/-- The CRC of R171 over no bit at all is its start value. -/
theorem test_crc_starts_from_ones : crc16 [] = 0xFFFF := by decide
/-- The polynomial's check: one dominant bit out of all ones shifts and takes the polynomial. -/
theorem test_crc_one_bit : crc16 [false] = 0xEFDF := by decide
/-- R40: four dominant bits in a row are followed by a recessive one. -/
theorem test_bit_inserted : stuffFrom true 0 [false, false, false, false, false] = [false, false, false, false, true, false] := by decide
/-- R41: the kind in six bits, the source in five, the length in six. -/
theorem test_arbitration_bits : (Notice.covered { kind := 5, src := 3, payload := [] }) =
    [false, false, false, true, false, true, false, false, false, true, true, false, false, false, false, false, false] := by decide

/-! ## Worked examples of spec/ -/

/-- 6.2, "Transform examples": exchange, mirror Y, scale 130 take (337, -3) to (-16, -1752). -/
theorem test_transform_example :
    transform { header14 with exchange := true, mirrorY := true, scale := 130 } 337 (-3) = (-16, -1752) := by decide
/-- 6.2: positions 1 to 5 at scale 130 give offsets 5, 10, 16, 21, 26. -/
theorem test_offsets_example : [1, 2, 3, 4, 5].map (scaleCoord 130) = [5, 10, 16, 21, 26] := by decide
/-- 7.9, "A SEW stitch at the defaults". -/
theorem test_move_time_example : axisTime 800 40 200 = 31622 ∧ axisTime 800 40 80 = 20000 ∧
    moveTime .default 200 (-80) = 33622 ∧ geoCeiling .default .default 33622 = 1003 := by decide
/-- 7.9, "A long move in a trapezoid". -/
theorem test_trapezoid_example : axisTime 1000 20 600 = 50000 ∧ geoCeiling .default .default 52000 = 649 := by decide
/-- 7.9, "The look-ahead slowing for a trim": 900 with the terms given makes 820; the next commit 740. -/
theorem test_look_ahead_example :
    demandFrom .default 900 [1000, 1080, 1160, 1000, 1320, 820, 1480] = 820 ∧
    demandFrom .default 820 [1000, 1080, 920, 1240, 740, 1400] = 740 := by decide
/-- 9.6, "Tension drifting slack": the first four samples. -/
theorem test_filter_example :
    ([450, 470, 465].foldl (fun m p => filterSample p m) (filterSample 460 ThreadMonitor.reset)).filter = 461 ∧
    (filterSample 40 { ThreadMonitor.reset with restart := false, filter := 461 }).filter = 408 := by decide
/-- 9.6: the state leaves CLEAR at 184 and not at 205. -/
theorem test_tension_state_example :
    tensionAfter .default .clear 205 = .clear ∧ tensionAfter .default .clear 184 = .caution ∧
    tensionFinding .default 124 = none ∧ tensionFinding .default 114 = some .tensionLow := by decide
/-- 6.8, "Homing with one axis failed": 1,640 ms at 10 steps per ms is the Y limit of 16,400 steps. -/
theorem test_homing_limit_example : seekLimit .default .y = 16400 ∧ seekSteps .default 1640000 = 16400 := by decide
/-- 4.9: four pages posted, one current, retention 2: the crossing into page 3 frees page 0. -/
theorem test_page_crossing_example :
    let g : PageStore := { PageStore.empty with
      free := [5], posted := [⟨3, 3, []⟩, ⟨4, 4, []⟩], current := some ⟨2, 2, []⟩, retained := [⟨0, 0, []⟩, ⟨1, 1, []⟩] }
    let t := g.moveTo 2 36 37
    t.free = [5, 0] ∧ t.posted.map (·.number) = [4] ∧ t.current.map (·.number) = some 3 ∧ t.retained.map (·.number) = [1, 2] ∧
    t.lowest = 13 := by decide
/-- 6.8, "A move against its window": default timing gives L_w = 576. -/
theorem test_window_length : moveWindow .default = 576 := by decide
/-- R13: a release that arises at 630, in the guard before D = 640, still waits at 623, and is driven once D is taken. -/
theorem test_release_waits_for_d :
    let w := driveGate (turning 630 (station .run true true))
    w.gtu.waits = some .d ∧ (driveGate (turning 623 w)).gtu.drive = .low ∧
    (driveGate { w with sht := { w.sht with raised := [.d] } }).gtu.drive = .released := by decide
/-- R137 and 8.6: a HALTED head stopped by its case shows CASE_FAULT beside the record, where R11 forms FAULTED. -/
theorem test_halted_case_fault :
    let d := station .halted true true
    let e := { d with ncc := { d.ncc with stopped := .jam }, stc := { d.stc with faults := [⟨.caseJam, 0, some 4, some 3⟩] } }
    (statusOf e).hold = .caseFault ∧ (statusOf e).faultCount = 1 ∧ holdReason e = .faulted ∧
    (statusOf { e with stc := { e.stc with state := .done } }).hold = .faulted := by decide

/-- R46, R75: a refusal equal to the one that stands is a cause for sending too. -/
theorem test_equal_refusal_is_sent :
    let d := station .ready true true
    let e := { d with stc := { d.stc with lastRefusal := some (.designPage, .range) }, sli := { d.sli with slotPending := false } }
    (refuse .designPage .range e).sli.slotPending = true ∧ (refuse .designPage .range e).stc = e.stc := by decide

/-! ## Commands -/

/-- R22. -/
theorem test_reset_n_low : (run .resetNLow (station .run true true)).resetLow = true ∧
    (outputs (run .resetNLow (station .run true true))).shaftStop = true := by decide
/-- R21: no role is a STRAP fault. -/
theorem test_hard_reset_strap : (run (.hardReset 4 false false) (station .run true true)).stc.lock = .strap ∧
    (run (.hardReset 4 false false) (station .run true true)).stc.faults = [⟨.strap, 0, none, some 4⟩] := by decide
/-- R1: 1023 to 0 begins a revolution. -/
theorem test_forward_wraps :
    (run (.encoderForwardCount 0) (turning 1023 (station .ready true true))).sht.angle = 0 := by decide
/-- R157: K_on with a knife pending turns the knife on. -/
theorem test_forward_raises_k_on :
    let d := turning 519 (station .run true true)
    (run (.encoderForwardCount 0) { d with hsc := { d.hsc with knifePending := true } }).hsc.knife = true := by decide
/-- R1: 0 to 1023, lag 1. -/
theorem test_reverse_wraps : (run (.encoderReverseCount 0) (turning 0 (station .ready true true))).sht.angle = 1023 ∧
    (run (.encoderReverseCount 0) (turning 0 (station .ready true true))).sht.lag = 1 := by decide
/-- R1: a reverse count at lag 1023 is an ENCODER fault. -/
theorem test_reverse_full_revolution :
    let d := turning 5 (station .ready true true)
    let t := run (.encoderReverseCount 0) { d with sht := { d.sht with lag := 1023 } }
    t.sht.lag = 0 ∧ t.stc.faults = [⟨.encoder, 0, none, some 4⟩] := by decide
/-- R2: an index outside 1021..2 is an ENCODER fault. -/
theorem test_index_misplaced : (run .indexPulse (turning 500 (station .ready true true))).stc.faults =
    [⟨.encoder, 0, none, some 500⟩] := by decide
/-- R4: a second index at lag 0 captures the period. -/
theorem test_index_captures :
    let d := turning 1 (station .ready true true)
    let t := run .indexPulse { d with now := 60000, sht := { d.sht with chain := true, indexAt := 0 } }
    t.sht.period = 60000 ∧ t.sgv.measured = some 1000 := by decide
/-- R36: HALTING ends in HALTED at rest; off top the frame station creeps (R122). -/
theorem test_rest_reached : (run .restReached (turning 700 (station .halting true true))).stc.state = .halted ∧
    (run .restReached (turning 700 (station .halting true true))).sgv.mode = .creep := by decide
/-- R36, R18: a planned stop at rest on top whose gate is still released arms itself and, the line high, takes the rest commit. -/
theorem test_rest_commits_after_arming :
    let d := released (turning 0 (station .halting true true))
    let t := run .restReached { d with
      stc := { d.stc with haltReason := some .colourStop }, gtu := { d.gtu with commitSpan := true } }
    t.stc.state = .run ∧ t.gtu.lead = true ∧ t.gtu.drive = .released := by decide
/-- R18: the rise of the line in ARMED is the rest commit. -/
theorem test_rest_commit :
    let d := station .armed true true
    let t := run (.seenLevelChange true) { d with gtu := { d.gtu with drive := .released } }
    t.stc.state = .run ∧ t.sgv.demand = 60 ∧ t.gtu.lead = true := by decide
/-- R10: a station whose drive is low sees the line low. -/
theorem test_seen_level_low_while_driving : (run (.seenLevelChange true) (station .ready true true)).gtu.seenHigh = false := by decide
/-- R19. -/
theorem test_stall : (run .stallTimeout (turning 5 (station .run true true))).stc.haltReason = some (.fault .dwellLimit) := by decide
/-- R33. -/
theorem test_arm_timeout : (run .armTimeout (station .armed true true)).stc.state = .ready := by decide
/-- R25: the record's value is the set of sections held. -/
theorem test_join_timeout :
    let d := State.reset.dev
    let t := run .joinTimeout { d with stc := { d.stc with timing := some .default, thread := some .default } }
    t.stc.faults = [⟨.joinTimeout, 0, none, some 10⟩] ∧ t.stc.timing = none := by decide
/-- R41. -/
theorem test_notice_discarded : run (.noticeDiscarded [false, true]) (station .ready true true) =
    (closed (of (station .ready true true)) (station .ready true true)).dev := rfl
/-- R38. -/
theorem test_stop_in_run : (run (.stop 0 [0]) (turning 700 (station .run true true))).stc.state = .halting ∧
    (run (.stop 0 [0]) (turning 700 (station .run true true))).stc.haltReason = some .stop := by decide
/-- R23. -/
theorem test_station_reset : (run (.stationReset 0 [1]) (station .run true true)).stc.state = .joining := by decide
/-- R31, R32. -/
theorem test_start : (run (.start 0 [0]) (station .ready true true)).stc.state = .armed ∧
    (run (.start 0 [0]) (station .ready true true)).gtu.drive = .released := by decide
/-- R31, row 8. -/
theorem test_start_refused_drive :
    let d := station .ready true true
    (run (.start 0 [0]) { d with pins := { d.pins with driveReady := false } }).stc.lastRefusal = some (.start, .drive) := by decide
/-- R82: a Back of 5 from stitch 3 is clamped to 3. -/
theorem test_back_clamped : (run (.back 0 [0, 0, 0, 5]) (stitched 3 (station .halted true true))).ssq.stitch = 0 ∧
    (run (.back 0 [0, 0, 0, 5]) (stitched 3 (station .halted true true))).ssq.report = ⟨.back, 5, 3, .clamped⟩ := by decide +kernel
/-- R83: a Forward stops at the COLOR_STOP of stitch 6 and takes its slot. -/
theorem test_forward_to_stop : (run (.forward 0 [0, 0, 0, 9]) (stitched 3 (station .halted true true))).ssq.stitch = 6 ∧
    (run (.forward 0 [0, 0, 0, 9]) (stitched 3 (station .halted true true))).ssq.slot = 2 := by decide
/-- R85: a Back of 1 from DONE passes the END record, of no displacement, and ends in its own event, the hoop in place. -/
theorem test_back_from_done :
    let t := run (.back 0 [0, 0, 0, 1]) (atEnd (station .done true true))
    t.stc.state = .halted ∧ t.ssq.stitch = 13 ∧ t.ssq.walk = none ∧ t.pnc.inPlace = true ∧ t.ssq.report = ⟨.back, 1, 1, .full⟩ := by
  decide +kernel
/-- R160: bit 1 of the mask flags address 1. -/
theorem test_head_select : (run (.headSelect 0 [0, 0, 0, 0, 4]) (station .ready true true)).stc.activity = .deselected ∧
    (run (.headSelect 0 [0, 0, 0, 0, 2]) (station .ready true true)).stc.activity = .active := by decide +kernel
/-- R166: the removal that empties the list clears the overflow flag; the needle named returns to service. -/
theorem test_fault_clear :
    let d := station .halted true true
    let t := run (.faultClear 0 [0, 12]) { d with
      stc := { d.stc with faults := [⟨.veto, 1, none, some 1⟩], overflow := true }
      thm := { d.thm with service := List.replicate 12 false } }
    t.stc.faults = [] ∧ t.stc.overflow = false ∧ t.thm.service = List.replicate 11 false ++ [true] := by decide
/-- R103: a closed switch goes straight to BACKOFF. -/
theorem test_go_home : (run (.pantographGoHome 0 (goPayload 1 0 0) false true) (station .ready true true)).pnc.go =
    some (.home (.seek 0) .backoff) := by decide
/-- R105: PARK goes to (0, 0) with the defaults. -/
theorem test_go_park : (run (.pantographGoPark 0 (goPayload 2 0 0)) (station .ready true true)).pnc.move.map (fun m => (m.toX, m.toY)) =
    some (0, 0) := by decide
/-- R105: a RETURN with the hoop in place ends at once. -/
theorem test_go_return : (run (.pantographGoReturn 0 (goPayload 3 0 0)) (station .ready true true)).pnc.go = none ∧
    (run (.pantographGoReturn 0 (goPayload 3 0 0)) (station .ready true true)).pnc.inPlace = true := by decide
/-- R105: ABSOLUTE is clamped into the field. -/
theorem test_go_absolute : (run (.pantographGoAbsolute 0 (goPayload 4 24001 16000)) (station .ready true true)).pnc.move.map
    (fun m => (m.toX, m.toY)) = some (24000, 16000) := by decide
/-- R106. -/
theorem test_go_set_origin :
    let d := station .ready true true
    (run (.pantographGoSetOrigin 0 (goPayload 5 0 0)) { d with pnc := { d.pnc with x := 500 } }).pnc.originX = 500 := by decide
/-- R107: the first leg goes to the corner (xmin, ymin); four legs wait. -/
theorem test_go_trace :
    let d := station .ready true true
    (run (.pantographGoTrace 0 (goPayload 6 0 0)) { d with pnc := { d.pnc with x := 500 } }).pnc.go =
      some (.trace [(12400, 8000), (12400, 8400), (12000, 8400), (500, 8000)]) := by decide
/-- R128: an entry of 13 is refused. -/
theorem test_needle_map : (run (.needleMap 0 (0 :: List.replicate 32 0x3D)) (station .ready true true)).stc.lastRefusal =
    some (.needleMap, .format) ∧
    (run (.needleMap 0 (0 :: List.replicate 32 0x5C)) (station .ready true true)).ncc.map.take 3 = [5, 12, 5] := by decide
/-- R27: a roster without the station's own entry is refused. -/
theorem test_configure_roster : (run (.configureRoster 0 [0, 1, 1, 0x61]) State.reset.dev).stc.roster = some [⟨1, true, true⟩] ∧
    (run (.configureRoster 0 [0, 1, 1, 0x62]) State.reset.dev).stc.lastRefusal = some (.configure, .roster) := by decide
/-- R9: M + G ≤ H at its boundary. -/
theorem test_configure_timing : (run (.configureTiming 0 (timingPayload 240)) State.reset.dev).stc.timing.isSome = true ∧
    (run (.configureTiming 0 (timingPayload 239)) State.reset.dev).stc.lastRefusal = some (.configure, .order) := by decide
/-- R28, and the default section: the payload of the defaults is held as the defaults. -/
theorem test_configure_motion : (run (.configureMotion 0 motionPayload) State.reset.dev).stc.motion = some .default := by decide
/-- R29: a policy byte of 2 is refused. -/
theorem test_configure_thread : (run (.configureThread 0 (threadPayload 0)) State.reset.dev).stc.thread = some .default ∧
    (run (.configureThread 0 (threadPayload 2)) State.reset.dev).stc.lastRefusal = some (.configure, .format) := by decide
/-- R57, R59: the scale is clamped to 200. -/
theorem test_design_open : (run (.designOpen 0 (openPayload 250)) (station .halted true true)).pgs.header.map (·.scale) = some 200 ∧
    (run (.designOpen 0 (openPayload 250)) (station .halted true true)).stc.state = .ready := by decide
/-- R48: a Design Open taken in READY, where nothing of the list changes, causes no Status. -/
theorem test_design_open_in_ready :
    let d := run (.designOpen 0 (openPayload 100)) (station .ready true true)
    (run (.designOpen 0 (openPayload 100)) { d with sli := { d.sli with slotPending := false } }).sli.slotPending = false := by decide +kernel
/-- R61: the last record must be the END (kind 5); R66: a page above the next wanted sets the gap flag. -/
theorem test_design_page :
    let d := station .ready true true
    let e := { d with pgs := { store0 with posted := [⟨0, 0, records0⟩], nextWanted := 1, free := [9, 8] } }
    (run (.designPage 0 (pagePayload 1 5)) e).pgs.free = [8] ∧
    (run (.designPage 0 (pagePayload 1 1)) e).stc.lastRefusal = some (.designPage, .format) := by decide
/-- R50: the station's own address from another sender is an address clash. -/
theorem test_status_clash : (run (.statusReceived 1 []) (station .ready true true)).stc.lock = .addressClash ∧
    (run (.statusReceived 1 []) (station .ready true true)).stc.faults = [⟨.addressClash, 0, none, some 1⟩] := by decide
/-- R54: a peer in HALTING halts a station in RUN. -/
theorem test_status_peer_halt :
    (run (.statusReceived 5 (encodeStatus (peerItems .halting 0))) (withPeer 5 true false (turning 700 (station .run true false)))).stc.haltReason =
      some .peerHalt := by decide
/-- R53. -/
theorem test_peer_lost : (run (.peerLost 5) (withPeer 5 true false (turning 700 (station .run true true)))).stc.faults =
    [⟨.peerLost, 0, none, some 5⟩] := by decide
/-- R48. -/
theorem test_status_interval :
    let d := station .ready true true
    (run .statusInterval { d with sli := { d.sli with slotPending := false } }).sli.slotPending = true := by decide
/-- R47, R49, R172: a Status of a station with both roles and a design is a notice of kind 16 from its address, of 20 + 11 + 3 + 7
bytes. -/
theorem test_status_attempt : (run .statusAttempt (station .ready true true)).sli.sending.map (fun n =>
    (n.kind, n.src, n.payload.length)) = some (16, 1, 41) := by decide
/-- R42. -/
theorem test_lost_arbitration : (run .lostArbitration (run .statusAttempt (station .ready true true))).sli.sending = none ∧
    (run .lostArbitration (run .statusAttempt (station .ready true true))).sli.slotPending = true := by decide
/-- R47. -/
theorem test_status_sent : (run .statusSent (run .statusAttempt (station .ready true true))).sli.slotPending = false := by decide
/-- R97, R105. -/
theorem test_move_complete :
    let t := run .moveComplete (run (.pantographGoPark 0 (goPayload 2 0 0)) (station .ready true true))
    t.pnc.x = 0 ∧ t.pnc.y = 0 ∧ t.pnc.go = none ∧ t.pnc.inPlace = false := by decide
/-- R103. -/
theorem test_home_switch :
    let d := station .ready true true
    (run (.homeSwitchClose .x) { d with pnc := { d.pnc with go := some (.home (.seek 0) .done) } }).pnc.go =
      some (.home .backoff .done) := by decide
/-- R104. -/
theorem test_home_backoff :
    let d := station .ready true true
    let t := run (.homeBackoffDone .x) { d with pnc := { d.pnc with homed := false, go := some (.home .backoff .done) } }
    t.pnc.homed = true ∧ t.pnc.x = 0 ∧ t.pnc.go = none := by decide
/-- R103, R104 (6.8): the Y axis fails, the HOME ends with HOME_FAIL of Y. -/
theorem test_home_limit :
    let d := station .ready true true
    let t := run (.homeSeekLimit .y) { d with pnc := { d.pnc with homed := false, go := some (.home .done (.seek 0)) } }
    t.pnc.homed = false ∧ t.stc.faults = [⟨.homeFail, 0, none, some (axisCode .y)⟩] := by decide
/-- R120. -/
theorem test_drive_falls : (run .driveReadyFall (turning 700 (station .run true true))).stc.faults = [⟨.drive, 0, none, some 0⟩] := by decide
/-- R122: a rise in HALTED off top begins a creep at N_halt. -/
theorem test_drive_rises :
    let d := station .halted true true
    let t := run .driveReadyRise { d with pins := { d.pins with driveReady := false }, sht := { d.sht with onTop := false } }
    t.sgv.mode = .creep ∧ t.sgv.demand = 60 ∧ t.sgv.attempts = 1 := by decide
/-- R120: a rise ends nothing, with the shaft at rest on top too. -/
theorem test_drive_rise_ends_nothing :
    let d := station .halted true true
    let t := run .driveReadyRise { d with
      pins := { d.pins with driveReady := false }, sgv := { d.sgv with reposition := some .awaitingDrive, attempts := 1 } }
    t.sgv.reposition = some .awaitingDrive ∧ t.sgv.attempts = 1 := by decide
/-- R124, R125: the second creep ends off top at angle 40. -/
theorem test_creep_gives_up :
    let d := station .halted true true
    let t := run .creepTimeout { d with
      sht := { d.sht with angle := 40, onTop := false }
      sgv := { d.sgv with mode := .creep, demand := 60, reposition := some .creeping, attempts := 2, creepTimer := some 0 } }
    t.stc.faults = [⟨.shaftPosition, 0, none, some 40⟩] ∧ t.sgv.givenUp = true := by decide
/-- R124: at attempts 1 the second creep begins, DRIVE_READY low or not; the expiry that a rest came before leaves it alone. -/
theorem test_second_creep :
    let d := station .halted true true
    let e := { d with
      pins := { d.pins with driveReady := false }, sht := { d.sht with onTop := false }
      sgv := { d.sgv with mode := .creep, demand := 60, reposition := some .creeping, attempts := 1, creepTimer := some 0 } }
    (run .creepTimeout e).sgv.attempts = 2 ∧
    (run .creepTimeout { e with sgv := { e.sgv with restAt := some 0 } }).sgv.attempts = 1 := by decide
/-- R129: an ACTIVE head in RUN whose case leaves needle 3 is CASE_LOST. -/
theorem test_case_lost : (run (.caseSensorChange 3 false) (turning 700 (station .run true true))).stc.faults =
    [⟨.caseLost, 0, some 3, some 3⟩] := by decide
/-- R132: the third attempt's timeout is CASE_JAM with the needle it stepped to. -/
theorem test_step_jam :
    let d := station .armed true true
    let t := run .stepTimeout { d with ncc := { d.ncc with step := some ⟨3, 4, true, some 0⟩, attempts := 3 } }
    t.stc.faults = [⟨.caseJam, 0, some 4, some 3⟩] ∧ t.stc.state = .ready := by decide
/-- R131, R132: the success of the step 3 to 4 begins the step 4 to 5; the timeout that comes with it leaves that step at its first
attempt, and the next one, its own, retries it. -/
theorem test_success_before_timeout :
    let d := station .armed true true
    let a := { d with ncc := { d.ncc with map := List.replicate 64 7, step := some ⟨3, 4, true, some 0⟩, attempts := 2, settled := false } }
    let t := run .stepTimeout (run (.caseSensorChange 4 true) a)
    t.ncc.step.map (·.toNeedle) = some 5 ∧ t.ncc.attempts = 1 ∧ t.ncc.pulses = a.ncc.pulses + 1 ∧
    (run .stepTimeout t).ncc.attempts = 2 := by decide +kernel
/-- R134, R137: a settled head whose step is still in progress is not ready, and its gate stays low. -/
theorem test_step_in_progress_holds_the_gate :
    let d := station .armed true true
    let t := run (.stop 1 [0]) { d with ncc := { d.ncc with step := some ⟨3, 4, true, some 0⟩ } }
    t.ncc.settled = true ∧ holdReason t = .needleMoving ∧ t.gtu.drive = .low ∧ holdReason d = .none := by decide
/-- R135, R142: a needle other than the settled needle is a needle change. -/
theorem test_settle_change :
    let d := station .armed true true
    let t := run .settleTimerExpiry { d with ncc := { d.ncc with settled := false, settleTimer := some 0, settledNeedle := 5 } }
    t.ncc.settled = true ∧ t.ncc.settledNeedle = 3 ∧ t.thm.suppression = 2 := by decide
/-- R139: the pulse count stays at 255. -/
theorem test_thread_pulse :
    let d := station .run true true
    let p : Penetration := { stitch := 1, needle := 3, trim := false, pulses := 255, peak := 0, window := false }
    (run .threadPulse { d with thm := { d.thm with pen := some p } }).thm.pen = some p := by decide

/-! ## Witnesses: concrete states and operands that meet each clause of each statement with hypotheses -/

theorem meets_StepTakesFrontCommand : ({ of (station .run true true) with pending := [.threadPulse, .restReached] } : State).pending =
    Instr.threadPulse :: [.restReached] := rfl
theorem meets_IdleStepPassesOneMicrosecond : (of (station .run true true)).pending = [] := rfl
theorem meets_ResetLowHoldsThePart : (of (run .resetNLow (station .run true true))).dev.resetLow = true ∧
    Instr.threadPulse ≠ .resetNLow ∧ ∀ a h f, Instr.threadPulse ≠ .hardReset a h f := ⟨by decide, by decide, fun _ _ _ => nofun⟩
/-- One notice for each of the six answers: ignored, FORMAT, RANGE, STATE, no effect, taken. -/
theorem meets_NoticeChecksBeforeOwner :
    let d := station .ready true true
    Live (of d) ∧ noticeOf (.back 3 [0, 0, 0, 1]) = some (.back, true, 3, [0, 0, 0, 1]) ∧ (3 : Addr).toNat ≠ 0 ∧
    noticeOf (.back 0 [0]) = some (.back, false, 0, [0]) ∧ (0 : Addr).toNat = 0 ∧ targetOf [0] = 0 ∧
    noticeOf (.back 0 [1, 0, 0, 1]) = some (.back, true, 0, [1, 0, 0, 1]) ∧ targetOf [1, 0, 0, 1] = d.stc.addr ∧
    targetOf [1, 0, 0, 1] ≠ 0 ∧ targetOf [0, 0, 0, 1] = 0 ∧ acceptance d .back = .refusedState ∧
    noticeOf (.stop 0 [0]) = some (.stop, true, 0, [0]) ∧ acceptance d .stop = .noEffect ∧
    noticeOf (.start 0 [0]) = some (.start, true, 0, [0]) ∧ acceptance d .start = .checked :=
  ⟨by decide, rfl, by decide, rfl, by decide, by decide, rfl, by decide, by decide, by decide, by decide, rfl, by decide, rfl, by decide⟩
/-- States of a run that meet the laws. -/
theorem meets_FaultListNeverExceedsEight : FaultLaw (station .run true true) := by unfold FaultLaw; decide +kernel
theorem meets_GateHeldLowOutsideRun : GateLaw (released (turning 700 (station .run true true))) ∧
    GateLaw { released (turning 630 (station .halting true true)) with
      gtu := { (released (station .halting true true)).gtu with waits := some .d } } := by unfold GateLaw; decide +kernel
/-- An ACTIVE head in RUN without a step, and one in ARMED with a step. -/
theorem meets_GateHeldLowOutsideRun_case :
    let a := station .armed true true
    let e := { a with ncc := { a.ncc with step := some ⟨3, 4, true, some 0⟩ } }
    CaseLaw (station .run true true) ∧ GateLaw (station .run true true) ∧ CaseLaw e ∧ GateLaw e := by
  unfold CaseLaw GateLaw; decide +kernel
theorem meets_LockLaw : LockLaw (station .run true true) := by unfold LockLaw; decide +kernel
theorem meets_ShaftItemsStayInRange : ShaftLaw (turning 1023 (station .run true true)) := by unfold ShaftLaw; decide +kernel
theorem meets_HomedPantographInField : FieldLaw (station .run true true) := by unfold FieldLaw; decide +kernel
theorem meets_PageSlotsConserved : SlotLaw (run .resetNLow State.reset.dev) := by
  unfold SlotLaw; decide +kernel
/-- A walk from 5 to 3, the END record reached, and stitch 0; the crossings 12 to 13, 13 to 12, 0 to 1 and 1 to 0, and none. -/
theorem meets_PageSlotsConserved_pages :
    let d := stitched 3 (station .halted true true)
    PageLaw { d with ssq := { d.ssq with walk := some ⟨.back, 5, 3, 4, 4, 0, 1, 0, false⟩ } } ∧
    PageLaw (atEnd (station .done true true)) ∧ PageLaw (station .run true true) := by
  unfold PageLaw
  refine ⟨?_, ?_, ?_⟩ <;> decide +kernel
theorem meets_PageSlotsConserved_crossings :
    store1.posted = ⟨1, 1, records1⟩ :: [] ∧ 12 % 12 = 0 ∧ (atEnd State.reset.dev).pgs.current = some ⟨1, 1, records1⟩ ∧
    store0.posted = ⟨0, 0, records0⟩ :: [⟨1, 1, records1⟩] ∧ store1.current = some ⟨0, 0, records0⟩ ∧ 3 % 12 ≠ 0 := by decide
theorem meets_PenetrateOnlyWhileFit :
    let d := station .run true true
    PenetrationLaw { d with hsc := { d.hsc with decision := some ⟨1, true, false, false⟩ } } := by
  intro d x hx hp; cases hx; exact ⟨by decide, by decide⟩
theorem meets_LockedStationStaysJoining : (run (.hardReset 0 true true) State.reset.dev).stc.lock ≠ .none ∧
    (run (.hardReset 0 true true) State.reset.dev).stc.state = .joining ∧
    exec .threadPulse (of (run (.hardReset 0 true true) State.reset.dev)) =
      .next (of (run .threadPulse (run (.hardReset 0 true true) State.reset.dev))) := ⟨by decide, by decide, rfl⟩
/-- The greatest kind, source and length the arbitration field and R41 admit. -/
theorem meets_FrameRoundTrip : (63 : Nat) < 64 ∧ (31 : Nat) < 32 ∧ (List.replicate 56 (0xFF : Byte)).length ≤ 56 := by decide
/-- The CRC of a notice, and one that is not it, with the longest and with too long a payload. -/
theorem meets_StuffedBitsAndCrc : (63 : Nat) < 64 ∧ (31 : Nat) < 32 ∧ 65535 < 2 ^ 16 ∧
    (crc16 (Notice.covered ⟨63, 31, [0]⟩)).toNat < 2 ^ 16 ∧ (crc16 (Notice.covered ⟨63, 31, [0]⟩)).toNat ≠ 65535 ∧
    56 < (List.replicate 57 (0 : Byte)).length := by decide +kernel
theorem meets_StatusRoundTrip : (statusOf (run .indexPulse (turning 500 (station .halted true true)))).fits := by
  refine ⟨by decide, by decide, by decide, by decide, by decide, by decide, by decide +kernel, by decide +kernel, ?_, ?_, ?_, ?_⟩
  · intro h hh; cases hh; decide
  · intro f hf; cases hf; decide
  · intro g hg; cases hg; decide
  · intro r hr; cases hr; exact ⟨by decide, by decide, nofun, 500, by decide, by decide⟩
/-- No move; the triangle's last step count at A = 800, V = 40, and the trapezoid's first. -/
theorem meets_AxisMoveTime : (1 : Nat) ≤ 800 ∧ (1 : Nat) ≤ 40 ∧ 2001 ≤ 2 ^ 64 ∧ 2000 * 800 ≤ 40 * 40 * 1000 ∧ 40 * 40 * 1000 < 2001 * 800 ∧
    axisTime 800 40 2000 = 100000 ∧ axisTime 800 40 2001 = 100025 := by decide
theorem meets_GeometricCeilingFitsTheWindow : (1 : Nat) ≤ 33622 ∧ geoCeiling .default .default 0 = nTopE .default := by decide
theorem meets_StationResetRejoins : Live (of (station .run true true)) ∧ Taken (.stationReset 0 [1]) (station .run true true) := by decide
/-- Lag 1; lag 0 with nothing due at 1; the D event alone at 640; the count that misses its index. -/
theorem meets_ForwardCount : Live (of (turning 639 (station .run true true))) ∧
    NothingDue (turning 1 (station .run true true)) ∧ OnlyDue .d (turning 640 (station .run true true)) ∧
    (0 : Nat) + 1 ≠ 1027 ∧ (run (.encoderForwardCount 0) { turning 5 (station .run true true) with
      sht := { (turning 5 (station .run true true)).sht with run := 1026 } }).sht.synced = false := by
  refine ⟨by decide, .inr ?_, ⟨by decide, by decide, by decide, ?_⟩, by decide, by decide⟩
  · intro n; cases n <;> decide
  · intro n; cases n <;> decide
/-- With K_on at A_arm, both due at 320. -/
theorem meets_ForwardCount_two :
    let d := station .run true true
    dueNames (turning 320 { d with stc := { d.stc with timing := some { TimingSection.default with kOn := 320 } } }) =
      [.aArm, .kOn] := by decide
theorem meets_ReverseCount : Live (of (turning 0 (station .run true true))) := by decide
/-- With a deferred FIELD, and without. -/
theorem meets_EncoderFaultLosesSync :
    let d := station .run true true
    let e := { d with pnc := { d.pnc with deferred := true, finding := some .x } }
    d.pnc.deferred = false ∧ e.pnc.deferred = true ∧ e.pnc.finding = some .x := by decide
/-- Not synchronised, nothing due and M at 0 due; angles 3 and 1020; lag 1 at 2; captures at 2 and 1021, under speed and over. -/
theorem meets_IndexPulse :
    let d := turning 1021 (station .run true true)
    let fast := { d with now := 30000, sht := { d.sht with chain := true, angle := 0, run := 0 } }
    let zero := { d with
      stc := { d.stc with timing := some { TimingSection.default with m := 0 } }
      sht := { d.sht with angle := 0 } }
    Live (of d) ∧ NothingDue { d with sht := { d.sht with angle := 0 } } ∧ OnlyDue .m zero ∧
    (∀ n, angleOf (timing d) n ≠ 0 ∧ angleOf (timing d) n ≠ 1022 ∧ angleOf (timing d) n ≠ 1023) ∧
    ¬Overspeed { d with sht := { d.sht with angle := 0, run := 0 } } ∧ Overspeed fast := by
  refine ⟨by decide, .inr ?_, ⟨by decide, by decide, by decide, ?_⟩, ?_, ?_, ⟨by decide, by decide, by decide, 2000, by decide, by decide⟩⟩
  · intro n; cases n <;> decide
  · intro n; cases n <;> decide
  · intro n; cases n <;> decide
  · intro h; exact absurd h.2.2.1 (by decide)
/-- With M at 0: at 1021 under speed, and over. -/
theorem meets_IndexPulse_swept :
    let d := turning 1021 (station .run true true)
    let z := { d with stc := { d.stc with timing := some { TimingSection.default with m := 0 } } }
    let zero (e : Station) : Station := { e with sht := { e.sht with angle := 0, run := 0, raised := [] } }
    let swept (e : Station) : Station := handed (dueNames (zero (comesTo 1023 (comesTo 1022 e)))) (zero (comesTo 1023 (comesTo 1022 e)))
    let fast := { z with now := 30000, sht := { z.sht with chain := true } }
    z.sht.synced = true ∧ z.sht.lag = 0 ∧ dueNames (zero z) = [.m] ∧ ¬Overspeed (swept z) ∧ Overspeed (swept fast) := by
  refine ⟨by decide, by decide, by decide, ?_, ⟨by decide, by decide, by decide, 2000, by decide, by decide⟩⟩
  intro h; exact absurd h.2.2.1 (by decide)
/-- In HALTING, at S and before it; HALTED with a creep due and without; a shaft that turns. -/
theorem meets_RestReached :
    let ran := turning 700 (station .halting true true)
    Live (of ran) ∧ ran.sht.atRest = false ∧ ran.sgv.reposition = none ∧ ran.pnc.deferred = false ∧
    CreepDue (pendingStarted (rested (turning 700 (station .halted true true)))) ∧
    ¬CreepDue (rested (turning 700 (station .halted true false))) ∧
    atDesignEnd { ran with ssq := { ran.ssq with stitch := 14 } } = true ∧ atDesignEnd ran = false ∧
    ran.stc.haltReason ≠ some .colourStop := by decide
/-- A halting from a COLOUR_STOP, at rest on top. -/
def colourStopped : Station :=
  let d := station .halting true true
  turning 0 { d with stc := { d.stc with haltReason := some .colourStop } }
/-- It arms again, with the line low; with the line high, ready; with a finding of the axis Y. -/
theorem meets_RestReached_arms :
    let d := colourStopped
    (thread d).pause = false ∧ d.stc.faults = [] ∧ d.sht.atRest = false ∧ atDesignEnd d = false ∧ d.ncc.step = none ∧
    ArmsQuietly (rested d) ∧ d.gtu.seenHigh = false ∧ restOnTop (rested d) = true := by decide
theorem meets_RestReached_restCommit :
    let d := colourStopped
    RunsOn d ∧ (released d).gtu.seenHigh = true ∧ (released d).gtu.drive = .released ∧
    ready (arms .halted (pendingStarted (rested d))) = true ∧ ready (rested (turning 0 (station .armed true true))) = true := by
  decide
theorem meets_RestReached_field :
    let d := { colourStopped with pnc := { colourStopped.pnc with deferred := true, finding := some .y } }
    d.pnc.finding = some .y ∧ ArmsQuietly { rested d with pnc := { (rested d).pnc with finding := none } } := by decide
/-- A sequence in progress, creeping off top, waiting on top, after two creeps. -/
theorem meets_RestReached_sequence :
    let off := turning 700 (station .halted true true)
    let seq (q : Reposition) (n : Nat) := { off with sgv := { off.sgv with reposition := some q, attempts := n } }
    (seq .creeping 1).sgv.reposition = some .creeping ∧ restOnTop (rested (seq .creeping 1)) = false ∧
    restOnTop (rested (turning 0 (seq .awaitingDrive 0))) = true ∧ (seq .awaitingRest 2).sgv.attempts = 2 := by decide
/-- ARMED with nothing to do, with a step to begin, with a retry. -/
theorem meets_RestReached_armed :
    let d := turning 0 (station .armed true true)
    let due := { d with ncc := { d.ncc with map := List.replicate 64 7 } }
    let retry := { d with ncc := { d.ncc with step := some ⟨3, 4, true, none⟩ } }
    CaseIdle (rested d) ∧ ¬CreepDue (rested d) ∧ StepDue (rested due) ∧ restOnTop (rested due) = true ∧
    retry.ncc.step = some ⟨3, 4, true, none⟩ ∧ retry.gtu.seenHigh = false ∧ retry.stc.activity = .active := by decide
/-- No rest commit; one; one with a peer in HALTING, and one of a frame station that counts no head ACTIVE. -/
theorem meets_SeenLevelAndRestCommit :
    let d := released (station .armed true true)
    let h := { d with prt := [⟨5, true, false, true, some (peerItems .halting 0), 0, false, false⟩] }
    let f := released (station .armed false true)
    Live (of d) ∧ (station .ready true true).gtu.drive = .low ∧ d.stc.state = .armed ∧ d.gtu.drive = .released ∧
    restOnTop d = true ∧ RunsOn d ∧ peerHalting h = true ∧ peerHalting f = false ∧
    noActiveHead f = true ∧ restOnTop f = true := by decide
/-- A SEW, the COLOR_STOP and a stitch that is not held, in RUN and in HALTING. -/
theorem meets_HighLineAtDCommits :
    let d := released (turning 640 (stitched 5 (station .run true true)))
    let h := released (turning 640 (stitched 5 (station .halting true true)))
    d.stc.state = .run ∧ d.gtu.seenHigh = true ∧ d.sht.atRest = false ∧ d.pgs.read 6 = some ⟨.colorStop, 0, 0, 2⟩ ∧
    d.pgs.read 5 = some ⟨.sew, 1, 0, 0⟩ ∧ d.pgs.read 15 = none ∧ h.stc.state = .halting ∧ h.gtu.drive = .released ∧
    h.gtu.seenHigh = true ∧ h.pgs.read 6 = some ⟨.colorStop, 0, 0, 2⟩ := by decide
theorem meets_CommitDemandLaw :
    let d := released (turning 640 (stitched 1 (station .run true true)))
    let e := { d with sgv := { d.sgv with mode := .running, demand := 60 } }
    e.stc.state = .run ∧ e.gtu.seenHigh = true ∧ e.stc.frameRole = true ∧ e.pgs.header = some header14 ∧ e.ssq.stitch + 1 ≤ 14 ∧
    e.pgs.read 2 = some ⟨.sew, 1, 0, 0⟩ ∧ (e.pgs.moveTo (motion e).retention 1 2).read 2 = some ⟨.sew, 1, 0, 0⟩ ∧
    (motion e).nHalt ≤ nTopE (motion e) ∧ (motion e).nHalt ≤ e.sgv.demand := by decide
/-- The dwell that is one short of K = 3, and the one that reaches it; HALTING; READY. -/
theorem meets_LowLineAtDDwells :
    let d := turning 640 (station .run true true)
    d.stc.state = .run ∧ d.gtu.seenHigh = false ∧ 1 + 1 < (timing d).dwellLimit ∧ (timing d).dwellLimit ≤ 2 + 1 ∧
    (station .halting true true).gtu.drive = .low ∧ (station .ready true true).stc.state ≠ .run := by decide
theorem meets_VetoAtH :
    let d := released (turning 256 (station .run true true))
    let c := { d with gtu := { d.gtu with committed := true }, pnc := { d.pnc with deferred := true, finding := some .x } }
    let l := { c with gtu := { c.gtu with drive := .low, seenHigh := false } }
    let o := { c with gtu := { c.gtu with seenHigh := false } }
    ¬d.gtu.committed = true ∧ c.stc.state = .run ∧ c.gtu.seenHigh = true ∧ l.gtu.committed = true ∧ l.gtu.seenHigh = false ∧
    l.gtu.drive = .low ∧ o.gtu.seenHigh = false ∧ o.gtu.drive = .released := by decide
theorem meets_DecisionCarriedOutAtAArm :
    let d := station .run true true
    d.hsc.knifePending = false ∧ { d.hsc with knifePending := true }.knifePending = true ∧
    let p := { d with hsc := { d.hsc with decision := some ⟨1, true, false, false⟩ } }
    (station .run false true).stc.headRole = false ∧ p.stc.headRole = true ∧ p.hsc.decision = some ⟨1, true, false, false⟩ ∧
    p.stc.activity = .active ∧ needleFit p = true ∧ d.hsc.decision = none := by decide
/-- A pending move, one of no displacement, a move in progress, none; M with the move of W_open late. -/
theorem meets_MoveWindow :
    let d := station .run true true
    let m : Move := { kind := .stitch, fromX := 0, fromY := 0, toX := 200, toY := -80, treq := 33622, started := 0, atWOpen := true }
    let q (n : Nat) := { d with pnc := { d.pnc with pending := some ⟨12004, 8000, n⟩ } }
    let w := { d with pnc := { d.pnc with move := some m } }
    (q 6472).stc.frameRole = true ∧ (q 6472).pnc.move = none ∧ (q 6472).pnc.pending = some ⟨12004, 8000, 6472⟩ ∧
    (q 0).pnc.pending = some ⟨12004, 8000, 0⟩ ∧ (station .run true false).stc.frameRole = false ∧ w.pnc.move = some m ∧
    m.kind = .stitch ∧ m.atWOpen = true ∧ d.pnc.move = none ∧ d.pnc.pending = none := by decide
/-- 9.6, "A break behind a trim": no penetration, a pulse at a lag, exempt, suppressed, judged, dry, and the dry one that is the break
under HALT, and under WITHDRAW for a head that is ACTIVE or not. -/
theorem meets_ThreadPulsesAndVerdict :
    let p : Penetration := { stitch := 203, needle := 6, trim := false, pulses := 0, peak := 0, window := true }
    let d := station .run true false
    let s (sup dry : Nat) := { d with thm := { d.thm with pen := some p, suppression := sup, dryCount := dry } }
    let l := { s 0 0 with sht := { d.sht with lag := 1 } }
    let w := { s 0 2 with stc := { d.stc with thread := some { ThreadSection.default with withdraw := true } } }
    Live (of l) ∧ l.stc.headRole = true ∧ 1 ≤ l.sht.lag ∧ l.thm.pen = some p ∧ d.thm.pen = none ∧ p.trim = false ∧
    { p with trim := true }.trim = true ∧ 0 < (s 2 0).thm.suppression ∧ (s 0 0).thm.suppression = 0 ∧ p.pulses = 0 ∧
    0 < { p with pulses := 1 }.pulses ∧ (s 0 0).thm.dryCount + 1 ≠ (thread d).dryLimit ∧
    (s 0 2).thm.dryCount + 1 = (thread d).dryLimit ∧ (thread d).withdraw = false ∧ (thread w).withdraw = true ∧
    w.thm.dryCount + 1 = (thread w).dryLimit ∧ w.stc.activity = .active ∧ w.stc.frameRole = false ∧
    { w.stc with activity := .deselected }.activity ≠ .active := by decide
/-- Restart; the third sample since; judged within the bands at 120; a fault at 119, needle 12. -/
theorem meets_TensionFilterAndState :
    let d := station .run true false
    let r (f n : Nat) := { d with thm := { d.thm with restart := false, filter := f, samples := n } }
    d.thm.restart = true ∧ (r 0 2).thm.samples < 3 ∧ 3 ≤ (r 0 3).thm.samples ∧
    (7 * 120 + 120 + 4) / 8 = (thread d).tLoF ∧ (7 * 119 + 119 + 4) / 8 < (thread d).tLoF := by decide
theorem meets_FaultActsOnTheState :
    let a := { station .armed true true with stc := { (station .armed true true).stc with former := .halted } }
    let h := { station .halting true true with stc := { (station .halting true true).stc with haltReason := some .colourStop } }
    (station .ready true true).stc.state = .ready ∧ (turning 5 (station .run true true)).sht.atRest = false ∧
    h.stc.haltReason = some .colourStop ∧ (station .halting true true).stc.haltReason ≠ some .colourStop ∧
    (station .armed true true).stc.former = .ready ∧ a.stc.state = .armed ∧ a.stc.former ≠ .ready ∧ a.sgv.reposition = none ∧
    (station .run true true).sht.atRest = true := by decide
/-- R119, R123: a fault in ARMED with a creep in progress leaves the creep running; one off top without a sequence begins one. -/
theorem test_fault_in_armed_keeps_creep :
    let a := { station .armed true true with
      stc := { (station .armed true true).stc with former := .halted }
      sht := { (station .armed true true).sht with onTop := false } }
    let c := { a with sgv := { a.sgv with mode := .creep, demand := 100, reposition := some .creeping, attempts := 2 } }
    (fault ⟨.drive, 0, none, some 0⟩ c).sgv = c.sgv ∧ (fault ⟨.drive, 0, none, some 0⟩ a).sgv.attempts = 1 ∧
    (fault ⟨.drive, 0, none, some 0⟩ c).stc.state = .halted := by decide
theorem meets_StationTimersExpire :
    let a := { station .armed true true with stc := { (station .armed true true).stc with former := .halted } }
    Live (of a) ∧ (station .run true true).stc.state = .run ∧ (station .armed true true).stc.former = .ready ∧ a.stc.state = .armed ∧
    a.stc.former ≠ .ready ∧ (station .run true true).sht.atRest = true ∧
    (turning 5 (station .run true true)).sht.atRest = false ∧ State.reset.dev.stc.state = .joining ∧
    State.reset.dev.stc.lock = .none ∧ State.reset.dev.stc.joinTimer ≠ none ∧ a.stc.joinTimer = none := by decide
theorem meets_StopByState :
    let a := { station .armed true true with stc := { (station .armed true true).stc with former := .halted } }
    Live (of a) ∧ Taken (.stop 0 [0]) (turning 5 (station .run true true)) ∧ (turning 5 (station .run true true)).sht.atRest = false ∧
    Taken (.stop 0 [0]) (station .run true true) ∧ (station .run true true).sht.atRest = true ∧
    Taken (.stop 0 [0]) (station .armed true true) ∧ Taken (.stop 0 [0]) a ∧
    Taken (.stop 0 [0]) (station .halting true true) ∧ Taken (.stop 0 [0]) (station .halted true true) ∧
    Taken (.stop 0 [0]) (station .done true true) := by decide
/-- Row 9 refuses a frame station that counts no ACTIVE head; a READY station with nothing wrong arms; one with a finding does not. -/
theorem meets_StartRefusedOrArms :
    let d := station .ready true true
    let f := station .ready false true
    let x := { d with pnc := { d.pnc with finding := some .x } }
    Live (of d) ∧ Taken (.start 0 [0]) d ∧ Taken (.start 0 [0]) f ∧ startRefusal f = some .noActiveHead ∧ noActiveHead f = true ∧
    startRefusal d = none ∧ ArmsQuietly d ∧ Taken (.start 0 [0]) x ∧ startRefusal x = none ∧ x.pnc.finding = some .x ∧
    ArmsQuietly { x with pnc := { x.pnc with finding := none } } := by decide
/-- A HALTED station: a sequence in progress; a wanted needle of 0, one out of service, no current needle, under both policies; a
step due on top, and on a head-only station off top; a creep due, with a step due and without. -/
theorem meets_StartRefusedOrArms_head :
    let d := station .halted true true
    let h := station .halted true false
    let seq := { d with sgv := { d.sgv with reposition := some .creeping } }
    let none_ := { d with ncc := { d.ncc with map := List.replicate 64 0 } }
    let out := { d with thm := { d.thm with service := List.replicate 12 false } }
    let lost := { d with pins := { d.pins with caseCode := 0 } }
    let due (e : Station) : Station := { e with ncc := { e.ncc with map := List.replicate 64 7 } }
    let off (e : Station) : Station := { e with sht := { e.sht with onTop := false } }
    startRefusal seq = none ∧ seq.sgv.reposition ≠ none ∧ startRefusal none_ = none ∧ wantedNeedle none_ = 0 ∧
    startRefusal out = none ∧ wantedNeedle out ≠ 0 ∧ inService out (wantedNeedle out) = false ∧ startRefusal lost = none ∧
    currentNeedle lost = 0 ∧ inService lost (wantedNeedle lost) = true ∧ (thread d).withdraw = false ∧
    startRefusal (due d) = none ∧ StepDue (arms .halted (due d)) ∧ restOnTop (due d) = true ∧
    startRefusal (due (off h)) = none ∧ StepDue (arms .halted (due (off h))) ∧ restOnTop (off h) = false ∧
    CreepDue (arms .halted (due (off d))) ∧ startRefusal (off d) = none ∧ CreepDue (arms .halted (off d)) := by decide
theorem meets_StartRefusedOrArms_withdraw :
    let d := station .halted true false
    let w := { d with
      stc := { d.stc with thread := some { ThreadSection.default with withdraw := true } }
      ncc := { d.ncc with map := List.replicate 64 0 } }
    startRefusal w = none ∧ Taken (.start 0 [0]) w ∧ (thread w).withdraw = true ∧ w.pnc.finding = none ∧ w.stc.frameRole = false ∧
    w.stc.activity = .active ∧ wantedNeedle w = 0 ∧ w.sgv.reposition = none := by decide
/-- The automatic arming with the peers 5 and 9 lost, and with DRIVE_READY low. -/
theorem meets_StartRefusedOrArms_rest :
    let d := colourStopped
    let e (a : Nat) : PeerEntry := { addr := a, head := true, frame := false, heard := true, last := none, ageFrom := 0, lost := true,
                                     mismatched := false }
    let p := { d with prt := [e 9, e 5] }
    let low := { d with pins := { d.pins with driveReady := false } }
    Live (of p) ∧ d.stc.state = .halting ∧ d.sht.atRest = false ∧ atDesignEnd d = false ∧ d.stc.haltReason = some .colourStop ∧
    (thread d).pause = false ∧ d.stc.faults = [] ∧ d.sgv.reposition = none ∧ d.pnc.deferred = false ∧
    (∃ x ∈ p.prt, x.lost = true ∧ x.addr = 5) ∧ (∀ x ∈ p.prt, x.lost = true → 5 ≤ x.addr) ∧
    (∀ x ∈ low.prt, x.lost = false) ∧ low.stc.frameRole = true ∧ low.pins.driveReady = false ∧ low.pnc.finding = none ∧
    wantedNeedle low ≠ 0 ∧ inService low (wantedNeedle low) = true ∧ currentNeedle low = wantedNeedle low := by decide
/-- R136, check 3, at a Start: its record, and the return to HALTED. -/
theorem test_start_finds_case_lost :
    let d := station .halted true true
    let t := run (.start 0 [0]) { d with pins := { d.pins with caseCode := 0 } }
    t.stc.state = .halted ∧ t.stc.faults = [⟨.caseLost, 0, none, some 0⟩] := by decide
/-- R171: bits 12 to 15 of a service mask are not read. -/
theorem test_status_reads_named_bits :
    readHead [0, 0, 0, 0, 0x33, 0xFF, 0xFE, 0, 0, 0, 0] = some ⟨.active, .clear, 0, 3, 3, 0xFFE, 0, 0⟩ := by decide
/-- R161, R168: in RUN a station of both roles whose head its own break withdrew is not held by the record; one whose head is
DESELECTED is. -/
theorem test_withdrawn_sews_on :
    let d := station .run true true
    let e (a : Activity) := { d with stc := { d.stc with activity := a, faults := [⟨.threadBreak, 0, some 3, some 0⟩] } }
    holdReason (e .withdrawn) ≠ .faulted ∧ holdReason (e .deselected) = .faulted := by decide
theorem meets_WalkRefusedOrNowhere :
    let d := station .halted true true
    let g := { d with pnc := { d.pnc with go := some .park } }
    Live (of d) ∧ Taken (.back 0 [0, 0, 0, 1]) d ∧ g.pnc.go.isSome = true ∧ Taken (.back 0 [0, 0, 0, 1]) g ∧
    Taken (.back 0 [0, 0, 0, 0]) d ∧ countOf [0, 0, 0, 1] ≠ 0 ∧ d.ssq.stitch ≤ max d.pgs.lowest d.ssq.mark ∧
    Taken (.forward 0 [0, 0, 0, 1]) (stitched 6 d) ∧ Taken (.forward 0 [0, 0, 0, 0]) d ∧
    forwardLimit (atEnd d) ≤ 14 ∧ Taken (.forward 0 [0, 0, 0, 1]) (atEnd d) ∧ (atEnd d).pgs.highest = 14 := by decide +kernel
/-- A Back and a Forward of a head-only, of an unhomed and of a homed frame station. -/
theorem meets_WalkBegins :
    let d := stitched 3 (station .halted true true)
    let k : Walk := ⟨.back, 3, 2, 3, 3, 0, 1, 0, false⟩
    let f : Walk := ⟨.forward, 3, 4, 3, 3, 0, 1, 0, false⟩
    Live (of d) ∧ Taken (.back 0 [0, 0, 0, 1]) d ∧ Taken (.forward 0 [0, 0, 0, 1]) d ∧ d.ssq.walk = none ∧ d.pnc.go = none ∧
    1 ≤ min (countOf [0, 0, 0, 1]) (3 - max d.pgs.lowest d.ssq.mark) ∧ 1 ≤ min (countOf [0, 0, 0, 1]) (forwardLimit d - 3) ∧
    d.pnc.move = none ∧ nextWalkStitch d k = (2, 2, 0) ∧ nextWalkStitch d f = (4, 4, 0) ∧
    outsideField d (targetOfPos d 2 0) = none ∧ outsideField d (targetOfPos d 4 0) = none ∧ moveTime (motion d) (-4) 0 ≠ 0 ∧
    Taken (.back 0 [0, 0, 0, 1]) (stitched 3 (station .halted true false)) := by decide +kernel
/-- A Back from the END record, whose displacement is 0: of 1, whole in its event, and of 2, which then moves; the same with stitch 12
outside the field; a Back whose first move waits. -/
theorem meets_WalkBegins_stands :
    let d := atEnd (station .done true true)
    let k (n : Nat) : Walk := ⟨.back, 14, n, 14, 11, 0, 1, 0, false⟩
    let out := { d with pnc := { d.pnc with originX := -41 } }
    let busy := { d with pnc := { d.pnc with move := some ⟨.stitch, 0, 0, 5, 5, 5, 0, true⟩ } }
    Live (of d) ∧ Taken (.back 0 [0, 0, 0, 2]) d ∧ d.ssq.walk = none ∧ d.pnc.go = none ∧ d.pnc.homed = true ∧ d.pnc.move = none ∧
    Stands d (k 13) 1 ∧ (walkAfter d (k 13) 1).stitch = 13 ∧ Stands d (k 12) 1 ∧ (walkAfter d (k 12) 1).stitch ≠ 12 ∧
    outsideField d (walkTarget d (k 12) 2) = none ∧ walkTime d (k 12) 1 ≠ 0 ∧ Stands out (k 12) 1 ∧
    outsideField out (walkTarget out (k 12) 2) = some .x ∧ busy.pnc.move ≠ none ∧
    outsideField busy (walkTarget busy (k 12) 1) = none := by
  unfold Stands; decide +kernel
/-- Bit 1 of the mask flags address 1; the needle fields 13, 12 and 0. -/
theorem meets_HeadSelectAndFaultClear :
    let d := station .halted true true
    Live (of d) ∧ Taken (.headSelect 0 [0, 0, 0, 0, 2]) d ∧ (be32At [0, 0, 0, 0, 2] 1).testBit 1 = true ∧
    Taken (.headSelect 0 [0, 0, 0, 0, 0]) d ∧ Taken (.faultClear 0 [0, 13]) d ∧ 12 < byteAt [0, 13] 1 ∧
    Taken (.faultClear 0 [0, 12]) d ∧ byteAt [0, 12] 1 ≤ 12 := by decide +kernel
theorem meets_NeedleMapReplacesTheMap :
    let d := station .halted true true
    let u := { d with ncc := { d.ncc with settled := false } }
    Live (of d) ∧ Taken (.needleMap 0 (0 :: List.replicate 32 0x3D)) d ∧ 12 < (mapOf (0 :: List.replicate 32 0x3D)).getD 1 0 ∧
    Taken (.needleMap 0 (0 :: List.replicate 32 0xCC)) d ∧ (∀ i, i < 64 → (mapOf (0 :: List.replicate 32 0xCC)).getD i 0 ≤ 12) ∧
    currentNeedle d = 3 ∧ (∀ i, i < 64 → (mapOf (0 :: List.replicate 32 0x33)).getD i 0 ≤ 12) ∧ d.ncc.settled = true ∧
    u.ncc.settled = false ∧ u.ncc.settleTimer = none ∧ (thread u).settleTime ≠ 0 ∧
    (thread { u with stc := { u.stc with thread := some { ThreadSection.default with settleTime := 0 } } }).settleTime = 0 := by
  decide +kernel
/-- Row 1 (the variant byte) and row 4 of R102 refuse; the rows before row 4 pass. -/
theorem meets_GoRefusedByFirstFailingCheck :
    let d := station .halted true true
    Live (of d) ∧ Taken (.pantographGoPark 0 (goPayload 1 0 0)) d ∧ byteAt (goPayload 1 0 0) 1 ≠ GoVariant.park.code ∧
    Taken (.pantographGoSetOrigin 0 (goPayload 5 0 0)) d ∧ byteAt (goPayload 5 0 0) 1 = GoVariant.setOrigin.code ∧
    goBusy d = false ∧ d.pnc.homed = true ∧ d.stc.state ≠ .ready := by decide
theorem meets_HomeFindsBothSwitches :
    let d := station .ready true true
    let h (x y : HomeAxis) := { d with pnc := { d.pnc with homed := false, go := some (.home x y) } }
    Live (of d) ∧ Taken (.pantographGoHome 0 (goPayload 1 0 0) false true) d ∧ goRefusal .home (goPayload 1 0 0) d = none ∧
    (∀ hx hy, d.pnc.go ≠ some (.home hx hy)) ∧ (h (.seek 0) .backoff).pnc.go = some (.home (.seek 0) .backoff) ∧
    (h .backoff .done).pnc.go = some (.home .backoff .done) ∧ (h .backoff .failed).pnc.go = some (.home .backoff .failed) ∧
    (h (.seek 0) .done).pnc.go = some (.home (.seek 0) .done) ∧ (h (.seek 0) .failed).pnc.go = some (.home (.seek 0) .failed) ∧
    (h .done .backoff).pnc.go = some (.home .done .backoff) ∧ HomeAxis.done ≠ .backoff :=
  ⟨by decide, by decide, by decide, nofun, by decide, by decide, by decide, by decide, by decide, by decide, by decide⟩
theorem meets_OneLegGos :
    let d := station .ready true true
    Live (of d) ∧ Taken (.pantographGoPark 0 (goPayload 2 0 0)) d ∧ goRefusal .park (goPayload 2 0 0) d = none ∧
    Taken (.pantographGoReturn 0 (goPayload 3 0 0)) d ∧ goRefusal .goReturn (goPayload 3 0 0) d = none ∧
    Taken (.pantographGoAbsolute 0 (goPayload 4 12000 8000)) d ∧ goRefusal .absolute (goPayload 4 12000 8000) d = none ∧
    outsideField d (d.pnc.x, d.pnc.y) = none ∧ (be16At (goPayload 4 12000 8000) 2 : Int) = d.pnc.x := by decide
theorem meets_SetOriginAndTrace :
    let d := station .ready true true
    let e := { d with pnc := { d.pnc with x := 500 } }
    Live (of d) ∧ Taken (.pantographGoSetOrigin 0 (goPayload 5 0 0)) d ∧ goRefusal .setOrigin (goPayload 5 0 0) d = none ∧
    Taken (.pantographGoTrace 0 (goPayload 6 0 0)) e ∧ goRefusal .trace (goPayload 6 0 0) e = none ∧ e.pgs.header = some header14 ∧
    legsFrom (500, 8000) [(12000, 8000), (500, 8000)] = (12000, 8000) :: [(500, 8000)] ∧
    legsFrom (12000, 8000) [(12000, 8000), (12010, 8000)] = (12010, 8000) :: [] ∧ legsFrom (5, 5) [(5, 5), (5, 5)] = [] := by decide
/-- R97, R107: with the hoop at the first corner, at the origin, the TRACE starts with the second. -/
theorem test_trace_from_first_corner :
    let d := station .ready true true
    let t := run (.pantographGoTrace 0 (goPayload 6 0 0)) { d with pnc := { d.pnc with x := d.pnc.originX, y := d.pnc.originY } }
    header14.xmin = 0 ∧ header14.ymin = 0 ∧ t.pnc.move.map (fun m => (m.fromX, m.toX)) = some (12000, 12000 + 4 * header14.xmax) ∧
    t.pnc.go.map (fun g => match g with | .trace l => l.length | _ => 9) = some 3 := by decide
/-- Each section taken, and a ROSTER of no entry and of another address, a TIMING that fails its orders and one that fails its
window, and a THREAD that fails its values and one that fails its order. -/
theorem meets_ConfigureHoldsOrRefuses :
    let d := State.reset.dev
    let narrow := ((timingPayload 256).set 18 0x03).set 19 0xDF
    let crossed := (threadPayload 0).set 5 255
    Live (of d) ∧ Taken (.configureRoster 0 [0, 1, 1, 0x61]) d ∧ Taken (.configureRoster 0 [0, 1, 0]) d ∧ rosterOf [0, 1, 0] = [] ∧
    Taken (.configureRoster 0 [0, 1, 1, 0x62]) d ∧
    (run (.configureRoster 0 [0, 1, 1, 0x62]) d).stc.lastRefusal = some (.configure, .roster) ∧
    Taken (.configureTiming 0 (timingPayload 240)) d ∧ Taken (.configureTiming 0 (timingPayload 239)) d ∧
    Taken (.configureTiming 0 narrow) d ∧ (timingOf narrow).wOpen = 991 ∧ (224 + 1024 - 991) % 1024 = 257 ∧
    Taken (.configureTiming 0 ((narrow.set 2 0).set 3 222)) d ∧ (timingOf ((narrow.set 2 0).set 3 222)).m = 222 ∧
    Taken (.configureMotion 0 motionPayload) d ∧ Taken (.configureThread 0 (threadPayload 0)) d ∧
    Taken (.configureThread 0 (threadPayload 2)) d ∧ Taken (.configureThread 0 crossed) d ∧ (threadOf crossed).tLoF = 255 := by decide
/-- A header that passes, at the scale's bounds, and one with a first colour slot of 0. -/
theorem meets_DesignOpenResetsTheDesign :
    let d := station .ready true true
    Live (of d) ∧ Taken (.designOpen 0 (openPayload 200)) d ∧ (headerOf (openPayload 200)).stitches = 14 ∧
    (headerOf (openPayload 200)).firstSlot = 1 ∧ Taken (.designOpen 0 ((openPayload 200).set 19 0)) d ∧
    (headerOf ((openPayload 200).set 19 0)).firstSlot = 0 := by decide
/-- Page 2 is beyond P; page 0 is a duplicate; page 1 is above the next wanted page 0, is wanted with no slot free, fails R61 by its
kind of record and by its last record, and is taken, with and without a finding that arises. -/
theorem meets_DesignPageTakenInTurn :
    let d := station .ready true true
    let e := { d with pgs := { store0 with posted := [⟨0, 0, records0⟩], nextWanted := 1, free := [9] } }
    let edge := { e with
      pgs := { e.pgs with posted := [], current := some ⟨0, 0, records0⟩ }, ssq := { e.ssq with stitch := 12, px := 10 }
      pnc := { e.pnc with originX := 23960 } }
    Live (of d) ∧ Taken (.designPage 0 (pagePayload 2 5)) d ∧ d.pgs.header = some header14 ∧ header14.pages ≤ be16At (pagePayload 2 5) 1 ∧
    Taken (.designPage 0 (pagePayload 0 5)) e ∧ be16At (pagePayload 0 5) 1 < e.pgs.nextWanted ∧
    Taken (.designPage 0 (pagePayload 1 5)) e ∧ be16At (pagePayload 1 5) 1 = e.pgs.nextWanted ∧ e.pgs.free = 9 :: [] ∧
    pageRecordsOf (pagePayload 1 5) = some records1 ∧ records1.length = 14 - 12 * (2 - 1) ∧
    records1.getLast?.map (·.kind) = some .endRecord ∧ pageRecordsOf (pagePayload 1 6) = none ∧
    (pageRecordsOf (pagePayload 1 1)).map (fun rs => rs.getLast?.map (·.kind)) = some (some .sew) ∧ findingNow e = none ∧
    0 < be16At (pagePayload 1 5) 1 ∧ edge.pnc.finding = none ∧ Taken (.designPage 0 (pagePayload 1 5)) edge ∧
    nextFinding edge { edge.pgs with posted := [⟨9, 1, records1⟩] } 12 10 0 = some .x := by decide
/-- No entry; the station's own address; a peer in HALTING, in RUN two stitches away and one; in ARMED a stitch apart; a head's walk
from 5 to 3 shown at 3, at 4 and at 9; a frame station whose only head is withdrawn, and one on top whose peer is off top. -/
theorem meets_StatusFromPeerIsJudged :
    let d := withPeer 5 true false (turning 700 (station .run true false))
    let p := encodeStatus (peerItems .halting 0)
    let f (st : StationState) := withPeer 5 true false (station st false true)
    let gone : StatusItems := { peerItems .halted 0 with head := none }
    let high : StatusItems := { peerItems .armed 0 with onTop := false }
    let k : Walk := ⟨.back, 5, 3, 3, 3, 0, 1, 0, false⟩
    let w := { withPeer 5 false true (stitched 3 (station .halted true false)) with
      ssq := { (stitched 3 (station .halted true false)).ssq with walk := some k } }
    Live (of d) ∧ (∀ e ∈ d.prt, e.addr ≠ (6 : Addr).toNat) ∧ (1 : Addr).toNat = d.stc.addr ∧ d.stc.lock = .none ∧
    (5 : Addr).toNat ≠ d.stc.addr ∧ (d.prt.find? (fun e => e.addr == (5 : Addr).toNat)).isSome = true ∧
    decodeStatus p = some (peerItems .halting 0) ∧ d.stc.frameRole = false ∧ d.ssq.walk = none ∧
    (peerItems .halting 0).walking = false ∧ (peerItems .halting 0).state = .halting ∧ d.stc.state = .run ∧ d.sht.atRest = false ∧
    decodeStatus (encodeStatus (peerItems .run 2)) = some (peerItems .run 2) ∧ d.ssq.stitch + 1 < (peerItems .run 2).stitch ∧
    (peerItems .run 1).stitch ≤ d.ssq.stitch + 1 ∧ decodeStatus (encodeStatus gone) = some gone ∧
    noActiveHead { f .armed with prt := [⟨5, true, false, true, some gone, 0, false, false⟩] } = true ∧
    (f .armed).stc.former = .ready ∧ decodeStatus (encodeStatus high) = some high ∧ high.atRest = true ∧ restOnTop (f .armed) = true ∧
    (f .armed).sgv.reposition = none ∧ (f .armed).pins.driveReady = true ∧ w.ssq.walk = some k ∧ w.stc.state = .halted ∧
    min k.start k.target ≤ 4 ∧ 4 ≤ max k.start k.target ∧ 4 ≠ w.ssq.stitch ∧ max k.start k.target < 9 := by decide +kernel
/-- A payload that is no Status; a station in RUN at rest, whose peer is in HALTING, or whose only head is withdrawn. -/
theorem meets_StatusFromPeerIsJudged_rest :
    let d := withPeer 5 true false (station .run true false)
    let gone : StatusItems := { peerItems .halted 0 with head := none }
    decodeStatus [] = none ∧ d.stc.state = .run ∧ d.sht.atRest = true ∧ (peerItems .halting 0).state = .halting ∧
    (station .run false true).sht.atRest = true ∧
    noActiveHead { station .run false true with prt := [⟨5, true, false, true, some gone, 0, false, false⟩] } = true := by decide +kernel
theorem meets_PeerLostByState :
    let d := withPeer 5 false true (station .halted true false)
    Live (of d) ∧ (∀ e ∈ d.prt, e.addr ≠ (6 : Addr).toNat) ∧
    (d.prt.find? (fun e => e.addr == (5 : Addr).toNat)).map (·.lost) = some false ∧ d.stc.state = .halted ∧
    (station .run true true).stc.state = .run ∧ (station .ready true true).stc.state = .ready := by decide
theorem meets_TransmitSlot :
    let d := station .ready true true
    let s := run .statusAttempt d
    Live (of d) ∧ d.sli.slotPending = true ∧ d.sli.sending = none ∧ muted d = false ∧ s.sli.sending ≠ none ∧ Live (of s) := by decide
/-- A stitch move, a PARK, a RETURN, a TRACE with a leg and without one, after a Design Open and a Station Reset too; a walk at its
target and before it, cut, and with its next target outside the field. -/
theorem meets_MoveCompletes :
    let d := stitched 3 (station .halted true true)
    let m (k : MoveKind) : Move := { kind := k, fromX := 12016, fromY := 8000, toX := 12012, toY := 8000, treq := 6472, started := 0, atWOpen := false }
    let g (o : Option Go) (r : InPlaceRule) := { d with pnc := { d.pnc with move := some (m .go), go := o, after := r } }
    let k : Walk := ⟨.back, 5, 3, 4, 4, 0, 1, 0, false⟩
    let out := { d with pnc := { d.pnc with originX := 0 } }
    Live (of d) ∧ d.pnc.move = none ∧ (g none .normal).pnc.move = some (m .go) ∧ (g none .normal).pnc.after = .normal ∧
    (g (some .park) .judge).pnc.after = .judge ∧ (g (some .park) .leave).pnc.after = .leave ∧ outsideField d (12012, 8000) = none ∧
    (g (some (.trace [(12012, 8000), (5, 5)])) .normal).pnc.go = some (.trace [(12012, 8000), (5, 5)]) ∧
    legsFrom (12012, 8000) [(12012, 8000), (5, 5)] = (5, 5) :: [] ∧ legsFrom (12012, 8000) [(12012, 8000)] = [] ∧ d.ssq.walk = none ∧
    k.stitch ≠ k.target ∧ k.cutPending = false ∧ { k with cutPending := true }.cutPending = true ∧ d.stc.state = .halted ∧
    nextWalkStitch d k = (3, 3, 0) ∧ outsideField d (targetOfPos d 3 0) = none ∧
    outsideField out (targetOfPos out (-1) 0) = some .x ∧
    moveTime (motion d) ((targetOfPos d 3 0).1 - (targetOfPos d 4 0).1) 0 ≠ 0 := by decide +kernel
/-- A walk from the END record behind a stitch move: to 13, whole at its completion, and to 12, which then moves. -/
theorem meets_MoveCompletes_stands :
    let d := atEnd (station .halted true true)
    let k (n : Nat) : Walk := ⟨.back, 14, n, 14, 11, 0, 1, 0, false⟩
    (k 13).stitch ≠ (k 13).target ∧ (k 13).dir = .back ∧ (k 13).target ≤ (k 13).stitch ∧ Stands d (k 13) 1 ∧
    (walkAfter d (k 13) 1).stitch = 13 ∧ Stands d (k 12) 1 ∧ (walkAfter d (k 12) 1).stitch ≠ 12 ∧ walkTime d (k 12) 1 ≠ 0 := by
  unfold Stands; decide +kernel
theorem meets_DriveReadyAndCreep :
    let d := station .halted true true
    let low := { d with pins := { d.pins with driveReady := false } }
    let off (e : Station) : Station := { e with sht := { e.sht with onTop := false } }
    let creeping (n : Nat) := { off d with sgv := { d.sgv with mode := .creep, reposition := some .creeping, attempts := n } }
    let armed := { creeping 1 with stc := { d.stc with state := .armed, former := .halted } }
    let waits := { low with sgv := { d.sgv with reposition := some .awaitingDrive, attempts := 1 } }
    let stale := { creeping 2 with sgv := { (creeping 2).sgv with restAt := some d.now } }
    Live (of d) ∧ (station .run true false).stc.frameRole = false ∧ d.pins.driveReady = true ∧ d.sgv.reposition ≠ some .creeping ∧
    (station .run true true).pins.driveReady = true ∧ (creeping 1).sgv.reposition = some .creeping ∧ low.sgv.reposition = none ∧
    low.pins.driveReady = false ∧ armed.stc.state = .armed ∧ armed.sgv.reposition = some .creeping ∧
    CreepDue { off low with pins := d.pins } ∧ ¬CreepDue { low with pins := d.pins } ∧
    waits.sgv.reposition = some .awaitingDrive ∧ waits.sht.atRest = true ∧ waits.sht.onTop = true ∧ (off waits).sht.onTop = false ∧
    (turning 5 waits).sht.atRest = false ∧ (turning 5 (creeping 1)).sht.atRest = false ∧ stale.sgv.restAt = some stale.now ∧
    stale.sht.atRest = true ∧ (creeping 2).sgv.restAt ≠ some d.now ∧ 2 ≤ (creeping 2).sgv.attempts ∧
    (creeping 1).sgv.attempts < 2 := by decide
/-- The case leaves its needle in RUN; a step from 2 to 4 at each of its readings and at another; in ARMED the latch on needle 4
with 7 wanted (the next step) and with 4 wanted (none), at rest on top and off it. -/
theorem meets_CaseSensorsJudged :
    let d := turning 700 (station .run true true)
    let st : CaseStep := ⟨2, 4, true, some 0⟩
    let e := { station .halted true true with ncc := { d.ncc with step := some st, map := List.replicate 64 7 } }
    let a := { station .armed true true with
      pins := { d.pins with caseCode := 4, caseLatch := true }, ncc := { d.ncc with map := List.replicate 64 7, settled := false } }
    Live (of d) ∧ (station .run false true).stc.headRole = false ∧ d.stc.headRole = true ∧ d.ncc.step = none ∧
    d.stc.activity = .active ∧ currentNeedle d = 3 ∧ (4 : Nat) ≠ currentNeedle d ∧ e.ncc.step = some st ∧ (4 : Nat) = st.toNeedle ∧
    ¬StepDue { e with ncc := { e.ncc with step := none, successAt := some 0 } } ∧ StepDue a ∧ restOnTop a = true ∧
    restOnTop { a with sht := { a.sht with onTop := false } } = false ∧ (2 : Nat) = st.fromNeedle ∧ (3 : Nat) ≠ st.fromNeedle ∧
    (3 : Nat) ≠ st.toNeedle ∧ (0 : Nat) ≠ st.toNeedle := by decide
theorem meets_CaseTimers :
    let d := station .armed true true
    let s (n : Nat) := { d with ncc := { d.ncc with step := some ⟨3, 4, true, some 0⟩, attempts := n } }
    let off := { s 1 with sht := { d.sht with onTop := false } }
    let t := { d with ncc := { d.ncc with settled := false, settleTimer := some 0 } }
    Live (of d) ∧ d.ncc.step = none ∧ (s 2).ncc.step = some ⟨3, 4, true, some 0⟩ ∧ (station .ready true true).stc.state ≠ .armed ∧
    { s 1 with ncc := { (s 1).ncc with successAt := some d.now } }.ncc.successAt = some d.now ∧ (s 2).ncc.successAt ≠ some d.now ∧
    d.stc.activity = .active ∧ 3 ≤ (s 3).ncc.attempts ∧ (s 2).ncc.attempts < 3 ∧ restOnTop (s 2) = true ∧ restOnTop off = false ∧
    d.ncc.settleTimer = none ∧ t.ncc.settleTimer ≠ none ∧ currentNeedle t = t.ncc.settledNeedle ∧
    (5 : Nat) ≠ currentNeedle t := by decide
theorem meets_StepBeginsAndHeadFault :
    let d := station .armed true false
    let e := { d with ncc := { d.ncc with map := List.replicate 64 7 } }
    let w := { d with stc := { d.stc with thread := some { ThreadSection.default with withdraw := true } } }
    e.stc.headRole = true ∧ e.stc.state = .armed ∧ e.stc.activity = .active ∧ e.ncc.stopped = .none ∧ e.ncc.step = none ∧
    wantedNeedle e ≠ 0 ∧ inService e (wantedNeedle e) = true ∧ currentNeedle e ≠ 0 ∧ currentNeedle e ≠ wantedNeedle e ∧
    restOnTop e = true ∧ (thread e).withdraw = false ∧ (thread w).withdraw = true ∧ w.stc.activity = .active ∧
    w.stc.frameRole = false := by decide
/-- R162: a both-role station that its own head's fault leaves without an ACTIVE head, in RUN and in ARMED. -/
theorem meets_StepBeginsAndHeadFault_last :
    let b := turning 5 (station .run true true)
    let fr : FaultRecord := ⟨.threadBreak, 0, some 3, some 0⟩
    b.stc.frameRole = true ∧ b.stc.activity = .active ∧ noActiveHead (withdraws fr b) = true ∧ b.sht.atRest = false ∧
    (station .run true true).sht.atRest = true ∧ noActiveHead (withdraws fr (station .run true true)) = true ∧
    (station .armed true true).stc.former = .ready ∧ noActiveHead (withdraws fr (station .armed true true)) = true ∧
    Former.halted ≠ .ready := by decide

end Sys2Proof.Tests
end

/-! ## What the shared operations of Machine/Ops.lean answer, in the terms of Safety.lean -/

namespace Sys2Proof.StitchCycle

open Sys2Proof Sys2Proof.Machine

/-! ### Status causes, records, station states -/

/-- A Status cause touches the transmit slot alone. -/
theorem causeStatus_eq (s : Station) : causeStatus s = { s with sli := (causeStatus s).sli } := by
  unfold causeStatus
  split
  · rfl
  · split <;> rfl

/-- What a Status cause does to the slot depends on the slot and on whether the station is muted, alone. -/
theorem causeStatus_sli_congr {s e : Station} (hlock : e.stc.lock = s.stc.lock) (haddr : e.stc.addr = s.stc.addr)
    (hsli : e.sli = s.sli) : (causeStatus e).sli = (causeStatus s).sli := by
  simp [causeStatus_sli, muted, hlock, haddr, hsli]

/-- A second Status cause adds nothing to the first. -/
theorem causeStatus_sli_twice {s e : Station} (hlock : e.stc.lock = s.stc.lock) (haddr : e.stc.addr = s.stc.addr)
    (hsli : e.sli = (causeStatus s).sli) : (causeStatus e).sli = (causeStatus s).sli := by
  have hm : muted e = muted s := by simp [muted, hlock, haddr]
  rw [causeStatus_sli e, hm, hsli, causeStatus_sli]
  cases hmute : muted s with
  | true => simp
  | false => cases hsend : s.sli.sending <;> simp [hsend]

theorem addRecord_eq (fr : FaultRecord) (s : Station) : addRecord fr s = recorded fr s := by
  unfold addRecord recorded
  by_cases h : s.stc.faults.length < 8
  · simp [Config.maxFaults, h, Nat.not_le.mpr h, Station.setStc]
  · simp [Config.maxFaults, h, Nat.not_lt.mp h, Station.setStc]

theorem enterState_of_ne {st : StationState} {s : Station} (h : s.stc.state ≠ st) :
    enterState st s = { s with stc := { s.stc with state := st }, sli := (causeStatus s).sli } := by
  rw [enterState, if_neg h, causeStatus_eq, causeStatus_sli_congr (s := s)] <;> rfl

/-- A state entered together with other items of the Station Controller. -/
theorem enterState_setStc {st : StationState} {d : Station} {c : StationControl} (h : c.state ≠ st)
    (hlock : c.lock = d.stc.lock) (haddr : c.addr = d.stc.addr) :
    enterState st (d.setStc c) = { d with stc := { c with state := st }, sli := (causeStatus d).sli } := by
  rw [enterState_of_ne (by exact h), causeStatus_sli_congr (s := d) (e := d.setStc c) hlock haddr rfl]
  rfl

theorem enterState_of_eq {st : StationState} {s : Station} (h : s.stc.state = st) : enterState st s = s := if_pos h

theorem refuse_eq (kind : NoticeKind) (why : RefusalReason) (s : Station) : refuse kind why s = refused kind why s := by
  rw [refuse, causeStatus_eq, causeStatus_sli_congr (s := s)] <;> rfl

/-! ### Needle case, governor, pantograph -/

theorem caseLeaves_eq (s : Station) : caseLeaves s = { s with ncc := s.ncc.left } := by
  unfold caseLeaves NeedleCase.left
  cases hs : s.ncc.step with
  | none => simp [Station.setNcc, hs]
  | some k => cases ht : k.timer <;> simp [ht, Station.setNcc, Option.filter, hs]

theorem tryReposition_eq (s : Station) : tryReposition s = if CreepDue s then creeps s else s := by
  have hiff : (sequenceFree s && !restOnTop s && !s.sgv.givenUp) = true ↔ CreepDue s := by
    cases hr : s.sht.atRest <;> simp [sequenceFree, restOnTop, hr, CreepDue, and_assoc]
  unfold tryReposition
  by_cases h : CreepDue s
  · rw [if_pos h, if_pos (hiff.2 h)]; rfl
  · rw [if_neg h, if_neg (mt hiff.1 h)]

theorem outsideField_congr {s e : Station} (h : e.stc = s.stc) (q : Int × Int) : outsideField e q = outsideField s q := by
  rw [outsideField, outsideField, motion, motion, h]

/-- A move of no displacement that completes (R97): the target is the position, homed kept in the field alone, and in-place with
it (R94, R101). -/
theorem setInPlace_arrive (x y : Int) (s : Station) :
    setInPlace (arrive x y s) =
      let homed := s.pnc.homed && decide (outsideField s (x, y) = none)
      { s with pnc := { s.pnc with x := x, y := y, move := none, homed := homed, inPlace := homed } } := by
  have hout := outsideField_congr (s := s) (e := s.setPnc { s.pnc with x := x, y := y, move := none }) rfl (x, y)
  unfold arrive judgeField
  simp only [Station.setPnc_pnc, hout]
  cases hh : s.pnc.homed <;> cases ho : outsideField s (x, y) <;> simp [setInPlace, Station.setPnc]

theorem startPending_eq (s : Station) : startPending false s = pendingStarted s := by
  unfold startPending pendingStarted
  cases hm : s.pnc.move with
  | some m => rfl
  | none =>
    cases hp : s.pnc.pending with
    | none => rfl
    | some t =>
      by_cases ht : t.treq = 0
      · simp only [ht, if_true, setInPlace_arrive]
        simp [Station.setPnc, outsideField_congr (s := s), hm]
      · simp [ht, startMove, Station.setPnc]

/-- A deferred FIELD, written as R95 gives. -/
theorem writeDeferred_eq (s : Station) : writeDeferred s = deferredWritten s := by
  unfold writeDeferred deferredWritten
  cases hd : s.pnc.deferred with
  | false => rfl
  | true => cases hf : s.pnc.finding <;> rfl

end Sys2Proof.StitchCycle

/-! ## What one step can do, and the laws of the Shaft Tracker -/

namespace Sys2Proof.StitchCycle

open Sys2Proof Sys2Proof.Machine

/-- The effect of a command on a live station before the command is closed; the two resets, which are not closed, have none. -/
def effect : Instr → Station → Station
  | .resetNLow => id
  | .hardReset _ _ _ => id
  | .encoderForwardCount t => countForward t.toNat
  | .encoderReverseCount t => countReverse t.toNat
  | .indexPulse => takeIndex
  | .restReached => comeToRest
  | .seenLevelChange high => seeLevel high
  | .stallTimeout => stall
  | .armTimeout => armRunsOut
  | .joinTimeout => joinRunsOut
  | .noticeDiscarded _ => id
  | .stop a p => takeNotice .stop (p.length == 1) a p stopOwner
  | .stationReset a p => takeNotice .stationReset (p.length == 1) a p stationReset
  | .start a p => takeNotice .start (p.length == 1) a p startOwner
  | .back a p => takeNotice .back (p.length == 4) a p (backOwner p)
  | .forward a p => takeNotice .forward (p.length == 4) a p (forwardOwner p)
  | .headSelect a p => takeNotice .headSelect (p.length == 5) a p (headSelectOwner p)
  | .faultClear a p => takeNotice .faultClear (p.length == 2) a p (faultClearOwner p)
  | .pantographGoHome a p x y => fun d => takeGo .home a p goHome (d.setPins { d.pins with xHome := x, yHome := y })
  | .pantographGoPark a p => takeGo .park a p goPark
  | .pantographGoReturn a p => takeGo .goReturn a p Machine.goReturn
  | .pantographGoAbsolute a p => takeGo .absolute a p (goAbsolute p)
  | .pantographGoSetOrigin a p => takeGo .setOrigin a p setOrigin
  | .pantographGoTrace a p => takeGo .trace a p goTrace
  | .needleMap a p => takeNotice .needleMap (p.length == 33) a p (needleMapOwner p)
  | .configureRoster a p => takeNotice .configure (configureLengthFits .roster p) a p (rosterOwner p)
  | .configureTiming a p => takeNotice .configure (configureLengthFits .timing p) a p (timingOwner p)
  | .configureMotion a p => takeNotice .configure (configureLengthFits .motion p) a p (motionOwner p)
  | .configureThread a p => takeNotice .configure (configureLengthFits .thread p) a p (threadOwner p)
  | .designOpen a p => takeNotice .designOpen (p.length == 22) a p (designOpenOwner p)
  | .designPage a p => takeNotice .designPage (pageLengthFits p) a p (designPageOwner p)
  | .statusReceived a p => takeStatus a p
  | .peerLost a => ageRunsOut a
  | .statusInterval => causeStatus
  | .statusAttempt => attemptStatus
  | .lostArbitration => yieldLine
  | .statusSent => statusIsSent
  | .moveComplete => completeMove
  | .homeSwitchClose a => fun d => homeEvent a switchCloses (d.setPins (closeSwitch a d.pins))
  | .homeBackoffDone a => homeEvent a backoffEnds
  | .homeSeekLimit a => homeEvent a seekFails
  | .driveReadyFall => driveReadyFall
  | .driveReadyRise => driveReadyRise
  | .creepTimeout => creepRunsOut
  | .caseSensorChange code latch => fun d => sensorChange (currentNeedle d) (d.setPins (casePins code latch d.pins))
  | .stepTimeout => stepTimeout
  | .settleTimerExpiry => settleRunsOut
  | .threadPulse => countPulse

/-- A command, but a reset, is its effect taken, with the input levels it brings if it brings any. -/
theorem exec_taken {c : Instr} (s : State) (hlow : c ≠ .resetNLow) (hhard : ∀ a x y, c ≠ .hardReset a x y) :
    exec c s = taken s (effect c) ∨ ∃ p, exec c s = takenPin s p (effect c) := by
  cases c with
  | resetNLow => exact absurd rfl hlow
  | hardReset a x y => exact absurd rfl (hhard a x y)
  | encoderForwardCount t => exact .inr ⟨{ s.dev.pins with tension := t.toNat }, rfl⟩
  | encoderReverseCount t => exact .inr ⟨{ s.dev.pins with tension := t.toNat }, rfl⟩
  | pantographGoHome _ _ x y => exact .inr ⟨{ s.dev.pins with xHome := x, yHome := y }, rfl⟩
  | homeSwitchClose a => exact .inr ⟨closeSwitch a s.dev.pins, rfl⟩
  | driveReadyFall => exact .inr ⟨drivePins false s.dev.pins, rfl⟩
  | driveReadyRise => exact .inr ⟨drivePins true s.dev.pins, rfl⟩
  | caseSensorChange code latch => exact .inr ⟨casePins code latch s.dev.pins, rfl⟩
  | _ => exact .inl rfl

/-- A command, but a reset, that a live part takes: its effect, closed. -/
theorem exec_live {c : Instr} {s : State} (h : Live s) (hlow : c ≠ .resetNLow) (hhard : ∀ a x y, c ≠ .hardReset a x y) :
    exec c s = .next (closed s (effect c s.dev)) := by
  rcases exec_taken s hlow hhard with he | ⟨p, he⟩
  · rw [he, taken_live s _ h, closed]
  · rw [he, takenPin_live s p _ h, closed]

/-- While RESET_N is low a command, but a reset, changes input levels at most (R22). -/
theorem exec_resetLow {c : Instr} {s : State} (h : s.dev.resetLow = true) (hlow : c ≠ .resetNLow)
    (hhard : ∀ a x y, c ≠ .hardReset a x y) : ∃ p, exec c s = .next { s with dev := s.dev.setPins p } := by
  rcases exec_taken s hlow hhard with he | ⟨p, he⟩
  · exact ⟨s.dev.pins, by rw [he, taken, if_pos h]; rfl⟩
  · exact ⟨p, by rw [he, takenPin, if_pos h]⟩

/-- All that one step can do to the station: the clock ticks, RESET_N falls or rises, an input level changes on a part held in reset,
or a command takes its effect and is closed. -/
theorem step_cases {s t : State} (h : step s = .next t) :
    (∃ v, t.dev = s.dev.setNow v) ∨ (∃ p, t.dev = s.dev.setPins p) ∨ t.dev = resetFalls s.dev ∨
      (∃ a x y, t.dev = Station.hardReset s.dev.now s.dev.pins a x y) ∨ ∃ c, t.dev = finish s.dev (effect c s.dev) := by
  unfold step at h
  split at h
  next => cases h; exact .inl ⟨_, rfl⟩
  next c rest hpend =>
    by_cases hlow : c = .resetNLow
    · subst hlow; cases h; exact .inr (.inr (.inl rfl))
    by_cases hhard : ∃ a x y, c = .hardReset a x y
    · obtain ⟨a, x, y, rfl⟩ := hhard
      cases h; exact .inr (.inr (.inr (.inl ⟨_, _, _, rfl⟩)))
    have hhard' : ∀ a x y, c ≠ .hardReset a x y := fun a x y he => hhard ⟨a, x, y, he⟩
    cases hl : s.dev.resetLow with
    | true =>
      obtain ⟨p, hp⟩ := exec_resetLow (s := { s with pending := rest }) hl hlow hhard'
      rw [hp] at h
      cases h; exact .inr (.inl ⟨p, rfl⟩)
    | false =>
      rw [exec_live (s := { s with pending := rest }) hl hlow hhard'] at h
      cases h; exact .inr (.inr (.inr (.inr ⟨c, rfl⟩)))

/-! ### The shaft items of each effect -/

theorem takeNotice_sht {kind : NoticeKind} {lenOk : Bool} {src : Addr} {p : Payload} {owner : Station → Station} {s : Station}
    (h : (owner s).sht = s.sht) : (takeNotice kind lenOk src p owner s).sht = s.sht := by
  rcases takeNotice_cases kind lenOk src p owner s with he | ⟨r, he⟩ | he <;> simp [he, h]

theorem takeGo_sht {v : GoVariant} {src : Addr} {p : Payload} {act : Station → Station} {s : Station}
    (h : (act s).sht = s.sht) : (takeGo v src p act s).sht = s.sht := by
  refine takeNotice_sht ?_
  rcases goOwner_cases v p act s with ⟨r, -, he⟩ | ⟨-, he⟩ <;> simp [he, h]

/-- Only the counts, the index and the rest touch the Shaft Tracker (R1 to R5). -/
theorem effect_sht (c : Instr) (d : Station) (hf : ∀ t, c ≠ .encoderForwardCount t) (hr : ∀ t, c ≠ .encoderReverseCount t)
    (hi : c ≠ .indexPulse) (hs : c ≠ .restReached) : (effect c d).sht = d.sht := by
  cases c with
  | encoderForwardCount t => exact absurd rfl (hf t)
  | encoderReverseCount t => exact absurd rfl (hr t)
  | indexPulse => exact absurd rfl hi
  | restReached => exact absurd rfl hs
  | stop | stationReset | start | back | forward | headSelect | faultClear | needleMap | configureRoster | configureTiming
  | configureMotion | configureThread | designOpen | designPage => exact takeNotice_sht (by simp)
  | pantographGoHome | pantographGoPark | pantographGoReturn | pantographGoAbsolute | pantographGoSetOrigin
  | pantographGoTrace => exact takeGo_sht (by simp)
  | _ => simp [effect]

/-- The raised names of a revolution are in agreement with each other and with synchronisation (R3, R7). -/
def RaisedLaw (t : ShaftTracker) : Prop := t.raised.Nodup ∧ (t.synced = false → t.raised = [])

theorem raiseIfDue_raisedLaw {s : Station} (n : AngleName) (h : RaisedLaw s.sht) : RaisedLaw (raiseIfDue s n).sht := by
  unfold raiseIfDue
  split
  next hdue =>
    simp only [Bool.and_eq_true, Bool.not_eq_true', List.contains_eq_mem, decide_eq_true_eq, decide_eq_false_iff_not] at hdue
    obtain ⟨⟨hsync, -⟩, hnew⟩ := hdue
    refine ⟨?_, fun hoff => ?_⟩
    · simpa [raiseEvent, List.nodup_append, hnew] using ⟨h.1, fun a ha he => hnew (he ▸ ha)⟩
    · simp [hsync] at hoff
  next => exact h

theorem raiseEvents_raisedLaw {s : Station} (h : RaisedLaw s.sht) : RaisedLaw (raiseEvents s).sht := by
  unfold raiseEvents
  generalize angleNames = l
  induction l generalizing s with
  | nil => exact h
  | cons n l ih => exact ih (raiseIfDue_raisedLaw n h)

/-- The Shaft Tracker's law, the raised set apart: the items' ranges, and what on top means (1.1, R5). -/
def RangeLaw (t : ShaftTracker) : Prop :=
  t.angle < 1024 ∧ t.lag ≤ 1023 ∧ t.run ≤ 1027 ∧ t.period ≤ 16777215 ∧
    (t.onTop = true → t.atRest = true ∧ t.synced = true ∧ inRestZone t.angle = true)

theorem shaftLaw_iff (d : Station) : ShaftLaw d ↔ RangeLaw d.sht ∧ RaisedLaw d.sht := by
  unfold ShaftLaw RangeLaw RaisedLaw
  tauto

theorem encoderFault_sht (s : Station) :
    (encoderFault s).sht = { s.sht with synced := false, raised := [], chain := false, period := 0, onTop := false } := by
  simp [encoderFault, loseSync]

theorem raiseEvents_rangeLaw (s : Station) : RangeLaw (raiseEvents s).sht ↔ RangeLaw s.sht := by simp [RangeLaw]

theorem capture_rangeLaw {s : Station} (h : RangeLaw s.sht) : RangeLaw (capture s).sht := by
  have hperiod : (capture s).sht.period ≤ 16777215 := by
    unfold capture
    split
    · simp [Config.maxPeriod]
    · simpa using h.2.2.2.1
  simpa [RangeLaw, hperiod] using ⟨h.1, h.2.1, h.2.2.1, h.2.2.2.2⟩

theorem capture_raisedLaw {s : Station} (h : RaisedLaw s.sht) : RaisedLaw (capture s).sht := by simpa [RaisedLaw] using h

end Sys2Proof.StitchCycle

namespace Sys2Proof.StitchCycle

open Sys2Proof Sys2Proof.Machine

/-! ### Encoder counts -/

theorem takeReading_eq (t : Nat) (d : Station) :
    takeReading t d = { d with thm := { d.thm with
      pen := d.thm.pen.map (fun p => { p with peak := if p.window then max p.peak t else p.peak }) } } := by
  unfold takeReading
  cases hp : d.thm.pen with
  | none => exact congrArg d.setThm (congrArg (fun q => { d.thm with pen := q }) hp)
  | some p =>
    cases hw : p.window with
    | true => simp [Station.setThm, hw]
    | false =>
      have hsame : d.thm = { d.thm with pen := some { p with window := false } } := by rw [← hw, ← hp]
      simp only [hw, Bool.false_eq_true, if_false, Option.map_some]
      exact congrArg d.setThm hsame

theorem presentTension_eq (t : Nat) (d : Station) :
    presentTension t d = { d with
      pins := { d.pins with tension := t }
      thm := { d.thm with pen :=
        if d.stc.headRole then d.thm.pen.map (fun p => { p with peak := if p.window then max p.peak t else p.peak })
        else d.thm.pen } } := by
  unfold presentTension
  cases hr : d.stc.headRole with
  | false => simp [Station.setPins, hr]
  | true => simp [takeReading_eq, Station.setPins, hr]

theorem countArrives_eq (d : Station) :
    countArrives d = { d with
      sht := { d.sht with stillFrom := d.now, atRest := false, onTop := d.sht.onTop && !d.sht.atRest }
      gtu := { d.gtu with stallTimer := if d.stc.state = .run then some d.now else d.gtu.stallTimer }
      sgv := { d.sgv with givenUp := d.sgv.givenUp && !d.sht.atRest } } := by
  unfold countArrives restLeft
  by_cases hrun : d.stc.state = .run <;> cases hrest : d.sht.atRest <;>
    simp [Station.setSht, Station.setGtu, Station.setSgv, hrun, hrest]

/-- What every count does (R1, R5, R19, R139). -/
theorem countArrives_presentTension (t : Nat) (d : Station) : countArrives (presentTension t d) = counted t d := by
  rw [countArrives_eq, presentTension_eq]
  rfl

/-! ### The Shaft Tracker's laws -/

theorem counted_shaftLaw {d : Station} (t : Nat) (h : ShaftLaw d) : ShaftLaw (counted t d) ∧ (counted t d).sht.onTop = false := by
  obtain ⟨hangle, hlag, hrun, hperiod, hnodup, hsync, htop⟩ := h
  have hoff : (counted t d).sht.onTop = false := by
    cases ht : d.sht.onTop with
    | false => simp [counted, ht]
    | true => simp [counted, (htop ht).1]
  exact ⟨⟨hangle, hlag, hrun, hperiod, hnodup, hsync, fun ht => absurd ht (by simp [hoff])⟩, hoff⟩

theorem encoderFault_shaftLaw {d : Station} (h : ShaftLaw d) : ShaftLaw (encoderFault d) := by
  obtain ⟨hangle, hlag, hrun, -, -, -, -⟩ := h
  refine ⟨?_, ?_, ?_, ?_, ?_, ?_, ?_⟩ <;> simp [encoderFault_sht, hangle, hlag, hrun]

theorem raiseEvents_shaftLaw {d : Station} (h : ShaftLaw d) : ShaftLaw (raiseEvents d) := by
  rw [shaftLaw_iff] at h ⊢
  exact ⟨(raiseEvents_rangeLaw d).2 h.1, raiseEvents_raisedLaw h.2⟩

theorem capture_shaftLaw {d : Station} (h : ShaftLaw d) : ShaftLaw (capture d) := by
  rw [shaftLaw_iff] at h ⊢
  exact ⟨capture_rangeLaw h.1, capture_raisedLaw h.2⟩

/-- The angle is written and the revolution may begin: the law holds where on top has been lost or the angle is of the rest zone. -/
theorem shaftLaw_angle {d : Station} {a r : Nat} {l : List AngleName} (h : ShaftLaw d) (ha : a < 1024) (hr : r ≤ 1027)
    (hl : l = [] ∨ l = d.sht.raised) (hzone : d.sht.onTop = true → inRestZone a = true) :
    ShaftLaw (d.setSht { d.sht with angle := a, run := r, raised := l }) := by
  obtain ⟨-, hlag, -, hperiod, hnodup, hsync, htop⟩ := h
  refine ⟨ha, hlag, hr, hperiod, ?_, ?_, fun ht => ⟨(htop ht).1, (htop ht).2.1, hzone ht⟩⟩
  · rcases hl with rfl | rfl
    · exact List.nodup_nil
    · exact hnodup
  · rcases hl with rfl | rfl
    · exact fun _ => rfl
    · exact hsync

/-- The angle after one count at lag 0, before its events (R1). -/
def turned (d : Station) : Station :=
  { d with sht := { d.sht with
      angle := (d.sht.angle + 1) % 1024, run := min 1027 (d.sht.run + 1)
      raised := if (d.sht.angle + 1) % 1024 = 0 then [] else d.sht.raised } }

theorem advance_eq (d : Station) :
    advance d = if d.sht.synced && decide (min 1027 (d.sht.run + 1) = 1027) then encoderFault (turned d)
      else raiseEvents (turned d) := rfl

theorem countForward_eq (t : Nat) (d : Station) :
    countForward t d = if 0 < d.sht.lag then (counted t d).setSht { (counted t d).sht with
        angle := (d.sht.angle + 1) % 1024, lag := d.sht.lag - 1 } else advance (counted t d) := by
  unfold countForward
  rw [countArrives_presentTension]
  rfl

theorem countForward_shaftLaw {d : Station} (t : Nat) (h : ShaftLaw d) : ShaftLaw (countForward t d) := by
  obtain ⟨hc, hoff⟩ := counted_shaftLaw t h
  have hangle : (d.sht.angle + 1) % 1024 < 1024 := Nat.mod_lt _ (by decide)
  rw [countForward_eq]
  split
  next =>
    obtain ⟨-, hlag, hrun, hperiod, hnodup, hsync, -⟩ := hc
    exact ⟨hangle, (Nat.sub_le _ _).trans hlag, hrun, hperiod, hnodup, hsync, fun ht => absurd ht (by simp [hoff])⟩
  next =>
    have hd : ShaftLaw (turned (counted t d)) :=
      shaftLaw_angle hc hangle (Nat.min_le_left _ _) (ite_eq_or_eq _ _ _) (fun ht => absurd ht (by simp [hoff]))
    rw [advance_eq]
    split
    · exact encoderFault_shaftLaw hd
    · exact raiseEvents_shaftLaw hd

/-- The shaft one count back, at lag 1023 with the lag at 0 again (R1, R4). -/
def turnedBack (d : Station) : Station :=
  { d with
    sht := { d.sht with angle := (d.sht.angle + 1023) % 1024, chain := false, period := 0
                        lag := if d.sht.lag = 1023 then 0 else d.sht.lag + 1 }
    sgv := { d.sgv with measured := none } }

theorem countReverse_eq (t : Nat) (d : Station) :
    countReverse t d =
      if d.sht.lag = 1023 then encoderFault (turnedBack (counted t d)) else turnedBack (counted t d) := by
  have hlag : (counted t d).sht.lag = d.sht.lag := rfl
  unfold countReverse turnedBack
  rw [countArrives_presentTension, hlag]
  by_cases h : d.sht.lag = 1023 <;> simp [h, hlag] <;> rfl

theorem countReverse_shaftLaw {d : Station} (t : Nat) (h : ShaftLaw d) : ShaftLaw (countReverse t d) := by
  obtain ⟨⟨hangle, hlag, hrun, hperiod, hnodup, hsync, -⟩, hoff⟩ := counted_shaftLaw t h
  have hback : (turnedBack (counted t d)).sht.lag ≤ 1023 := by
    unfold turnedBack
    simp only
    split <;> omega
  have hd : ShaftLaw (turnedBack (counted t d)) :=
    ⟨Nat.mod_lt _ (by decide), hback, hrun, Nat.zero_le _, hnodup, hsync, fun ht => absurd ht (by simp [turnedBack, hoff])⟩
  rw [countReverse_eq]
  split
  · exact encoderFault_shaftLaw hd
  · exact hd

/-- The angles passed over at the index, up to 1023, all lie in the rest zone (R2, R5). -/
theorem sweep_shaftLaw {d : Station} (n : Nat) (h : ShaftLaw d) (hfrom : 1021 ≤ d.sht.angle) (hto : d.sht.angle + n ≤ 1023) :
    ShaftLaw (sweep n d) := by
  induction n generalizing d with
  | zero => exact h
  | succ n ih =>
    have hzone : inRestZone (d.sht.angle + 1) = true := by
      exact decide_eq_true (.inr (by show 1024 - 32 ≤ d.sht.angle + 1; omega))
    have hd : ShaftLaw (d.setSht { d.sht with angle := d.sht.angle + 1 }) :=
      shaftLaw_angle (r := d.sht.run) (l := d.sht.raised) h (by omega) h.2.2.1 (.inr rfl) (fun _ => hzone)
    refine ih (raiseEvents_shaftLaw hd) ?_ ?_ <;> simp <;> omega

theorem takeIndex_shaftLaw {d : Station} (h : ShaftLaw d) : ShaftLaw (takeIndex d) := by
  have hzero : inRestZone 0 = true := by decide
  unfold takeIndex
  split
  · obtain ⟨-, -, -, hperiod, -, -, -⟩ := h
    exact raiseEvents_shaftLaw ⟨by simp, by simp, by simp, hperiod, by simp, by simp, fun ht => ⟨ht, rfl, hzero⟩⟩
  next hsynced =>
  have hsynced : d.sht.synced = true := by simpa using hsynced
  split
  · exact encoderFault_shaftLaw h
  split
  · obtain ⟨-, -, -, hperiod, hnodup, hsync, htop⟩ := h
    exact ⟨by simp, by simp, by simp, hperiod, hnodup, hsync, fun ht => ⟨(htop ht).1, hsynced, hzero⟩⟩
  split
  next hlate =>
    have hs := sweep_shaftLaw (1023 - d.sht.angle) h hlate (by have := h.1; omega)
    exact capture_shaftLaw (raiseEvents_shaftLaw (shaftLaw_angle hs (by decide) (Nat.zero_le _) (.inl rfl) (fun _ => hzero)))
  next =>
    exact capture_shaftLaw (shaftLaw_angle (l := d.sht.raised) h (by decide) (Nat.zero_le _) (.inr rfl) (fun _ => hzero))

theorem comeToRest_shaftLaw {d : Station} (h : ShaftLaw d) : ShaftLaw (comeToRest d) := by
  unfold comeToRest
  split
  · exact h
  have hsht : ∀ (b : Bool) (e : Station),
      (commitAtRest (governorAtRest b (pantographAtRest (caseAtRest (if e.stc.state = .halting then leaveHalting e else e))))).sht
        = e.sht := by
    intro b e; split <;> simp
  obtain ⟨hangle, hlag, hrun, -, hnodup, hsync, -⟩ := h
  simp only [ShaftLaw, hsht]
  simpa [judgeRest, hangle, hlag, hrun, hnodup] using hsync

theorem effect_shaftLaw {d : Station} (c : Instr) (h : ShaftLaw d) : ShaftLaw (effect c d) := by
  by_cases hkept : (effect c d).sht = d.sht
  · unfold ShaftLaw; rw [hkept]; exact h
  cases c with
  | encoderForwardCount t => exact countForward_shaftLaw t.toNat h
  | encoderReverseCount t => exact countReverse_shaftLaw t.toNat h
  | indexPulse => exact takeIndex_shaftLaw h
  | restReached => exact comeToRest_shaftLaw h
  | _ => exact absurd (effect_sht _ d (by simp) (by simp) (by simp) (by simp)) hkept

/-- Settles O12, by the cases of a step: the Shaft Tracker's law is kept by each effect, and closing leaves the tracker alone. -/
theorem shaftItemsStayInRange : Obligations.ShaftItemsStayInRange := by
  intro s t h hstep
  have hkeep : t.dev.sht = s.dev.sht → ShaftLaw t.dev := fun he => by unfold ShaftLaw; rw [he]; exact h
  rcases step_cases hstep with ⟨v, he⟩ | ⟨p, he⟩ | he | ⟨a, x, y, he⟩ | ⟨c, he⟩
  · exact hkeep (by simp [he])
  · exact hkeep (by simp [he])
  · exact hkeep (by simp [he])
  · rw [he]
    exact ⟨Nat.zero_lt_succ _, Nat.zero_le _, Nat.zero_le _, Nat.zero_le _, List.nodup_nil, fun _ => rfl, nofun⟩
  · have hc := effect_shaftLaw c h
    unfold ShaftLaw at hc ⊢
    rw [he, (finish_frame _ _).2.2.2.1]
    exact hc

end Sys2Proof.StitchCycle

/-! ## Angle events, encoder counts and the index -/

namespace Sys2Proof.StitchCycle

open Sys2Proof Sys2Proof.Machine

/-! ### Receivers and the events of one angle (R7) -/

theorem openWindow_eq (d : Station) :
    openWindow d = { d with thm := { d.thm with pen := d.thm.pen.map (fun p => { p with window := true }) } } := by
  unfold openWindow
  cases hp : d.thm.pen with
  | none => exact congrArg d.setThm (congrArg (fun q => { d.thm with pen := q }) hp)
  | some p => rfl

/-- The receivers of an event, by name and strapped role (R7). -/
theorem receive_eq (n : AngleName) (e : Station) : receive n e =
    match n with
    | .m => if e.stc.frameRole = true then eventM e else e
    | .h => eventH e
    | .aArm => eventAArm e
    | .tuOpen =>
      if e.stc.headRole = true then
        { e with thm := { e.thm with pen := e.thm.pen.map (fun p => { p with window := true }) } } else e
    | .kOn => if e.stc.headRole = true ∧ e.hsc.knifePending = true then { e with hsc := { e.hsc with knife := true } } else e
    | .tuClose => if e.stc.headRole = true then closePenetration e else e
    | .kOff => if e.stc.headRole = true then { e with hsc := { e.hsc with knife := false, knifePending := false } } else e
    | .d => eventD e
    | .wOpen => eventWOpen e := by
  cases n with
  | tuOpen => simp only [receive, openWindow_eq]
  | kOn =>
    simp only [receive, eventKOn]
    cases e.stc.headRole <;> cases e.hsc.knifePending <;> rfl
  | _ => rfl

/-- The name `n` is due: the angle has come to it, and it has not been raised in this revolution (R7). -/
def due (d : Station) (n : AngleName) : Bool :=
  d.sht.synced && decide (angleOf (timing d) n = d.sht.angle) && decide (n ∉ d.sht.raised)

theorem dueNames_eq (d : Station) : dueNames d = angleNames.filter (due d) := rfl

theorem raiseIfDue_eq (d : Station) (n : AngleName) : raiseIfDue d n = if due d n then raiseEvent n d else d := by
  simp [raiseIfDue, due]

theorem raiseEvent_sht (n : AngleName) (d : Station) :
    (raiseEvent n d).sht = { d.sht with raised := d.sht.raised ++ [n] } := by simp [raiseEvent]

/-- An event leaves what is due of the other names as it was. -/
theorem due_raiseEvent {n k : AngleName} (d : Station) (hne : k ≠ n) : due (raiseEvent n d) k = due d k := by
  have ht : timing (raiseEvent n d) = timing d := by simp [timing]
  simp [due, raiseEvent_sht, ht, hne]

theorem foldl_raiseIfDue {l : List AngleName} (d : Station) (hl : l.Nodup) :
    l.foldl raiseIfDue d = handed (l.filter (due d)) d := by
  induction l generalizing d with
  | nil => rfl
  | cons n l ih =>
    obtain ⟨hn, hl⟩ := List.nodup_cons.1 hl
    rw [List.foldl_cons, raiseIfDue_eq, ih _ hl]
    cases hd : due d n with
    | false => simp [hd]
    | true =>
      have hrest : l.filter (due (raiseEvent n d)) = l.filter (due d) :=
        List.filter_congr fun k hk => due_raiseEvent d (fun he => hn (he ▸ hk))
      rw [if_pos rfl, List.filter_cons_of_pos hd, hrest]
      rfl

/-- The events of one arrival are those of the names due, in their order (R7). -/
theorem raiseEvents_eq (d : Station) : raiseEvents d = handed (dueNames d) d := by
  rw [dueNames_eq, raiseEvents, foldl_raiseIfDue d (by decide)]

theorem dueNames_of_nothingDue {d : Station} (h : NothingDue d) : dueNames d = [] := by
  rw [dueNames_eq, List.filter_eq_nil_iff]
  intro n _ hd
  simp only [due, Bool.and_eq_true, decide_eq_true_eq] at hd
  obtain ⟨⟨hsync, hangle⟩, hnew⟩ := hd
  rcases h with hoff | hall
  · simp [hoff] at hsync
  · exact hnew (hall n hangle)

theorem dueNames_of_onlyDue {d : Station} {n : AngleName} (h : OnlyDue n d) : dueNames d = [n] := by
  obtain ⟨hsync, hangle, hnew, hothers⟩ := h
  have hdue : due d = fun k => decide (k = n) := by
    funext k
    by_cases hk : k = n
    · simp [due, hk, hsync, hangle, hnew]
    · have hoff := hothers k hk
      simp only [due, hsync, hk, decide_false, Bool.true_and, Bool.and_eq_false_iff, decide_eq_false_iff_not, not_not]
      exact or_iff_not_imp_left.2 fun ha => hoff (not_not.1 ha)
  rw [dueNames_eq, hdue]
  cases n <;> rfl

theorem comesTo_eq (a : Nat) (d : Station) : comesTo a d = raiseEvents (d.setSht { d.sht with angle := a }) :=
  (raiseEvents_eq _).symm

/-- An angle that no name stands for is passed over without an event. -/
theorem dueNames_of_no_name {d : Station} (h : ∀ n, angleOf (timing d) n ≠ d.sht.angle) : dueNames d = [] :=
  dueNames_of_nothingDue (.inr fun n hn => absurd hn (h n))

/-! ### ENCODER_FORWARD_COUNT, ENCODER_REVERSE_COUNT, the ENCODER fault -/

/-- Settles O24: the count, then the missed index or the events of the names due. -/
theorem forwardCount : Obligations.ForwardCount := by
  intro t s hlive c a d missed
  have hexec : exec (.encoderForwardCount t) s = .next (closed s (countForward t.toNat s.dev)) :=
    exec_live hlive nofun nofun
  have hmissed : (s.dev.sht.synced && decide (min 1027 (s.dev.sht.run + 1) = 1027)) = decide missed := by
    rw [Bool.eq_iff_iff, Bool.and_eq_true, decide_eq_true_eq, decide_eq_true_eq]
    exact and_congr_right fun _ => by omega
  have hturn : s.dev.sht.lag = 0 → countForward t.toNat s.dev = if missed then encoderFault d else raiseEvents d := by
    intro hlag
    rw [countForward_eq, if_neg (by omega), advance_eq]
    change (if (s.dev.sht.synced && _) = true then _ else _) = _
    rw [show (s.dev.sht.synced && decide (min 1027 ((counted t.toNat s.dev).sht.run + 1) = 1027)) = decide missed from hmissed]
    by_cases hm : missed <;> simp only [hm, decide_true, decide_false] <;> rfl
  have hevents : s.dev.sht.lag = 0 → ¬missed →
      exec (.encoderForwardCount t) s = .next (closed s (handed (dueNames d) d)) := by
    intro hlag hm
    rw [hexec, hturn hlag, if_neg hm, raiseEvents_eq]
  refine ⟨receive_eq, fun hlag => ?_, hevents, fun hlag hm hnone => ?_, fun n hlag hm honly => ?_, fun hlag hsync hrun => ?_⟩
  · rw [hexec, countForward_eq, if_pos (by omega)]
    rfl
  · rw [hevents hlag hm, dueNames_of_nothingDue hnone]
    rfl
  · rw [hevents hlag hm, dueNames_of_onlyDue honly]
    rfl
  · rw [hexec, hturn hlag, if_pos ⟨hsync, by omega⟩]

/-- Settles O25. -/
theorem reverseCount : Obligations.ReverseCount := by
  intro t s hlive
  have hexec : exec (.encoderReverseCount t) s = .next (closed s (countReverse t.toNat s.dev)) :=
    exec_live hlive nofun nofun
  rw [hexec, countReverse_eq]
  rfl

/-- Settles O26: the blocks' parts of the loss of synchronisation, then the record and the deferred FIELD. -/
theorem encoderFaultLosesSync : Obligations.EncoderFaultLosesSync := by
  intro d
  rw [encoderFault, writeDeferred_eq]
  rfl

/-! ### INDEX_PULSE -/

/-- R121: the Speed Governor's judgement of a speed just measured. -/
def judgeSpeed (d : Station) : Station :=
  match d.sgv.measured with
  | some v => if d.stc.state = .run ∧ 9 * nTopE (motion d) < 8 * v then fault (plainRecord .drive v d) d else d
  | none => d

theorem takePeriod_eq (d : Station) :
    takePeriod d = if d.stc.frameRole then judgeSpeed (d.setSgv { d.sgv with measured := speedOf d.sht.period }) else d := rfl

theorem capture_of_frame {d : Station} (hc : d.sht.chain = true) (hf : d.stc.frameRole = true) :
    capture d = judgeSpeed (captured d) := by
  rw [capture, if_pos hc, takePeriod_eq, if_pos (by exact hf)]
  refine congrArg judgeSpeed ?_
  rw [captured, if_pos hc, if_pos hf]
  rfl

theorem capture_of_slow {d : Station} (h : ¬Overspeed d) : capture d = captured d := by
  cases hc : d.sht.chain with
  | false => simp [capture, captured, hc, Station.setSht]
  | true =>
    cases hf : d.stc.frameRole with
    | false =>
      rw [capture, if_pos hc, takePeriod_eq, if_neg (by simp [hf]), captured, if_pos hc, if_neg (by simp [hf])]
      rfl
    | true =>
      have hstc : (captured d).stc = d.stc := by rw [captured, if_pos hc]
      rw [capture_of_frame hc hf, judgeSpeed]
      split
      next v hv =>
        rw [if_neg fun hrun => h ⟨hf, hstc ▸ hrun.1, hc, v, hv, ?_⟩]
        have := hrun.2
        rwa [motion, hstc] at this
      next => rfl

theorem capture_of_overspeed {d : Station} (h : Overspeed d) :
    capture d = fault { kind := .drive, stitch := d.ssq.stitch, needle := none, value := (captured d).sgv.measured }
      (captured d) := by
  obtain ⟨hf, hrun, hc, v, hv, hfast⟩ := h
  have hstc : (captured d).stc = d.stc := by rw [captured, if_pos hc]
  have hssq : (captured d).ssq = d.ssq := by rw [captured, if_pos hc]
  rw [capture_of_frame hc hf, judgeSpeed, hv]
  simp only
  rw [if_pos ⟨hstc ▸ hrun, by rwa [motion, hstc]⟩, plainRecord, hssq]

/-- The angles passed over at the index (R2). -/
theorem sweep_eq {d : Station} (hlow : 1021 ≤ d.sht.angle) (hhigh : d.sht.angle ≤ 1023) :
    sweep (1023 - d.sht.angle) d =
      if d.sht.angle = 1021 then comesTo 1023 (comesTo 1022 d) else if d.sht.angle = 1022 then comesTo 1023 d else d := by
  have hone : ∀ e : Station, e.sht.angle = 1022 → sweep 1 e = comesTo 1023 e := by
    intro e he
    rw [comesTo_eq]
    simp [sweep, he]
  obtain h | h | h : d.sht.angle = 1021 ∨ d.sht.angle = 1022 ∨ d.sht.angle = 1023 := by omega
  · have htwo : (comesTo 1022 d).sht.angle = 1022 := by simp [comesTo_eq]
    rw [h, if_pos rfl, ← hone _ htwo, comesTo_eq]
    simp [sweep, h]
  · rw [h, if_neg (by decide), if_pos rfl, hone d h]
  · rw [h, if_neg (by decide), if_neg (by decide)]
    rfl

theorem takeIndex_eq (d : Station) : takeIndex d =
    if d.sht.synced = false then raiseEvents { d with sht := { d.sht with
      angle := 0, run := 0, lag := 0, synced := true, raised := [], chain := false, onTop := d.sht.atRest } }
    else if 3 ≤ d.sht.angle ∧ d.sht.angle ≤ 1020 then encoderFault d
    else if 0 < d.sht.lag then { d with sht := { d.sht with angle := 0, run := 0, lag := 0, chain := false } }
    else if 1021 ≤ d.sht.angle then capture (indexBegins d)
    else capture { d with sht := { d.sht with angle := 0, run := 0 } } := by
  have hwindow : (!inIndexWindow d.sht.angle) = true ↔ 3 ≤ d.sht.angle ∧ d.sht.angle ≤ 1020 := by
    simp [inIndexWindow]; omega
  unfold takeIndex
  cases d.sht.synced <;> simp only [hwindow] <;> rfl

/-- Settles O27: the index by synchronisation, window, lag and angle; a capture is judged by its speed. -/
theorem indexPulse : Obligations.IndexPulse := by
  intro s hlive d fresh again begun passed zero swept record
  have hexec : exec .indexPulse s = .next (closed s (takeIndex d)) := exec_live hlive nofun nofun
  have hfresh : d.sht.synced = false → exec .indexPulse s = .next (closed s (handed (dueNames fresh) fresh)) := by
    intro hoff
    rw [hexec, takeIndex_eq, if_pos hoff, raiseEvents_eq]
  have hcapture : ∀ e : Station, exec .indexPulse s = .next (closed s (capture e)) →
      (¬Overspeed e → exec .indexPulse s = .next (closed s (captured e))) ∧
      (Overspeed e → exec .indexPulse s = .next (closed s (fault (record e) (captured e)))) := fun e he =>
    ⟨fun hslow => by rw [he, capture_of_slow hslow], fun hfast => by rw [he, capture_of_overspeed hfast]⟩
  have hswept : d.sht.synced = true → 1021 ≤ d.sht.angle → d.sht.angle ≤ 1023 → d.sht.lag = 0 →
      exec .indexPulse s = .next (closed s (capture swept)) := by
    intro hsync hlow hhigh hlag
    rw [hexec, takeIndex_eq, if_neg (by simp [hsync]), if_neg (by omega), if_neg (by omega), if_pos hlow, indexBegins,
      sweep_eq hlow hhigh, raiseEvents_eq]
    rfl
  refine ⟨fun hoff hnone => ?_, hfresh, fun n hoff honly => ?_, fun hsync hlow hhigh => ?_, fun hsync hwindow hlag => ?_,
    fun hsync hlow hlag => hcapture again ?_, fun hsync hlow hhigh hlag hnames => ?_,
    fun hsync hlow hhigh hlag => hcapture swept (hswept hsync hlow hhigh hlag)⟩
  · rw [hfresh hoff, dueNames_of_nothingDue hnone]
    rfl
  · rw [hfresh hoff, dueNames_of_onlyDue honly]
    rfl
  · rw [hexec, takeIndex_eq, if_neg (by simp [hsync]), if_pos ⟨hlow, hhigh⟩]
  · rw [hexec, takeIndex_eq, if_neg (by simp [hsync]), if_neg (by omega), if_pos (Nat.pos_of_ne_zero (by omega))]
  · rw [hexec, takeIndex_eq, if_neg (by simp [hsync]), if_neg (by omega), if_neg (by omega), if_neg (by omega)]
  · have hpass : ∀ (a : Nat) (e : Station), timing e = timing d → (a = 1022 ∨ a = 1023) →
        comesTo a e = { e with sht := { e.sht with angle := a } } := by
      intro a e he ha
      have hnone : dueNames { e with sht := { e.sht with angle := a } } = [] := dueNames_of_no_name fun n => by
        have := hnames n
        change angleOf (timing e) n ≠ a
        rw [he]
        rcases ha with rfl | rfl
        · exact this.2.1
        · exact this.2.2
      rw [comesTo]
      simp only [hnone]
      rfl
    have hzero : zero = begun := by
      simp only [zero, passed]
      split
      · rw [hpass 1022 d rfl (.inl rfl), hpass 1023 { d with sht := { d.sht with angle := 1022 } } rfl (.inr rfl)]
      split
      · rw [hpass 1023 d rfl (.inr rfl)]
      · rfl
    have hbegun : swept = begun := by
      have hnone : dueNames begun = [] := dueNames_of_no_name fun n => (hnames n).1
      simp only [swept, hzero, hnone]
      rfl
    rw [← hbegun]
    exact hcapture swept (hswept hsync hlow hhigh hlag)

end Sys2Proof.StitchCycle

/-! ## The station states: halting, back from ARMED, faults -/

namespace Sys2Proof.StitchCycle

open Sys2Proof Sys2Proof.Machine

/-- The station, with its first creep begun if one is due (R122). -/
def crept (d : Station) : Station := if CreepDue d then creeps d else d

theorem tryReposition_crept (d : Station) : tryReposition d = crept d := tryReposition_eq d

theorem crept_of_not_due {d : Station} (h : ¬CreepDue d) : crept d = d := if_neg h

theorem not_creepDue_crept (d : Station) : ¬CreepDue (crept d) := by
  unfold crept
  split
  next => rintro ⟨-, -, -, hnone, -⟩; cases hnone
  next h => exact h

/-- A first creep begins once. -/
theorem crept_crept (d : Station) : crept (crept d) = crept d := crept_of_not_due (not_creepDue_crept d)

/-! ### Entering and leaving HALTING (R34, R36) -/

theorem planned_eq (reason : HaltReason) : reason.planned = decide (reason = .colourStop ∨ reason = .endRecord) := by
  cases reason <;> rfl

theorem enterHalting_eq {reason : HaltReason} {d : Station} (h : d.stc.state = .run) :
    enterHalting reason d =
      if d.sht.atRest then leaveHalting (pendingStarted (halts reason d)) else halts reason d := by
  have hs : (d.setStc { d.stc with haltReason := some reason }).stc.state ≠ .halting := by simp [h]
  have hsli : (causeStatus (d.setStc { d.stc with haltReason := some reason })).sli = (causeStatus d).sli :=
    causeStatus_sli_congr rfl rfl rfl
  unfold enterHalting
  rw [enterState_of_ne hs, hsli]
  simp only [startPending_eq, planned_eq]
  rfl

/-- Leaving HALTING with the shaft at rest, but from a COLOUR_STOP that arms again (R36): to DONE at S, to HALTED otherwise. -/
def leavesTo (d : Station) : Station :=
  { d with
    stc := { d.stc with state := if atDesignEnd d then .done else .halted }
    hsc := { d.hsc with decision := none, holdEngaged := true }
    sli := (causeStatus d).sli }

/-- The conditions under which a station that leaves HALTING arms again (R36). -/
def ArmsAgain (d : Station) : Prop :=
  atDesignEnd d = false ∧ d.stc.haltReason = some .colourStop ∧ (thread d).pause = false ∧ d.stc.faults = []

theorem leaveHalting_of_not_armsAgain {d : Station} (h : d.stc.state = .halting) (harm : ¬ArmsAgain d) :
    leaveHalting d = crept (leavesTo d) := by
  have henter : ∀ st, st ≠ .halting → enterState st (dropDecision d) = { d with
      stc := { d.stc with state := st }
      hsc := { d.hsc with decision := none, holdEngaged := true }
      sli := (causeStatus d).sli } := by
    intro st hst
    rw [enterState_of_ne (by simpa [h] using hst.symm), causeStatus_sli_congr (s := d)] <;> rfl
  have hend : atDesignEnd (dropDecision d) = atDesignEnd d := rfl
  unfold leaveHalting leavesTo
  simp only [hend, enterHalted, tryReposition_crept, henter .done (by decide), henter .halted (by decide)]
  cases he : atDesignEnd d with
  | true => simp
  | false =>
    rw [if_neg (by simp), if_neg]
    · rfl
    · intro hc
      simp only [Bool.and_eq_true, decide_eq_true_eq, Bool.not_eq_true', List.isEmpty_iff] at hc
      exact harm ⟨he, hc.1.1, hc.1.2, hc.2⟩

theorem atDesignEnd_congr {d e : Station} (hpgs : e.pgs = d.pgs) (hssq : e.ssq = d.ssq) : atDesignEnd e = atDesignEnd d := by
  rw [atDesignEnd, atDesignEnd, hpgs, hssq]

theorem pendingStarted_frame (d : Station) : pendingStarted d = { d with pnc := (pendingStarted d).pnc } := by
  unfold pendingStarted
  split
  · split <;> rfl
  · rfl

/-- A station in RUN with its shaft at rest passes through HALTING (R34, R36). -/
theorem enterHalting_atRest {reason : HaltReason} {d : Station} (h : d.stc.state = .run) (hrest : d.sht.atRest = true)
    (hreason : reason.planned = false) : enterHalting reason d = stops reason d := by
  rw [enterHalting_eq h, if_pos hrest]
  have hf := pendingStarted_frame (halts reason d)
  have hend : atDesignEnd (pendingStarted (halts reason d)) = atDesignEnd d :=
    atDesignEnd_congr (by rw [hf]; rfl) (by rw [hf]; rfl)
  have hsli : (causeStatus (pendingStarted (halts reason d))).sli = (pendingStarted (halts reason d)).sli := by
    rw [causeStatus_sli_twice (s := d) (by rw [hf]; rfl) (by rw [hf]; rfl) (by rw [hf]; rfl), hf]
    rfl
  rw [leaveHalting_of_not_armsAgain (by rw [hf]; rfl)]
  · simp only [leavesTo, hend, hsli]
    rfl
  · rintro ⟨-, hcause, -⟩
    rw [hf] at hcause
    change some reason = some .colourStop at hcause
    cases hcause
    cases hreason

theorem enterHalting_turning {reason : HaltReason} {d : Station} (h : d.stc.state = .run) (hrest : d.sht.atRest = false) :
    enterHalting reason d = halts reason d := by
  rw [enterHalting_eq h, if_neg (by simp [hrest])]

/-! ### Back from ARMED (R33) -/

theorem returnToFormer_ready {d : Station} (h : d.stc.state = .armed) (hformer : d.stc.former = .ready) :
    returnToFormer d = returnsToReady d := by
  unfold returnToFormer
  simp only [hformer, if_true, caseLeaves_eq]
  rw [enterState_of_ne (by simp [h]), causeStatus_sli_congr (s := d)] <;> rfl

theorem returnToFormer_halted {d : Station} (h : d.stc.state = .armed) (hformer : d.stc.former ≠ .ready) :
    returnToFormer d = returnsToHalted d := by
  have hstopped : ∀ g : Station,
      g = { d with stc := { d.stc with former := .none, armTimer := none }, ncc := d.ncc.left, sgv := g.sgv } →
      enterHalted g = crept { d with
        stc := { d.stc with state := .halted, former := .none, armTimer := none }
        ncc := d.ncc.left
        sgv := g.sgv
        sli := (causeStatus d).sli } := by
    intro g hg
    rw [enterHalted, tryReposition_crept, hg, enterState_of_ne (by simp [h]), causeStatus_sli_congr (s := d)] <;> rfl
  unfold returnToFormer
  simp only [if_neg hformer, caseLeaves_eq, Station.setStc_sgv]
  rw [hstopped]
  · change crept _ = crept _
    cases d.sgv.reposition <;> rfl
  · cases d.sgv.reposition <;> rfl

/-! ### What a fault record does (R37) -/

theorem recorded_state (fr : FaultRecord) (d : Station) : (recorded fr d).stc.state = d.stc.state := rfl

theorem fault_eq (fr : FaultRecord) (d : Station) : fault fr d = haltCause (.fault fr.kind) (recorded fr d) := by
  rw [fault, addRecord_eq]

theorem haltCause_run {reason : HaltReason} {d : Station} (h : d.stc.state = .run) :
    haltCause reason d = enterHalting reason d := by
  rw [haltCause, h]

theorem haltCause_armed {reason : HaltReason} {d : Station} (h : d.stc.state = .armed) :
    haltCause reason d = returnToFormer d := by
  rw [haltCause, h]

theorem fault_turning {fr : FaultRecord} {d : Station} (h : d.stc.state = .run) (hrest : d.sht.atRest = false) :
    fault fr d = halts (.fault fr.kind) (recorded fr d) := by
  rw [fault_eq, haltCause_run (by exact h), enterHalting_turning (by exact h) (by exact hrest)]

theorem fault_atRest {fr : FaultRecord} {d : Station} (h : d.stc.state = .run) (hrest : d.sht.atRest = true) :
    fault fr d = stops (.fault fr.kind) (recorded fr d) := by
  rw [fault_eq, haltCause_run (by exact h), enterHalting_atRest (by exact h) (by exact hrest) rfl]

theorem fault_armed_ready {fr : FaultRecord} {d : Station} (h : d.stc.state = .armed) (hformer : d.stc.former = .ready) :
    fault fr d = returnsToReady (recorded fr d) := by
  rw [fault_eq, haltCause_armed (by exact h), returnToFormer_ready (by exact h) (by exact hformer)]

theorem fault_armed_halted {fr : FaultRecord} {d : Station} (h : d.stc.state = .armed) (hformer : d.stc.former ≠ .ready) :
    fault fr d = returnsToHalted (recorded fr d) := by
  rw [fault_eq, haltCause_armed (by exact h), returnToFormer_halted (by exact h) (by exact hformer)]

/-- In a state that a fault does not change, its record is all (R37). -/
theorem fault_still {fr : FaultRecord} {d : Station}
    (h : d.stc.state = .joining ∨ d.stc.state = .ready ∨ d.stc.state = .halted ∨ d.stc.state = .done) :
    fault fr d = recorded fr d := by
  rw [fault_eq, haltCause, recorded_state]
  rcases h with h | h | h | h <;> simp only [h]

end Sys2Proof.StitchCycle

/-! ## The station's timers, and the receivers of the gate's samples -/

namespace Sys2Proof.StitchCycle

open Sys2Proof Sys2Proof.Machine

/-! ### STALL_TIMEOUT, ARM_TIMEOUT, JOIN_TIMEOUT -/

theorem judgeField_eq (d : Station) :
    judgeField d = { d with pnc :=
      if d.pnc.homed && (outsideField d (d.pnc.x, d.pnc.y)).isSome then { d.pnc with homed := false, inPlace := false }
      else d.pnc } := by
  unfold judgeField
  split <;> rfl

/-- A position outside the field in force (R94). -/
theorem outsideField_isSome (d : Station) (x y : Int) :
    (outsideField d (x, y)).isSome =
      decide (x < 0 ∨ ((motion d).xMax : Int) < x ∨ y < 0 ∨ ((motion d).yMax : Int) < y) := by
  simp only [outsideField]
  split
  next hx => exact (decide_eq_true (hx.imp_right .inl)).symm
  next hx =>
    split
    next hy => exact (decide_eq_true (.inr (.inr hy))).symm
    next hy => exact (decide_eq_false (by omega)).symm

/-- The default field (R94, R111). -/
theorem outsideField_default {d : Station} (h : d.stc.motion = none) (x y : Int) :
    (outsideField d (x, y)).isSome = decide (x < 0 ∨ 24000 < x ∨ y < 0 ∨ 16000 < y) := by
  rw [outsideField_isSome, motion, h]
  rfl

theorem judgeField_default {d : Station} (h : d.stc.motion = none) :
    judgeField d = { d with pnc :=
      if d.pnc.homed && decide (d.pnc.x < 0 ∨ 24000 < d.pnc.x ∨ d.pnc.y < 0 ∨ 16000 < d.pnc.y) then
        { d.pnc with homed := false, inPlace := false }
      else d.pnc } := by
  rw [judgeField_eq, outsideField_default h]

theorem discardSections_eq (d : Station) :
    discardSections d = { d with
      stc := { d.stc with roster := none, timing := none, motion := none, thread := none }
      prt := []
      pnc :=
        if d.pnc.homed && decide (d.pnc.x < 0 ∨ 24000 < d.pnc.x ∨ d.pnc.y < 0 ∨ 16000 < d.pnc.y) then
          { d.pnc with homed := false, inPlace := false }
        else d.pnc } :=
  judgeField_default rfl

theorem sectionsHeld_eq (d : Station) :
    sectionsHeld d = d.stc.roster.isSome.toNat + 2 * d.stc.timing.isSome.toNat + 4 * d.stc.motion.isSome.toNat +
      8 * d.stc.thread.isSome.toNat := by
  unfold sectionsHeld flag
  cases d.stc.roster <;> cases d.stc.timing <;> cases d.stc.motion <;> cases d.stc.thread <;> rfl

/-- Settles O39: each timer by the station state in which it is due. -/
theorem stationTimersExpire : Obligations.StationTimersExpire := by
  intro s hlive d runs held out r
  have hstall : exec .stallTimeout s = .next (closed s (stall d)) := exec_live hlive nofun nofun
  have harm : exec .armTimeout s = .next (closed s (armRunsOut d)) := exec_live hlive nofun nofun
  have hjoin : exec .joinTimeout s = .next (closed s (joinRunsOut d)) := exec_live hlive nofun nofun
  rw [hstall, harm, hjoin]
  refine ⟨fun hrun => ?_, fun hrun => ?_, fun harmed hformer => ?_, fun harmed hformer => ?_, fun harmed => ?_,
    fun hruns => ?_, fun hruns => ?_⟩
  · rw [stall, if_pos hrun]
    exact ⟨fun hrest => by rw [fault_turning hrun hrest]; rfl, fun hrest => by rw [fault_atRest hrun hrest]; rfl⟩
  · rw [stall, if_neg hrun]
  · rw [armRunsOut, if_pos harmed, returnToFormer_ready harmed hformer]
  · rw [armRunsOut, if_pos harmed, returnToFormer_halted harmed hformer]
  · rw [armRunsOut, if_neg harmed]
  · obtain ⟨hstate, hlock, htimer⟩ := hruns
    rw [joinRunsOut, if_pos ⟨hstate, hlock, Option.isSome_iff_ne_none.2 htimer⟩]
    simp only [discardSections_eq]
    rw [fault_still (.inl (by exact hstate)), sectionsHeld_eq]
    rfl
  · rw [joinRunsOut, if_neg]
    exact fun hc => hruns ⟨hc.1, hc.2.1, Option.isSome_iff_ne_none.1 hc.2.2⟩

/-! ### H, A_arm and the low line at D -/

theorem withholdPenetration_eq (d : Station) :
    withholdPenetration d = { d with hsc :=
      match d.hsc.decision with
      | some x => if x.penetrate then { d.hsc with decision := some { x with penetrate := false }, holdEngaged := true } else d.hsc
      | none => d.hsc } := by
  unfold withholdPenetration
  cases hd : d.hsc.decision with
  | none => rfl
  | some x => cases hp : x.penetrate <;> simp [Station.setHsc, hp]

theorem guardsAct_iff (d : Station) : guardsAct d = true ↔ d.stc.state = .run ∨ d.stc.state = .halting := decide_eq_true_iff

/-- Settles O33: the sample that is taken after a commit, and the deferred FIELD after it. -/
theorem vetoAtH : Obligations.VetoAtH := by
  intro d e held act
  have hact : (d.gtu.committed && guardsAct d) = true ↔ act := by
    rw [Bool.and_eq_true, guardsAct_iff]
  have htaken : act → d.gtu.seenHigh = false → sampleH d = vetoTaken e := by
    intro ha hlow
    rw [sampleH, if_pos (hact.2 ha)]
    exact if_neg (by simp [hlow])
  have hheld : withholdPenetration e = held := withholdPenetration_eq e
  refine ⟨fun hno => ?_, fun ha hhigh => ?_, fun ha hlow hdrive => ?_, fun ha hlow hdrive => ?_⟩ <;>
    rw [eventH, writeDeferred_eq]
  · rw [sampleH, if_neg (mt hact.1 hno)]
  · rw [sampleH, if_pos (hact.2 ha)]
    exact congrArg deferredWritten (if_pos hhigh)
  · rw [htaken ha hlow, vetoTaken]
    simp only [hheld]
    rw [if_pos (decide_eq_true (by exact hdrive))]
    rfl
  · rw [htaken ha hlow, vetoTaken]
    simp only [hheld]
    rw [if_neg (by simp [e, hdrive])]

/-- The head is ACTIVE, and its case and needle let it penetrate (R154). -/
abbrev Fit (d : Station) : Prop := d.stc.activity = .active ∧ needleFit d = true

theorem holdIfUnfit_eq (d : Station) : holdIfUnfit d = if Fit d then d else withholdPenetration d := by
  simp only [holdIfUnfit, Bool.and_eq_true, decide_eq_true_eq]

theorem carryOut_of_fit {d : Station} {x : Decision} (hd : d.hsc.decision = some x) (hp : x.penetrate = true) (hfit : Fit d) :
    carryOut d = { d with
      hsc := { d.hsc with decision := none, holdEngaged := false, mark := x.stitch, knifePending := x.trim }
      thm := { d.thm with pen := some { stitch := x.stitch, needle := currentNeedle d, trim := x.trim, pulses := 0, peak := 0,
                                        window := false } } } := by
  rw [carryOut, holdIfUnfit_eq, if_pos hfit]
  simp only [hd]
  rw [if_pos hp]
  rfl

theorem carryOut_of_hold {d : Station} (h : ∀ x, d.hsc.decision = some x → x.penetrate = true → ¬Fit d) :
    carryOut d = { d with hsc := { d.hsc with decision := none, holdEngaged := true, knifePending := false } } := by
  rw [carryOut, holdIfUnfit_eq]
  cases hd : d.hsc.decision with
  | none => simp [withholdPenetration, hd, Station.setHsc]
  | some x =>
    cases hp : x.penetrate with
    | false => simp [withholdPenetration, hd, hp, Station.setHsc]
    | true => simp [withholdPenetration, hd, hp, h x hd hp, Station.setHsc]

theorem assertGate_eq (d : Station) : assertGate d = { d with gtu := { d.gtu with
    vetoReq := none, commitSpan := false
    drive := if d.stc.state = .run ∨ d.stc.state = .halting then .low else d.gtu.drive
    seenHigh := if d.stc.state = .run ∨ d.stc.state = .halting then false else d.gtu.seenHigh
    waits := if d.stc.state = .run ∨ d.stc.state = .halting then none else d.gtu.waits } } := by
  have hact : guardsAct (d.setGtu { d.gtu with vetoReq := none, commitSpan := false }) =
      decide (d.stc.state = .run ∨ d.stc.state = .halting) := rfl
  unfold assertGate
  simp only [hact]
  by_cases ha : d.stc.state = .run ∨ d.stc.state = .halting
  · simp only [ha, decide_true, if_true]; rfl
  · simp only [ha, decide_false, if_false]; rfl

/-- Settles O34: the gate's part of A_arm, then the decision of a head. -/
theorem decisionCarriedOutAtAArm : Obligations.DecisionCarriedOutAtAArm := by
  intro d g fit
  have hevent : eventAArm d = if d.stc.headRole then carryOut g else g := by
    rw [eventAArm, assertGate_eq]
  refine ⟨fun hh => ?_, fun x hh hd hp hfit => ?_, fun hh hhold => ?_, fun hh hk => ?_, fun hh hk => ?_, fun hh => ?_,
    fun hh => ⟨?_, ?_⟩⟩
  · rw [hevent, if_neg (by simp [hh])]
  · rw [hevent, if_pos hh, carryOut_of_fit (d := g) hd hp hfit]
    rfl
  · rw [hevent, if_pos hh, carryOut_of_hold (d := g) hhold]
  · rw [receive_eq]
    exact if_pos ⟨hh, hk⟩
  · rw [receive_eq]
    exact if_neg (by simp [hk])
  · rw [receive_eq]
    exact if_pos hh
  · rw [receive_eq]
    exact if_neg (by simp [hh])
  · rw [receive_eq]
    exact if_neg (by simp [hh])

theorem dwellCommon_eq (d : Station) :
    dwellCommon d = { d with
      gtu := { d.gtu with committed := false, lead := false, commitSpan := false }
      hsc := if d.stc.headRole then { d.hsc with decision := none, holdEngaged := true } else d.hsc } := by
  unfold dwellCommon
  cases hh : d.stc.headRole <;> simp [Station.setGtu, dropDecision, Station.setHsc, hh]

/-- R118: the frame role's part of a dwell. -/
def demandFalls (d : Station) : Station :=
  if d.stc.frameRole then d.setSgv { d.sgv with demand := demandAtDwell d } else d

theorem demandFalls_eq (d : Station) : demandFalls d = { d with sgv :=
    if d.stc.frameRole then
      { d.sgv with demand := max (motion d).nHalt (d.sgv.demand - (motion d).rampDown) } else d.sgv } := by
  unfold demandFalls
  split <;> rfl

/-- R15: the dwell count of a station in RUN, and what it does at K; `hold` is the hold reason at the sample. -/
def dwellCounts (hold : HoldReason) (d : Station) : Station :=
  let count := min (timing d).dwellLimit (d.gtu.dwellCount + 1)
  let e := d.setGtu { d.gtu with dwellCount := count }
  if count = (timing d).dwellLimit then fault (plainRecord .dwellLimit hold.code e) e else e

theorem dwellRun_eq (d : Station) : dwellRun d = dwellCounts (holdReason d) (demandFalls (dwellCommon d)) := rfl

/-- Settles O32: a dwell in RUN by its count, in HALTING without one. -/
theorem lowLineAtDDwells : Obligations.LowLineAtDDwells := by
  intro d k e
  have hrun : d.stc.state = .run → d.gtu.seenHigh = false →
      eventD d = if min k (d.gtu.dwellCount + 1) = k then
        fault { kind := .dwellLimit, stitch := d.ssq.stitch, needle := none, value := some (holdReason d).code } e else e := by
    intro hr hlow
    rw [eventD, hr]
    simp only [hlow]
    rw [if_neg (by simp), dwellRun_eq, demandFalls_eq, dwellCommon_eq]
    rfl
  refine ⟨fun hr hlow hcount => ?_, fun hr hlow hcount => ?_, fun hh hline => ?_, fun hr hh => ?_⟩
  · rw [hrun hr hlow, if_neg (by omega)]
  · rw [hrun hr hlow, if_pos (by omega)]
  · rw [eventD, hh, ← dwellCommon_eq]
    refine if_neg ?_
    rcases hline with hl | hl <;> simp [hl]
  · unfold eventD
    cases h : d.stc.state <;> simp_all

end Sys2Proof.StitchCycle

/-! ## The Thread Monitor's verdict, and head faults under the fault policy -/

namespace Sys2Proof.StitchCycle

open Sys2Proof Sys2Proof.Machine

/-! ### Head faults (R161, R162) -/

theorem withdrawHead_addRecord (fr : FaultRecord) (d : Station) : withdrawHead (addRecord fr d) = withdraws fr d := by
  rw [addRecord_eq, withdrawHead, caseLeaves_eq, withholdPenetration_eq]
  rfl

theorem headCheck_of_counted {d : Station} (h : d.stc.frameRole = false ∨ noActiveHead d = false) : headCheck d = d := by
  rw [headCheck, if_neg]
  rcases h with h | h <;> simp [h]

theorem headFault_halt {fr : FaultRecord} {d : Station} (h : (thread d).withdraw = false) : headFault fr d = fault fr d := by
  rw [headFault, if_neg (by simp [h])]

theorem headFault_not_active {fr : FaultRecord} {d : Station} (h : (thread d).withdraw = true) (ha : d.stc.activity ≠ .active) :
    headFault fr d = recorded fr d := by
  rw [headFault, if_pos h, if_neg ha, addRecord_eq]

theorem headFault_withdraws {fr : FaultRecord} {d : Station} (h : (thread d).withdraw = true) (ha : d.stc.activity = .active)
    (hcount : d.stc.frameRole = false ∨ noActiveHead (withdraws fr d) = false) : headFault fr d = withdraws fr d := by
  rw [headFault, if_pos h, if_pos ha, withdrawHead_addRecord, headCheck_of_counted hcount]

/-! ### THREAD_PULSE, TU_open, TU_close -/

theorem countPulse_eq (d : Station) : countPulse d = { d with thm := { d.thm with
    pen := d.thm.pen.map (fun p => { p with pulses := if p.pulses < 255 then p.pulses + 1 else 255 }) } } := by
  unfold countPulse
  cases hp : d.thm.pen with
  | none => exact congrArg d.setThm (congrArg (fun q => { d.thm with pen := q }) hp)
  | some p =>
    have hcount : min 255 (p.pulses + 1) = if p.pulses < 255 then p.pulses + 1 else 255 := by split <;> omega
    simp only [hcount]
    rfl

theorem classify_trim {p : Penetration} (c : Nat) (m : ThreadMonitor) (h : p.trim = true) :
    classify c p m = { m with suppression := c } := if_pos h

theorem classify_suppressed {p : Penetration} {m : ThreadMonitor} (c : Nat) (h : p.trim = false) (hs : 0 < m.suppression) :
    classify c p m = { m with
      suppression := m.suppression - 1
      runStart := if p.pulses = 0 then m.runStart.or (some p.stitch) else m.runStart } := by
  rw [classify, if_neg (by simp [h]), if_pos hs]

theorem classify_judged {p : Penetration} {m : ThreadMonitor} (c : Nat) (h : p.trim = false) (hs : m.suppression = 0) :
    classify c p m =
      if 0 < p.pulses then { m with runStart := none, dryCount := 0 }
      else { m with dryCount := m.dryCount + 1, runStart := m.runStart.or (some p.stitch) } := by
  rw [classify, if_neg (by simp [h]), if_neg (by omega)]

/-- The open penetration is closed: its class acts on the monitor, a dry one may be a break, and it may give a sample (R139 to
R144). -/
theorem closePenetration_some {d : Station} {p : Penetration} (hp : d.thm.pen = some p) :
    closePenetration d =
      let e := d.setThm { classify (thread d).suppression p d.thm with pen := none }
      let b := if judgedDry p d.thm && decide (e.thm.dryCount = (thread d).dryLimit) then threadBreak p e else e
      if !p.trim && decide (1 ≤ p.pulses) then takeSample p b else b := by
  rw [closePenetration, hp]
  rfl

theorem closePenetration_of_wet {d : Station} {p : Penetration} (hp : d.thm.pen = some p) (hwet : judgedDry p d.thm = false)
    (htrim : p.trim = false) :
    closePenetration d =
      let e := d.setThm { classify (thread d).suppression p d.thm with pen := none }
      if 1 ≤ p.pulses then takeSample p e else e := by
  rw [closePenetration_some hp]
  simp [hwet, htrim]

theorem closePenetration_of_dry {d : Station} {p : Penetration} (hp : d.thm.pen = some p) (htrim : p.trim = false)
    (hsupp : d.thm.suppression = 0) (hpulses : p.pulses = 0) :
    closePenetration d =
      let e := d.setThm { d.thm with
        pen := none, dryCount := d.thm.dryCount + 1, runStart := d.thm.runStart.or (some p.stitch) }
      if d.thm.dryCount + 1 = (thread d).dryLimit then threadBreak p e else e := by
  rw [closePenetration_some hp]
  simp [judgedDry, classify, htrim, hsupp, hpulses]

/-- The dry penetration that reaches the limit is a break (R141). -/
theorem threadBreak_eq (p : Penetration) (d : Station) :
    threadBreak p d = headFault
      { kind := .threadBreak, stitch := d.thm.runStart.getD p.stitch, needle := some p.needle, value := some p.stitch }
      { d with
        hsc := { d.hsc with mark := min (d.thm.runStart.getD p.stitch - 1) d.hsc.mark }
        thm := { d.thm with runStart := none, dryCount := 0 } } := rfl

/-- Settles O36: the verdict by trim, suppression and pulses; the break by the fault policy. -/
theorem threadPulsesAndVerdict : Obligations.ThreadPulsesAndVerdict := by
  refine ⟨fun s hlive => ?_, fun d hhead => ⟨?_, ?_⟩, fun t p s hlive hhead hlag hpen => ?_, fun d hpen => ?_,
    fun d p hpen => ?_⟩
  · have hexec : exec .threadPulse s = .next (closed s (countPulse s.dev)) := exec_live hlive nofun nofun
    rw [hexec, countPulse_eq]
  · rw [receive_eq]
    exact if_pos hhead
  · rw [receive_eq]
    exact if_pos hhead
  · have hexec : exec (.encoderForwardCount t) s = .next (closed s (countForward t.toNat s.dev)) :=
      exec_live hlive nofun nofun
    refine ⟨_, hexec, ?_⟩
    have hpeak : (if p.window then max p.peak t.toNat else p.peak) =
        if p.window = true ∧ p.peak < t.toNat then t.toNat else p.peak := by
      cases p.window <;> simp [Nat.max_def]; split <;> split <;> omega
    rw [closed]
    simp only [finish_frame]
    rw [countForward_eq, if_pos (by omega), ← hpeak]
    simp [counted, hhead, hpen]
  · rw [closePenetration, hpen]
  · intro start after first fr broken
    have hsuppressed : p.trim = false → 0 < d.thm.suppression →
        closePenetration d =
          let e := after (d.thm.suppression - 1) d.thm.dryCount (if p.pulses = 0 then start else d.thm.runStart)
          if 1 ≤ p.pulses then takeSample p e else e := by
      intro htrim hsupp
      rw [closePenetration_of_wet hpen (by simp [judgedDry, Nat.ne_of_gt hsupp]) htrim,
        classify_suppressed _ htrim hsupp]
      rfl
    refine ⟨fun htrim => ?_, fun htrim hsupp => ⟨fun hpulses => ?_, fun hpulses => ?_⟩, fun htrim hsupp hpulses => ?_,
      fun htrim hsupp hpulses => ⟨fun hdry => ?_, fun hdry => ?_⟩⟩
    · rw [closePenetration_some hpen, classify_trim _ _ htrim]
      simp only [judgedDry, htrim]
      rfl
    · rw [hsuppressed htrim hsupp]
      simp [hpulses]
    · rw [hsuppressed htrim hsupp]
      simp [Nat.ne_of_gt hpulses, Nat.one_le_iff_ne_zero]
    · rw [closePenetration_of_wet hpen (by simp [judgedDry, Nat.ne_of_gt hpulses]) htrim,
        classify_judged _ htrim hsupp, if_pos hpulses]
      simp only [if_pos (show 1 ≤ p.pulses from hpulses), after, hsupp]
      rw [← hsupp]
      rfl
    · rw [closePenetration_of_dry hpen htrim hsupp hpulses]
      simp only [if_neg hdry, after]
      rw [← hsupp]
      rfl
    · have hfirst : (d.thm.runStart.or (some p.stitch)).getD p.stitch = first := by
        cases hs : d.thm.runStart <;> simp [first, hs]
      have hbreak : closePenetration d = headFault fr broken := by
        rw [closePenetration_of_dry hpen htrim hsupp hpulses]
        simp only [if_pos hdry, threadBreak_eq, Station.setThm_thm, hfirst, fr, broken, after]
        rw [← hsupp]
        rfl
      rw [hbreak]
      have ht : thread broken = thread d := rfl
      have ha : broken.stc = d.stc := rfl
      exact ⟨fun hw => headFault_halt (by rw [ht, hw]),
        fun hw hout => headFault_not_active (by rw [ht, hw]) (by rw [ha]; exact hout),
        fun hw hin hcount => headFault_withdraws (by rw [ht, hw]) (by rw [ha, hin]) (by rw [ha]; exact hcount)⟩

end Sys2Proof.StitchCycle

/-! ## Reset, Station Reset, Configure -/

namespace Sys2Proof.StitchCycle

open Sys2Proof Sys2Proof.Machine

/-! ### Console notices that reach their owner (R44, R45) -/

theorem takeNotice_of_taken {kind : NoticeKind} {lenOk : Bool} {src : Addr} {p : Payload} {d : Station}
    (h : noticeTaken d kind lenOk src p = true) (owner : Station → Station) :
    takeNotice kind lenOk src p owner d = owner d := by
  simp only [noticeTaken, Bool.and_eq_true, Bool.or_eq_true, Bool.not_eq_true', decide_eq_true_eq] at h
  obtain ⟨⟨⟨hreach, hlen⟩, hbroad⟩, hacc⟩ := h
  have hrange : (broadcastOnly kind && decide (targetOf p ≠ 0)) = false := by
    rcases hbroad with hb | hb <;> simp [hb]
  rw [takeNotice, hreach, hlen, hrange]
  rcases hacc with hacc | hacc <;> simp [hacc]

theorem acceptance_of_taken {kind : NoticeKind} {lenOk : Bool} {src : Addr} {p : Payload} {d : Station}
    (h : noticeTaken d kind lenOk src p = true) : acceptance d kind = .accepted ∨ acceptance d kind = .checked := by
  simp only [noticeTaken, Bool.and_eq_true, decide_eq_true_eq] at h
  exact h.2

/-- A section reaches its owner in JOINING alone (R26, R45). -/
theorem joining_of_configure_taken {lenOk : Bool} {src : Addr} {p : Payload} {d : Station}
    (h : noticeTaken d .configure lenOk src p = true) : d.stc.state = .joining := by
  by_contra hstate
  have hacc := acceptance_of_taken h
  simp only [acceptance, acceptTable, hstate, if_false] at hacc
  split at hacc <;> simp at hacc

/-! ### The state after reset -/

/-- Settles O14, each law on the state of a hard reset. -/
theorem resetMeetsTheLaws : Obligations.ResetMeetsTheLaws := by
  refine ⟨?_, ?_, ?_, ?_, ?_, ?_, ?_, ?_, ?_, rfl⟩
  · have hslots : State.reset.dev.pgs.slots = List.range 512 := by
      simp [PageStore.slots, State.reset, Station.hardReset, PageStore.empty, allSlots, Config.pageSlots]
    rw [SlotLaw, hslots]
  · have hpages : State.reset.dev.pgs.pages = [] := rfl
    refine ⟨Nat.zero_le _, ?_, ?_, ?_, fun _ => hpages, Nat.zero_le _, fun _ => ⟨rfl, rfl, rfl⟩, fun h => absurd h (by decide),
      nofun⟩
    · rw [hpages]; rfl
    · rw [hpages]; nofun
    · nofun
  · exact Nat.zero_le _
  · exact ⟨nofun, nofun⟩
  · exact fun _ _ h => absurd h (by decide)
  · nofun
  · exact fun h => absurd rfl h
  · exact ⟨by decide, by decide, by decide, by decide, List.nodup_nil, fun _ => rfl, nofun⟩
  · exact ⟨nofun, nofun⟩

/-! ### STATION_RESET (R23) -/

theorem stationReset_eq (d : Station) :
    stationReset d = { toJoining false d with sli := (causeStatus d).sli } := by
  have hframe : (toJoining false d).stc.lock = d.stc.lock ∧ (toJoining false d).stc.addr = d.stc.addr ∧
      (toJoining false d).sli = d.sli := by simp [toJoining, joinStc]
  obtain ⟨hlock, haddr, hsli⟩ := hframe
  rw [stationReset, causeStatus_eq, causeStatus_sli_congr hlock haddr hsli]

theorem judgeField_homed {d : Station} {inside : Bool} (h : (outsideField d (d.pnc.x, d.pnc.y)).isSome = !inside) :
    judgeField d = { d with pnc := { d.pnc with
      homed := d.pnc.homed && inside, inPlace := d.pnc.inPlace && (!d.pnc.homed || inside) } } := by
  rw [judgeField_eq, h]
  cases hh : d.pnc.homed <;> cases inside <;> simp only [Bool.not_true, Bool.not_false, Bool.and_true, Bool.and_false,
    Bool.or_true, Bool.or_false, if_true, if_false, Bool.false_eq_true] <;> rw [← hh]

theorem judgeField_default_homed {d : Station} (h : d.stc.motion = none) :
    judgeField d = { d with pnc := { d.pnc with
      homed := d.pnc.homed && decide (0 ≤ d.pnc.x ∧ d.pnc.x ≤ 24000 ∧ 0 ≤ d.pnc.y ∧ d.pnc.y ≤ 16000)
      inPlace := d.pnc.inPlace &&
        (!d.pnc.homed || decide (0 ≤ d.pnc.x ∧ d.pnc.x ≤ 24000 ∧ 0 ≤ d.pnc.y ∧ d.pnc.y ≤ 16000)) } } := by
  refine judgeField_homed ?_
  rw [outsideField_default h, ← decide_not]
  exact decide_eq_decide.2 (by omega)

theorem toJoining_eq (d : Station) : toJoining false d = { d with
      stc := joinStc false d.now d.stc
      gtu := GateUnit.reset
      prt := []
      pgs := PageStore.empty
      ssq := Sequencer.reset
      pnc := { joinPnc d.pnc with
        homed := d.pnc.homed && decide (0 ≤ d.pnc.x ∧ d.pnc.x ≤ 24000 ∧ 0 ≤ d.pnc.y ∧ d.pnc.y ≤ 16000) }
      sgv := joinSgv d.sgv
      ncc := joinNcc d.ncc.left
      thm := joinThm d.thm
      hsc := joinHsc d.hsc } := by
  rw [toJoining]
  simp only [caseLeaves_eq, Station.setStc, Station.setGtu, Station.setPrt, Station.setPgs, Station.setSsq, Station.setPnc]
  rw [judgeField_default_homed (by rfl)]
  rfl

/-- Settles O23: the blocks' resets in turn, the position judged against the default field. -/
theorem stationResetRejoins : Obligations.StationResetRejoins := by
  intro src p s hlive htaken inField
  have hexec : exec (.stationReset src p) s = .next (closed s (effect (.stationReset src p) s.dev)) :=
    exec_live hlive nofun nofun
  have howner : effect (.stationReset src p) s.dev = stationReset s.dev := takeNotice_of_taken htaken stationReset
  rw [hexec, howner, stationReset_eq, toJoining_eq]
  rfl

/-! ### CONFIGURE (R26 to R29) -/

theorem sectionHeld_of_joining {d : Station} (h : d.stc.state = .joining) : sectionHeld d = joined d := by
  unfold sectionHeld joined allSectionsHeld
  by_cases hall : (d.stc.roster.isSome && d.stc.timing.isSome && d.stc.motion.isSome && d.stc.thread.isSome) = true
  · rw [if_pos hall, if_pos hall, enterReady, enterState_of_ne (by simp [h])]
    rfl
  · rw [if_neg hall, if_neg hall]

theorem holdSection_ok {α : Type} {hold : α → Station → Station} {a : α} {d : Station}
    (h : (hold a d).stc.state = .joining) : holdSection (.ok a) hold d = joined (hold a d) :=
  sectionHeld_of_joining h

theorem holdSection_error {α : Type} (hold : α → Station → Station) (why : RefusalReason) (d : Station) :
    holdSection (.error why) hold d = refused .configure why d := refuse_eq _ _ _

/-- Each condition of R27, as the roster check has it. -/
theorem rosterFits_iff (addr : Nat) (head frame : Bool) (es : List RosterEntry) :
    rosterFits addr head frame es = true ↔
      (∀ e ∈ es, 1 ≤ e.addr ∧ e.addr ≤ 31) ∧ (es.map (·.addr)).Nodup ∧ (∀ e ∈ es, e.head = true ∨ e.frame = true) ∧
        (es.filter (·.frame)).length = 1 ∧ (es.filter (·.head)).length ≤ 30 ∧ (∃ e ∈ es, e.addr = addr) ∧
        (∀ e ∈ es, e.addr = addr → e.head = head ∧ e.frame = frame) := by
  simp only [rosterFits, Bool.and_eq_true, List.all_eq_true, List.any_eq_true, decide_eq_true_eq, Bool.or_eq_true,
    beq_iff_eq, bne_iff_ne, ne_eq, ← imp_iff_not_or, and_assoc]

/-- The state of a Configure section that its owner is given (R26). -/
theorem exec_configure {c : Instr} {lenOk : Bool} {src : Addr} {p : Payload} {owner : Station → Station} {s : State}
    (hlive : Live s) (hc : noticeOf c = some (.configure, lenOk, src, p))
    (heffect : effect c = takeNotice .configure lenOk src p owner) (htaken : Taken c s.dev) :
    s.dev.stc.state = .joining ∧ exec c s = .next (closed s (owner s.dev)) := by
  have htaken' : noticeTaken s.dev .configure lenOk src p = true := by simpa [Taken, passesChecks, hc] using htaken
  refine ⟨joining_of_configure_taken htaken', ?_⟩
  rw [exec_live hlive (by rintro rfl; cases hc) (by rintro a x y rfl; cases hc), heffect, takeNotice_of_taken htaken']

theorem peerTable_eq (now addr : Nat) (es : List RosterEntry) :
    peerTable now addr es = (es.filter (fun e => decide (e.addr ≠ addr))).map (fun e =>
      { addr := e.addr, head := e.head, frame := e.frame, heard := false, last := none, ageFrom := now, lost := false,
        mismatched := false }) :=
  congrArg (List.map (peerEntry now)) (List.filter_congr fun e _ => by rw [Bool.eq_iff_iff, bne_iff_ne, decide_eq_true_eq])

theorem timingOrdered_iff (t : TimingSection) :
    timingOrdered t = true ↔
      t.m + 16 ≤ t.h ∧ t.h < t.aArm ∧ (t.aArm < t.tuOpen ∧ t.tuOpen < t.tuClose ∧ t.tuClose + 16 ≤ t.d) ∧
        (t.aArm ≤ t.kOn ∧ t.kOn < t.kOff ∧ t.kOff ≤ t.d) ∧ t.d + 16 ≤ t.wOpen ∧ 33 ≤ t.aArm ∧ t.wOpen ≤ 991 :=
  decide_eq_true_iff

/-- The position judged against the field of a MOTION section that comes into force (R28, R94). -/
theorem holdMotion_eq (m : MotionSection) (d : Station) :
    let out := decide (d.pnc.homed = true ∧
      ¬(0 ≤ d.pnc.x ∧ d.pnc.x ≤ m.xMax ∧ 0 ≤ d.pnc.y ∧ d.pnc.y ≤ m.yMax))
    holdMotion m d = { d with
      stc := { d.stc with motion := some m }
      pnc := { d.pnc with homed := d.pnc.homed && !out, inPlace := d.pnc.inPlace && !out } } := by
  intro out
  have hfield : (outsideField (d.setStc { d.stc with motion := some m }) (d.pnc.x, d.pnc.y)).isSome =
      !decide (0 ≤ d.pnc.x ∧ d.pnc.x ≤ m.xMax ∧ 0 ≤ d.pnc.y ∧ d.pnc.y ≤ m.yMax) := by
    rw [outsideField_isSome, ← decide_not]
    simp only [motion, Station.setStc_stc, Option.getD_some]
    exact decide_eq_decide.2 (by omega)
  generalize hin : decide (0 ≤ d.pnc.x ∧ d.pnc.x ≤ m.xMax ∧ 0 ≤ d.pnc.y ∧ d.pnc.y ≤ m.yMax) = inside at hfield
  have hout : out = (d.pnc.homed && !inside) := by simp only [out, Bool.decide_and, decide_not, ← hin, Bool.decide_eq_true]
  have hhomed : (d.pnc.homed && !out) = (d.pnc.homed && inside) := by
    rw [hout]; cases d.pnc.homed <;> cases inside <;> rfl
  have hplace : (!out) = (!d.pnc.homed || inside) := by
    rw [hout]; cases d.pnc.homed <;> cases inside <;> rfl
  rw [holdMotion, judgeField_homed hfield, hhomed, hplace]
  rfl

/-- Settles O50: each section by its check, held or refused. -/
theorem configureHoldsOrRefuses : Obligations.ConfigureHoldsOrRefuses := by
  intro src p s hlive d into no
  refine ⟨fun htaken => ?_, fun htaken => ?_, fun htaken => ?_, fun htaken => ?_⟩ <;>
    obtain ⟨hjoin, hexec⟩ := exec_configure hlive rfl rfl htaken <;> rw [hexec]
  · intro es counted fits
    have hcount : (rosterOf p).length < 1 ∨ 31 < (rosterOf p).length ↔ ¬counted := by
      change _ ↔ ¬(1 ≤ (rosterOf p).length ∧ (rosterOf p).length ≤ 31)
      omega
    have hfits : rosterFits d.stc.addr d.stc.headRole d.stc.frameRole (rosterOf p) = true ↔ fits := rosterFits_iff _ _ _ _
    rw [rosterOwner, checkRoster]
    refine ⟨fun hno => ?_, fun hyes hno => ?_, fun hyes hall => ?_⟩
    · rw [if_pos (hcount.2 hno), holdSection_error]
    · rw [if_neg (mt hcount.1 (not_not.2 hyes)), if_neg (mt hfits.1 hno), holdSection_error]
    · rw [if_neg (mt hcount.1 (not_not.2 hyes)), if_pos (hfits.2 hall), holdSection_ok (by exact hjoin), holdRoster,
        peerTable_eq]
      rfl
  · intro raw a t ordered window
    have hordered : (!timingOrdered t) = true ↔ ¬ordered := by
      rw [Bool.not_eq_true', ← Bool.not_eq_true]
      exact not_congr (timingOrdered_iff t)
    have hwindow : ordered → moveWindow t = window := fun h => by
      have hopen : t.wOpen ≤ 991 := h.2.2.2.2.2.2
      simp only [moveWindow, window, Config.countsPerRev, Nat.mod_eq_of_lt (show t.wOpen < 1024 by omega)]
    have hcheck : checkTiming (timingOf p) =
        if !timingOrdered t then .error .order else if moveWindow t < 256 ∨ 768 < moveWindow t then .error .range else .ok t := rfl
    rw [timingOwner, hcheck]
    refine ⟨fun hno => ?_, fun hyes hout => ?_, fun hyes hlow hhigh => ?_⟩
    · rw [if_pos (hordered.2 hno), holdSection_error]
    · rw [if_neg (mt hordered.1 (not_not.2 hyes)), hwindow hyes, if_pos hout, holdSection_error]
    · rw [if_neg (mt hordered.1 (not_not.2 hyes)), hwindow hyes, if_neg (by omega), holdSection_ok (by exact hjoin)]
      rfl
  · intro raw xMax yMax nHalt rampDown nTop top m out
    have hstate : (holdMotion m d).stc.state = .joining := by
      rw [holdMotion_eq]
      exact hjoin
    have hclamp : clampMotion (motionOf p) = m := rfl
    rw [motionOwner, hclamp, holdSection_ok hstate, holdMotion_eq]
  · intro raw t valued rising
    have hvalued : 1 < policyByte p ∨ 1 < pauseByte p ↔ ¬valued := by
      change 1 < byteAt p 12 ∨ 1 < byteAt p 16 ↔ ¬(byteAt p 12 ≤ 1 ∧ byteAt p 16 ≤ 1)
      omega
    have hcheck : checkThread (policyByte p) (pauseByte p) (threadOf p) =
        if 1 < policyByte p ∨ 1 < pauseByte p then .error .format else if rising then .ok t else .error .order := rfl
    rw [threadOwner, hcheck]
    refine ⟨fun hno => ?_, fun hyes hno => ?_, fun hyes hrise => ?_⟩
    · rw [if_pos (hvalued.2 hno), holdSection_error]
    · rw [if_neg (mt hvalued.1 (not_not.2 hyes)), if_neg hno, holdSection_error]
    · rw [if_neg (mt hvalued.1 (not_not.2 hyes)), if_pos hrise, holdSection_ok (by exact hjoin)]
      rfl

end Sys2Proof.StitchCycle

/-! ## Closing a command: hold reason, gate, Status causes -/

namespace Sys2Proof.StitchCycle

open Sys2Proof Sys2Proof.Machine

/-! ### The gate's drive (R10, R12, R13) -/

/-- The guard in which the drive's change waits once the gate has taken the level it is due (R13). -/
def gateWaits (d : Station) : Option Guard :=
  if d.gtu.drive = wantedLevel d then none
  else match d.gtu.waits with
    | some g => if guardOpen d g then some g else none
    | none => guardOf (wantedLevel d) d

/-- The gate pulls low now (R10, R17). -/
abbrev PullsLow (d : Station) : Prop := wantedLevel d = .low ∧ d.gtu.drive = .released ∧ gateWaits d = none

/-- The Gate Unit once it has taken the level it is due. -/
def gateAfter (d : Station) : GateUnit :=
  { d.gtu with
    wanted := wantedLevel d
    waits := gateWaits d
    drive := if gateWaits d = none then wantedLevel d else d.gtu.drive
    seenHigh := if PullsLow d then false else d.gtu.seenHigh
    vetoReq := if PullsLow d then d.gtu.vetoReq.map (fun _ => d.sht.angle) else d.gtu.vetoReq }

theorem driveGate_steps (d : Station) :
    driveGate d =
      if d.gtu.drive = wantedLevel d then d.setGtu { d.gtu with wanted := wantedLevel d, waits := none }
      else changeDrive (wantedLevel d) (d.setGtu { d.gtu with wanted := wantedLevel d }) := rfl

theorem gateAfter_of_not_pull {d : Station} (h : ¬PullsLow d) : gateAfter d = { d.gtu with
    wanted := wantedLevel d, waits := gateWaits d
    drive := if gateWaits d = none then wantedLevel d else d.gtu.drive } := by
  rw [gateAfter, if_neg h, if_neg h]

theorem gateAfter_of_waits {d : Station} {g : Guard} (h : gateWaits d = some g) :
    gateAfter d = { d.gtu with wanted := wantedLevel d, waits := some g } := by
  rw [gateAfter_of_not_pull (by rintro ⟨-, -, hn⟩; rw [h] at hn; cases hn), h, if_neg nofun]

theorem takeLevel_of_no_wait {d : Station} (hne : d.gtu.drive ≠ wantedLevel d) (h : gateWaits d = none) :
    takeLevel (wantedLevel d) (d.setGtu { d.gtu with wanted := wantedLevel d }) = d.setGtu (gateAfter d) := by
  cases hl : wantedLevel d with
  | low =>
    have hp : PullsLow d := ⟨hl, by cases hd : d.gtu.drive <;> simp_all, h⟩
    rw [gateAfter, if_pos hp, if_pos hp, if_pos h, hl, h]
    rfl
  | released =>
    rw [gateAfter_of_not_pull (by rintro ⟨hlow, -⟩; rw [hl] at hlow; cases hlow), if_pos h, hl, h]
    rfl

theorem changeDrive_waiting {w : Pull} {d : Station} {g : Guard} (h : d.gtu.waits = some g) :
    changeDrive w d = if guardOpen d g then d else takeLevel w d := by
  rw [changeDrive, h]

theorem changeDrive_arising {w : Pull} {d : Station} {g : Guard} (h : d.gtu.waits = none) (hg : guardOf w d = some g) :
    changeDrive w d = d.setGtu { d.gtu with waits := some g } := by
  simp only [changeDrive, h, hg]

theorem changeDrive_at_once {w : Pull} {d : Station} (h : d.gtu.waits = none) (hg : guardOf w d = none) :
    changeDrive w d = takeLevel w d := by
  simp only [changeDrive, h, hg]

/-- The gate takes the level it is due, or its change waits in a guard (R10 to R13). -/
theorem driveGate_eq (d : Station) : driveGate d = d.setGtu (gateAfter d) := by
  rw [driveGate_steps]
  by_cases hsame : d.gtu.drive = wantedLevel d
  · have hw : gateWaits d = none := if_pos hsame
    rw [if_pos hsame, gateAfter_of_not_pull (by rintro ⟨hl, hr, -⟩; rw [hl, hr] at hsame; cases hsame), hw, if_pos rfl,
      ← hsame]
  rw [if_neg hsame]
  cases hwait : d.gtu.waits with
  | some g =>
    have hdef : gateWaits d = if guardOpen d g then some g else none := by rw [gateWaits, if_neg hsame, hwait]
    have hopen : guardOpen (d.setGtu { d.gtu with wanted := wantedLevel d }) g = guardOpen d g := by cases g <;> rfl
    rw [changeDrive_waiting (g := g) (by exact hwait), hopen]
    cases ho : guardOpen d g with
    | true =>
      rw [if_pos rfl, gateAfter_of_waits (hdef.trans (if_pos ho)), ← hwait]
    | false =>
      rw [if_neg nofun, takeLevel_of_no_wait hsame (hdef.trans (if_neg (by simp [ho])))]
  | none =>
    have hdef : gateWaits d = guardOf (wantedLevel d) d := by rw [gateWaits, if_neg hsame, hwait]
    have hof : guardOf (wantedLevel d) (d.setGtu { d.gtu with wanted := wantedLevel d }) = guardOf (wantedLevel d) d := rfl
    cases ho : guardOf (wantedLevel d) d with
    | some g =>
      rw [changeDrive_arising (by exact hwait) (hof.trans ho), gateAfter_of_waits (hdef.trans ho)]
      rfl
    | none => rw [changeDrive_at_once (by exact hwait) (hof.trans ho), takeLevel_of_no_wait hsame (hdef.trans ho)]

/-! ### The hold reason (R11) -/

/-- The reason of the first row whose condition fails. -/
def firstRow (rows : List (Bool × HoldReason)) : HoldReason := ((rows.find? (·.1)).map (·.2)).getD .none

theorem firstRow_nil : firstRow [] = .none := rfl

theorem firstRow_cons (fails : Bool) (why : HoldReason) (rows : List (Bool × HoldReason)) :
    firstRow ((fails, why) :: rows) = if fails = true then why else firstRow rows := by
  cases fails <;> rfl

/-- The kinds of a head fault are those of R161. -/
theorem ofHead_iff (k : FaultKind) :
    k.ofHead = true ↔ k ∈ [FaultKind.threadBreak, .tensionLow, .tensionHigh, .caseJam, .caseLost, .noNeedle, .needleOut] := by
  cases k <;> decide

theorem sewsOnWithdrawn_iff (d : Station) :
    sewsOnWithdrawn d = true ↔ d.stc.activity = .withdrawn ∧ (d.stc.state = .armed ∨ d.stc.state = .run) ∧
      ∀ fr ∈ d.stc.faults,
        fr.kind ∈ [FaultKind.threadBreak, .tensionLow, .tensionHigh, .caseJam, .caseLost, .noNeedle, .needleOut] := by
  simp only [sewsOnWithdrawn, Bool.and_eq_true, decide_eq_true_eq, List.all_eq_true, ofHead_iff, and_assoc]

theorem heldFrom_iff (g : PageStore) (n len : Nat) :
    g.heldFrom n len = true ↔ ∀ i < len, g.held (n + i) = true := by
  induction len generalizing n with
  | zero => simp [PageStore.heldFrom]
  | succ len ih =>
    rw [PageStore.heldFrom, Bool.and_eq_true, ih]
    constructor
    · rintro ⟨hn, hrest⟩ (_ | i) hi
      · exact hn
      · have := hrest i (by omega)
        rwa [show n + 1 + i = n + (i + 1) by omega] at this
    · intro h
      refine ⟨h 0 (by omega), fun i hi => ?_⟩
      rw [show n + 1 + i = n + (i + 1) by omega]
      exact h (i + 1) (by omega)

/-- The number of stitches of the design, 0 without one. -/
def stitchesOf (g : PageStore) : Nat :=
  match g.header with
  | some h => h.stitches
  | none => 0

theorem lookAheadHeld_eq (g : PageStore) (r : Nat) :
    g.lookAheadHeld r = g.heldFrom (r + 2) (min (r + 16) (stitchesOf g) - (r + 1)) := by
  unfold PageStore.lookAheadHeld stitchesOf
  cases g.header <;> rfl

/-- Row 9 of R11: a record of r + 2 to min(r + 16, S) is not held. -/
theorem not_lookAheadHeld_iff (g : PageStore) (r : Nat) :
    (!g.lookAheadHeld r) = true ↔
      (List.range 15).any (fun j => decide (r + 2 + j ≤ stitchesOf g ∧ g.read (r + 2 + j) = none)) = true := by
  rw [lookAheadHeld_eq, Bool.not_eq_true', ← Bool.not_eq_true, heldFrom_iff]
  simp only [List.any_eq_true, List.mem_range, decide_eq_true_eq, not_forall, PageStore.held, Bool.not_eq_true,
    Option.isSome_eq_false_iff, Option.isNone_iff_eq_none]
  constructor
  · rintro ⟨i, hi, hread⟩
    exact ⟨i, by omega, by omega, hread⟩
  · rintro ⟨i, hi, hs, hread⟩
    exact ⟨i, by omega, hread⟩

theorem atDesignEnd_iff (d : Station) :
    atDesignEnd d = true ↔ d.pgs.header ≠ none ∧ d.ssq.stitch = stitchesOf d.pgs := by
  unfold atDesignEnd stitchesOf
  cases d.pgs.header <;> simp

theorem headActs_eq (d : Station) :
    (d.stc.headRole && !headSitsOut d) = (d.stc.headRole && decide (d.stc.activity = .active)) := by
  cases hh : d.stc.headRole <;> simp [headSitsOut, hh]

/-- The faults hold the station back only if there are some. -/
theorem faults_of_holdReason {d : Station} (h : holdReason d = .faulted) : d.stc.faults ≠ [] := by
  intro hnone
  have hf : faultsHold d = false := by simp [faultsHold, hnone]
  simp only [holdReason, hf, Bool.false_eq_true, if_false] at h
  repeat' split at h
  all_goals cases h

/-! ### The Status causes (R48) -/

theorem sectionsHeld_inj (d e : Station) :
    sectionsHeld e = sectionsHeld d ↔
      (e.stc.roster.isSome, e.stc.timing.isSome, e.stc.motion.isSome, e.stc.thread.isSome) =
        (d.stc.roster.isSome, d.stc.timing.isSome, d.stc.motion.isSome, d.stc.thread.isSome) := by
  simp only [sectionsHeld_eq, Prod.mk.injEq]
  generalize e.stc.roster.isSome = e1, e.stc.timing.isSome = e2, e.stc.motion.isSome = e3, e.stc.thread.isSome = e4,
    d.stc.roster.isSome = d1, d.stc.timing.isSome = d2, d.stc.motion.isSome = d3, d.stc.thread.isSome = d4
  revert e1 e2 e3 e4 d1 d2 d3 d4
  decide

theorem holdIfUnfit_only_hsc (d : Station) : holdIfUnfit d = { d with hsc := (holdIfUnfit d).hsc } := by
  rw [holdIfUnfit_eq]
  split
  · rfl
  · rw [withholdPenetration_eq]

/-- What closing a command writes: the gate's drive, an unfit PENETRATE, and the slot if a cause arose. -/
theorem finish_eq (b a : Station) : finish b a = { a with
    gtu := gateAfter a
    hsc := (holdIfUnfit a).hsc
    sli := if statusCauses b = statusCauses a then a.sli else (causeStatus a).sli } := by
  have hgate : driveGate (holdIfUnfit a) = { a with gtu := gateAfter a, hsc := (holdIfUnfit a).hsc } := by
    rw [driveGate_eq, holdIfUnfit_only_hsc]
    rfl
  have hcauses : statusCauses (driveGate (holdIfUnfit a)) = statusCauses a := by rw [hgate]; rfl
  have hsteps : finish b a = if statusCauses b = statusCauses (driveGate (holdIfUnfit a)) then driveGate (holdIfUnfit a)
      else causeStatus (driveGate (holdIfUnfit a)) := rfl
  rw [hsteps, hcauses, hgate]
  by_cases h : statusCauses b = statusCauses a
  · rw [if_pos h, if_pos h]
  · rw [if_neg h, if_neg h, causeStatus_eq, causeStatus_sli_congr (s := a)] <;> rfl

theorem causeStatus_sli_eq (d : Station) :
    (causeStatus d).sli = if d.stc.lock = .addressClash ∨ (d.stc.lock = .strap ∧ d.stc.addr = 0) then d.sli
      else if d.sli.sending.isSome = true then { d.sli with causeAgain := true } else { d.sli with slotPending := true } := by
  have hmuted : muted d = true ↔ d.stc.lock = .addressClash ∨ (d.stc.lock = .strap ∧ d.stc.addr = 0) := by simp [muted]
  rw [causeStatus]
  by_cases h : d.stc.lock = .addressClash ∨ (d.stc.lock = .strap ∧ d.stc.addr = 0)
  · rw [if_pos h, if_pos (hmuted.2 h)]
  · rw [if_neg h, if_neg (mt hmuted.1 h)]
    split <;> rfl

theorem wantedLevel_eq (d : Station) :
    wantedLevel d =
      if (d.stc.state = .armed ∧ holdReason d = .none) ∨
        (d.stc.state = .run ∧ d.gtu.commitSpan = true ∧ d.gtu.vetoReq = none) ∨
        (d.stc.state = .run ∧ d.gtu.commitSpan = false ∧ holdReason d = .none) ∨
        (d.stc.state = .halting ∧ d.gtu.commitSpan = true ∧ d.gtu.vetoReq = none) then .released else .low := by
  unfold wantedLevel
  cases hs : d.stc.state with
  | armed => simp [ready]
  | run => cases hspan : d.gtu.commitSpan <;> cases hveto : d.gtu.vetoReq <;> simp [ready]
  | halting => cases hspan : d.gtu.commitSpan <;> cases hveto : d.gtu.vetoReq <;> simp
  | _ => simp

theorem sampleAhead_iff (d : Station) :
    sampleAhead d = true ↔ d.sht.synced = true ∧ AngleName.d ∉ d.sht.raised := by
  simp [sampleAhead]

theorem guardOpen_d_iff (d : Station) :
    guardOpen d .d = true ↔
      (d.stc.state = .run ∨ d.stc.state = .halting) ∧ d.sht.synced = true ∧ AngleName.d ∉ d.sht.raised := by
  rw [guardOpen, Bool.and_eq_true, guardsAct_iff, sampleAhead_iff]

theorem guardOpen_h_iff (d : Station) :
    guardOpen d .h = true ↔
      (d.stc.state = .run ∨ d.stc.state = .halting) ∧ d.sht.synced = true ∧ d.gtu.committed = true := by
  rw [guardOpen, Bool.and_eq_true, guardsAct_iff, Bool.and_eq_true]

theorem inReleaseGuard_iff (d : Station) :
    inReleaseGuard d = true ↔ (d.sht.synced = true ∧ AngleName.d ∉ d.sht.raised) ∧
      (timing d).d ≤ d.sht.angle + 16 ∧ d.sht.angle < (timing d).d := by
  rw [inReleaseGuard, Bool.and_eq_true, sampleAhead_iff, decide_eq_true_eq]
  rfl

theorem inPullLowGuard_iff (d : Station) :
    inPullLowGuard d = true ↔ (d.sht.synced = true ∧ AngleName.d ∉ d.sht.raised) ∧
      (timing d).d < d.sht.angle + 16 ∧ d.sht.angle < (timing d).d := by
  rw [inPullLowGuard, Bool.and_eq_true, sampleAhead_iff, decide_eq_true_eq]
  rfl

theorem inVetoGuard_iff (d : Station) :
    inVetoGuard d = true ↔ (d.sht.synced = true ∧ d.gtu.committed = true) ∧
      (timing d).h < d.sht.angle + 16 ∧ d.sht.angle < (timing d).h := by
  rw [inVetoGuard, Bool.and_eq_true, Bool.and_eq_true, decide_eq_true_eq]
  rfl

/-- The guard in which a change arises (R13), by the level it is to and the angle. -/
theorem guardOf_eq (w : Pull) (d : Station) :
    guardOf w d =
      let act := d.stc.state = .run ∨ d.stc.state = .halting
      let ahead := d.sht.synced = true ∧ AngleName.d ∉ d.sht.raised
      if w = .released then
        (if act ∧ ahead ∧ (timing d).d ≤ d.sht.angle + 16 ∧ d.sht.angle < (timing d).d then some .d else none)
      else if act ∧ ahead ∧ (timing d).d < d.sht.angle + 16 ∧ d.sht.angle < (timing d).d then some .d
      else if act ∧ (d.sht.synced = true ∧ d.gtu.committed = true) ∧ (timing d).h < d.sht.angle + 16 ∧
        d.sht.angle < (timing d).h then some .h else none := by
  unfold guardOf
  cases hact : guardsAct d with
  | false =>
    have hno : ¬(d.stc.state = .run ∨ d.stc.state = .halting) := fun h => by simp [(guardsAct_iff d).2 h] at hact
    simp [hno]
  | true =>
    have hyes := (guardsAct_iff d).1 hact
    cases w <;> simp only [Bool.not_true, Bool.false_eq_true, if_false, inReleaseGuard_iff, inPullLowGuard_iff,
      inVetoGuard_iff, hyes, true_and, reduceCtorEq, if_true]

theorem not_movesComplete_iff (d : Station) :
    (!movesComplete d || d.sgv.reposition.isSome) = true ↔
      d.pnc.move ≠ none ∨ d.pnc.pending ≠ none ∨ d.pnc.waiting ≠ none ∨ d.sgv.reposition ≠ none := by
  simp only [movesComplete, Bool.not_and, Option.not_isNone, Bool.or_eq_true, Option.isSome_iff_ne_none, or_assoc]

theorem fit_iff (d : Station) : Fit d ↔
    d.stc.activity = .active ∧ d.ncc.settled = true ∧ wantedNeedle d ≠ 0 ∧ d.ncc.stopped = .none ∧
      inService d (wantedNeedle d) = true := by
  simp only [Fit, needleFit, Bool.and_eq_true, decide_eq_true_eq, and_assoc]

/-- Settles O5: the rows of R11 one by one, then the gate, the decision and the slot. -/
theorem closingACommand : Obligations.ClosingACommand := by
  intro b a r stitches head sits frame headFaults sewsOn stopped rows hold shown wanted act ahead sampled atD atH arises waits
    pulled sections same
  have hhead : (a.stc.headRole && !headSitsOut a) = head := headActs_eq a
  have hsews : sewsOnWithdrawn a = sewsOn := Bool.eq_iff_iff.2 ((sewsOnWithdrawn_iff a).trans decide_eq_true_iff.symm)
  have hsome : ∀ {α : Type} (o : Option α) [Decidable (o ≠ none)], o.isSome = true ↔ decide (o ≠ none) = true := fun o _ =>
    Option.isSome_iff_ne_none.trans decide_eq_true_iff.symm
  have hhold : holdReason a = hold := by
    change _ = firstRow rows
    simp only [rows, firstRow_cons, firstRow_nil]
    unfold holdReason
    simp only [hhead]
    refine if_congr decide_eq_true_iff.symm rfl (if_congr ?_ rfl (if_congr (hsome _) rfl (if_congr Iff.rfl rfl
      (if_congr Iff.rfl rfl (if_congr Iff.rfl rfl (if_congr Iff.rfl rfl (if_congr ?_ rfl (if_congr ?_ rfl (if_congr ?_ rfl
      (if_congr ?_ rfl (if_congr Iff.rfl rfl rfl)))))))))))
    · rw [faultsHold, hsews, Bool.and_eq_true, Bool.and_eq_true]
      exact and_congr (by simp) Iff.rfl
    · rw [Bool.and_eq_true, Bool.and_eq_true]
      refine and_congr Iff.rfl ?_
      rw [Bool.or_eq_true, Bool.or_eq_true, atDesignEnd_iff, decide_eq_true_eq, decide_eq_true_eq]
      exact or_congr (by simp [PageStore.held, r]) Iff.rfl
    · rw [Bool.and_eq_true, Bool.and_eq_true, not_lookAheadHeld_iff]
      exact Iff.rfl
    · rw [Bool.and_eq_true, Bool.and_eq_true]
      exact and_congr Iff.rfl (hsome _)
    · rw [Bool.and_eq_true, Bool.and_eq_true, decide_eq_true_eq]
      exact and_congr Iff.rfl (not_movesComplete_iff a)
  have hshown : (statusOf a).hold = shown := by
    change shownHold a = shown
    rw [shownHold, hhold]
    refine if_congr (and_congr_right fun hf => ?_) rfl rfl
    have hfaults := faults_of_holdReason (hhold.trans hf)
    rw [caseExplains, hhead, Bool.and_eq_true, decide_eq_true_eq, decide_eq_true_eq]
    tauto
  have hwanted : wantedLevel a = wanted := by rw [wantedLevel_eq, hhold]
  have harises : guardOf wanted a = arises := guardOf_eq wanted a
  have hwaits : gateWaits a = waits := by
    rw [gateWaits, hwanted]
    refine if_congr Iff.rfl rfl ?_
    cases hw : a.gtu.waits with
    | none => exact harises
    | some g => cases g with
      | d => rw [if_pos rfl]; exact if_congr (guardOpen_d_iff a) rfl rfl
      | h => rw [if_neg nofun, if_pos rfl]; exact if_congr (guardOpen_h_iff a) rfl rfl
  have hsame : statusCauses b = statusCauses a ↔ same := by
    have hwalk : b.ssq.walk.isSome = a.ssq.walk.isSome ↔ (b.ssq.walk = none ↔ a.ssq.walk = none) := by
      rw [Bool.eq_iff_iff, Option.isSome_iff_ne_none, Option.isSome_iff_ne_none, not_iff_not]
    have hshow : shownHold a = shown := hshown
    simp only [statusCauses, StatusCauses.mk.injEq, hhold, sectionsHeld_inj, hwalk, hshow]
    rfl
  refine ⟨⟨hhold, hshown, hwanted⟩, ?_, ?_, ?_, ?_⟩
  · rw [finish_eq]
    simp only [gateAfter, PullsLow, hwanted, hwaits]
    rfl
  · rw [finish_eq]
    simp only [holdIfUnfit_eq, ← fit_iff a]
    by_cases hfit : Fit a
    · rw [if_pos hfit]
      cases hd : a.hsc.decision <;> simp [hfit]
    · rw [if_neg hfit, withholdPenetration_eq]
      cases hd : a.hsc.decision <;> simp [hfit]
  · rw [finish_eq, causeStatus_sli_eq]
    by_cases hs : same
    · exact (if_pos (hsame.2 hs)).trans (if_pos (.inl hs)).symm
    · refine (if_neg (mt hsame.1 hs)).trans ?_
      exact if_congr (or_iff_right hs).symm rfl rfl
  · rw [finish_eq]

end Sys2Proof.StitchCycle

/-! ## The rest commit -/

namespace Sys2Proof.StitchCycle

open Sys2Proof Sys2Proof.Machine

theorem verdict_eq (d : Station) (n : Nat) (fr : Option StitchRecord) : verdict d n fr = penetrates d n fr := by
  rw [Bool.eq_iff_iff]
  cases fr with
  | none => simp [verdict, penetrates]
  | some r => simp [verdict, penetrates, needleFit]; tauto

theorem isTrim_eq (fr : Option StitchRecord) : isTrim fr = trims fr := by
  cases fr <;> simp [isTrim, trims]

/-- The Gate Unit and the Speed Governor at the entry to RUN (R18, R119). -/
def gateRuns (d : Station) : Station :=
  { d with
    gtu := { d.gtu with dwellCount := 0, lead := true, committed := false, commitSpan := false, stallTimer := some d.now }
    sgv := if d.stc.frameRole then { d.sgv with mode := .running, demand := (motion d).nHalt } else d.sgv }

theorem gateRuns_eq (d : Station) :
    (let s := d.setGtu { d.gtu with
      dwellCount := 0, lead := true, committed := false, commitSpan := false, stallTimer := some d.now }
    if s.stc.frameRole then s.setSgv { s.sgv with mode := .running, demand := (motion s).nHalt } else s) = gateRuns d := by
  unfold gateRuns
  cases h : d.stc.frameRole <;> simp only [Station.setGtu, Station.setSgv, h] <;> rfl

theorem decideLead_eq (d : Station) : decideLead d = { d with hsc :=
    if d.stc.headRole then
      { d.hsc with
        decision := some { stitch := d.ssq.stitch, penetrate := penetrates d d.ssq.stitch (d.pgs.read d.ssq.stitch)
                           trim := trims (d.pgs.read d.ssq.stitch), lead := true }
        holdEngaged := !penetrates d d.ssq.stitch (d.pgs.read d.ssq.stitch) }
    else d.hsc } := by
  unfold decideLead
  simp only [verdict_eq, isTrim_eq]
  split <;> rfl

theorem restartThread_eq (d : Station) : restartThread d = { d with thm :=
    if d.stc.headRole then { d.thm with suppression := (thread d).suppression, restart := true } else d.thm } := by
  unfold restartThread
  split <;> rfl

/-- The rest commit, and the two checks made at the entry to RUN (R18, R54, R162). -/
theorem restCommit_eq {d : Station} (h : d.stc.state = .armed) :
    restCommit d = runHeadCheck (runPeerCheck (restCommitted d)) := by
  have hsteps : restCommit d = runHeadCheck (runPeerCheck (restartThread (decideLead (gateRuns (caseLeaves (clearMismatches
      (enterState .run (d.setStc { d.stc with former := .none, armTimer := none })))))))) := by
    rw [← gateRuns_eq]
    rfl
  rw [hsteps, enterState_setStc (by simp [h]) (by rfl) (by rfl), caseLeaves_eq, decideLead_eq,
    restartThread_eq]
  rfl

theorem peerHalting_restCommitted (d : Station) : peerHalting (restCommitted d) = peerHalting d := by
  simp [peerHalting, restCommitted, List.any_map, Function.comp_def]

theorem noActiveHead_restCommitted (d : Station) : noActiveHead (restCommitted d) = noActiveHead d := by
  simp [noActiveHead, restCommitted, List.any_map, Function.comp_def]

theorem restCommit_of_runsOn {d : Station} (h : d.stc.state = .armed) (hruns : RunsOn d) : restCommit d = restCommitted d := by
  obtain ⟨hpeer, hcount⟩ := hruns
  have hcheck : headCheck (restCommitted d) = restCommitted d := by
    refine headCheck_of_counted ?_
    rw [noActiveHead_restCommitted]
    cases hf : d.stc.frameRole with
    | false => exact .inl hf
    | true => exact .inr (hcount hf)
  rw [restCommit_eq h, runPeerCheck, peerHalting_restCommitted, if_neg (by simp [hpeer]), runHeadCheck, if_pos (by rfl), hcheck]

theorem crept_stc (d : Station) : (crept d).stc = d.stc := by
  unfold crept
  split <;> rfl

theorem stops_state (reason : HaltReason) (d : Station) :
    (stops reason d).stc.state = if atDesignEnd d then .done else .halted := by
  change (crept _).stc.state = _
  rw [crept_stc]

theorem restCommit_of_peerHalting {d : Station} (h : d.stc.state = .armed) (hrest : d.sht.atRest = true)
    (hpeer : peerHalting d = true) : restCommit d = stops .peerHalt (restCommitted d) := by
  rw [restCommit_eq h, runPeerCheck, peerHalting_restCommitted, if_pos hpeer, enterHalting_atRest (by rfl) (by exact hrest) rfl, runHeadCheck,
    if_neg]
  rw [stops_state]
  split <;> decide

theorem restCommit_of_noActiveHead {d : Station} (h : d.stc.state = .armed) (hrest : d.sht.atRest = true)
    (hpeer : peerHalting d = false) (hframe : d.stc.frameRole = true) (hnone : noActiveHead d = true) :
    restCommit d = stops .noActiveHead (restCommitted d) := by
  have hcheck : headCheck (restCommitted d) = enterHalting .noActiveHead (restCommitted d) := by
    have hc : ((restCommitted d).stc.frameRole && noActiveHead (restCommitted d)) = true := by
      rw [noActiveHead_restCommitted, hnone]
      simp [restCommitted, hframe]
    rw [headCheck, if_pos hc]
    rfl
  rw [restCommit_eq h, runPeerCheck, peerHalting_restCommitted, if_neg (by simp [hpeer]), runHeadCheck, if_pos (by rfl), hcheck,
    enterHalting_atRest (by rfl) (by exact hrest) rfl]

theorem tryRestCommit_of_not {d : Station} (h : d.stc.state ≠ .armed ∨ d.gtu.seenHigh = false ∨ restOnTop d = false) :
    tryRestCommit d = d := by
  rw [tryRestCommit, if_neg]
  rcases h with h | h | h <;> simp [h]

theorem tryRestCommit_of_armed {d : Station} (h : d.stc.state = .armed) (hseen : d.gtu.seenHigh = true)
    (htop : restOnTop d = true) : tryRestCommit d = restCommit d := by
  rw [tryRestCommit, if_pos (by simp [h, hseen, htop])]

/-- Settles O29: no second condition of a rest commit, or the entry to RUN and its two checks. -/
theorem seenLevelAndRestCommit : Obligations.SeenLevelAndRestCommit := by
  have hexec : ∀ (high : Bool) (s : State), Live s →
      exec (.seenLevelChange high) s = .next (closed s (seeLevel high s.dev)) := fun high s hlive =>
    exec_live hlive nofun nofun
  refine ⟨fun high s hlive hno => ?_, fun s hlive harmed hdrive htop => ?_⟩
  · rw [hexec high s hlive, seeLevel, tryRestCommit_of_not]
    · rfl
    · rcases hno with h | h | h | h
      · exact .inr (.inl (by simp [h]))
      · exact .inr (.inl (by simp [h]))
      · exact .inl h
      · exact .inr (.inr h)
  · intro runs
    have hseen : seeLevel true s.dev = restCommit { s.dev with gtu := { s.dev.gtu with seenHigh := true } } := by
      rw [seeLevel, hdrive, tryRestCommit_of_armed (by exact harmed) rfl (by exact htop)]
      rfl
    have hrest : s.dev.sht.atRest = true := (Bool.and_eq_true _ _ ▸ htop : _ ∧ _).1
    rw [hexec true s hlive, hseen]
    refine ⟨fun hruns => ?_, fun hpeer => ?_, fun hpeer hframe hnone => ?_⟩
    · rw [restCommit_of_runsOn (by exact harmed) (by exact hruns)]
    · rw [restCommit_of_peerHalting (by exact harmed) (by exact hrest) (by exact hpeer)]
    · rw [restCommit_of_noActiveHead (by exact harmed) (by exact hrest) (by exact hpeer) (by exact hframe) (by exact hnone)]

end Sys2Proof.StitchCycle

/-! ## The commit at D -/

namespace Sys2Proof.StitchCycle

open Sys2Proof Sys2Proof.Machine

/-! ### The crossings keep the design header -/

theorem crossForward_header (depth : Nat) (g : PageStore) : (g.crossForward depth).header = g.header := by
  unfold PageStore.crossForward PageStore.retain
  (repeat' split) <;> rfl

theorem crossBackward_header (g : PageStore) : g.crossBackward.header = g.header := by
  unfold PageStore.crossBackward
  split <;> rfl

theorem crossTimes_header {f : PageStore → PageStore} (hf : ∀ g, (f g).header = g.header) (n : Nat) (g : PageStore) :
    (PageStore.crossTimes f n g).header = g.header := by
  induction n generalizing g with
  | zero => rfl
  | succ n ih => rw [PageStore.crossTimes, ih, hf]

theorem moveTo_header (depth old new : Nat) (g : PageStore) : (g.moveTo depth old new).header = g.header := by
  rw [PageStore.moveTo, crossTimes_header crossBackward_header, crossTimes_header (crossForward_header depth)]

theorem targetOfPos_congr {d e : Station} (hheader : e.pgs.header = d.pgs.header) (hx : e.pnc.originX = d.pnc.originX)
    (hy : e.pnc.originY = d.pnc.originY) (px py : Int) : targetOfPos e px py = targetOfPos d px py := by
  rw [targetOfPos, targetOfPos, hheader, hx, hy]

/-! ### The gate's part, the frame's part, the head's part -/

/-- The Gate Unit at a high line (R14); in HALTING the pull-low that waited is a veto request (R16). -/
def commitOpens (d : Station) : Station :=
  { d with gtu := { d.gtu with
      dwellCount := 0, lead := false, committed := true, commitSpan := decide (d.stc.state = .run)
      vetoReq := if decide (d.stc.state = .run) then d.gtu.vetoReq else d.gtu.vetoReq.or (some d.sht.angle) } }

theorem commit_of_record {d : Station} {r : StitchRecord} (h : d.pgs.read (d.ssq.stitch + 1) = some r) :
    commit d = plannedStop r (commitHead (d.ssq.stitch + 1) (some r) (commitFrame r (commitStitch r (commitOpens d)))) := by
  unfold commit
  simp only [Station.setGtu_pgs, Station.setGtu_ssq, h]
  rfl

theorem commit_of_no_record {d : Station} (h : d.pgs.read (d.ssq.stitch + 1) = none) :
    commit d = commitHead (d.ssq.stitch + 1) none
      (fault (plainRecord .indexMismatch d.stc.addr d) (commitOpens d)) := by
  unfold commit
  simp only [Station.setGtu_pgs, Station.setGtu_ssq, h]
  rfl

/-- R95: a finding formed again at a commit; one that arises in RUN is deferred to the next H. -/
theorem recomputeFinding_of_committed {d : Station} (hframe : d.stc.frameRole = true) (hcommitted : d.gtu.committed = true)
    (hstate : d.stc.state = .run ∨ d.stc.state = .halting) :
    recomputeFinding d = { d with pnc := { d.pnc with
      finding := findingNow d
      deferred := d.pnc.deferred || decide (d.stc.state = .run ∧ d.pnc.finding = none ∧ findingNow d ≠ none) } } := by
  rw [recomputeFinding, if_pos hframe]
  cases hold : d.pnc.finding with
  | some a => simp [Station.setPnc]
  | none =>
    cases hnew : findingNow d with
    | none => simp [Station.setPnc]
    | some a => rcases hstate with hs | hs <;> simp [Station.setPnc, hs, hcommitted]

theorem commitHead_hsc (n : Nat) (fr : Option StitchRecord) (d : Station) :
    (commitHead n fr d).hsc = if d.stc.headRole then
      { d.hsc with decision := some { stitch := n, penetrate := penetrates d n fr, trim := trims fr, lead := false } }
      else d.hsc := by
  rw [commitHead, ← verdict_eq, ← isTrim_eq]
  split <;> simp

theorem haltCause_planned_halting {reason : HaltReason} {d : Station} (h : d.stc.state = .halting)
    (hreason : reason.planned = true) : haltCause reason d = d := by
  rw [haltCause, h]
  cases d.stc.haltReason <;> simp [hreason]

/-- What a fault does in HALTING: its record, and the reason in place of a planned stop's (R37). -/
theorem fault_halting {fr : FaultRecord} {d : Station} (h : d.stc.state = .halting) :
    fault fr d = { recorded fr d with stc := { (recorded fr d).stc with
      haltReason := if d.stc.haltReason.any (·.planned) then some (.fault fr.kind) else d.stc.haltReason } } := by
  have hreason : (recorded fr d).stc.haltReason = d.stc.haltReason := rfl
  rw [fault_eq, haltCause, recorded_state, h]
  simp only [hreason]
  have hsame : recorded fr d =
      (recorded fr d).setStc { (recorded fr d).stc with haltReason := d.stc.haltReason } := rfl
  cases hr : d.stc.haltReason with
  | none => rw [hr] at hsame; exact hsame
  | some old =>
    rw [hr] at hsame
    cases hp : old.planned with
    | false => simp only [hp, Option.any_some, Bool.false_and, Bool.false_eq_true, if_false]; exact hsame
    | true =>
      have hfault : (HaltReason.fault fr.kind).planned = false := rfl
      simp [hp, hfault, Station.setStc]

/-- The reason of the planned stop of a record, if it makes one (R78). -/
def stopReason : StitchKind → Option HaltReason
  | .colorStop => some .colourStop
  | .endRecord => some .endRecord
  | .sew => none
  | .jump => none
  | .trim => none

theorem plannedStop_eq (r : StitchRecord) (d : Station) :
    plannedStop r d = match stopReason r.kind with
      | some reason => haltCause reason d
      | none => d := by
  unfold plannedStop stopReason
  cases r.kind <;> rfl

theorem planned_of_stopReason {k : StitchKind} {reason : HaltReason} (h : stopReason k = some reason) :
    reason.planned = true := by
  cases k <;> cases h <;> rfl

theorem plannedStop_halting {r : StitchRecord} {d : Station} (h : d.stc.state = .halting) : plannedStop r d = d := by
  rw [plannedStop_eq]
  cases hs : stopReason r.kind with
  | none => rfl
  | some reason => exact haltCause_planned_halting h (planned_of_stopReason hs)

theorem plannedStop_turning {r : StitchRecord} {d : Station} (h : d.stc.state = .run) (hrest : d.sht.atRest = false) :
    plannedStop r d = match stopReason r.kind with
      | some reason => halts reason d
      | none => d := by
  rw [plannedStop_eq]
  cases stopReason r.kind with
  | none => rfl
  | some reason => exact (haltCause_run h).trans (enterHalting_turning h hrest)

/-- The station that has taken in its record, before the stop it may call for (R14, R77). -/
def takenIn (r : StitchRecord) (d : Station) : Station :=
  commitHead (d.ssq.stitch + 1) (some r) (commitFrame r (commitStitch r (commitOpens d)))

/-- A frame station's commit up to its finding: the demand and the pending move (R98, R117). -/
theorem commitFrame_of_frame {r : StitchRecord} {d : Station} (h : d.stc.frameRole = true) :
    commitFrame r d = recomputeFinding (commitMove r (commitDemand r d)) := if_pos h

theorem commitFrame_of_head {r : StitchRecord} {d : Station} (h : d.stc.frameRole = false) : commitFrame r d = d :=
  if_neg (by simp [h])

theorem commitDemand_eq (r : StitchRecord) (d : Station) : commitDemand r d = { d with sgv := (commitDemand r d).sgv } := by
  unfold commitDemand
  split <;> rfl

theorem commitDemand_halting {r : StitchRecord} {d : Station} (h : d.stc.state = .halting) : commitDemand r d = d :=
  if_neg (by simp [h])

/-- What the frame role's part of a commit writes (R95, R98, R117). -/
theorem commitFrame_eq {r : StitchRecord} {d : Station} (hframe : d.stc.frameRole = true) (hcommitted : d.gtu.committed = true)
    (hstate : d.stc.state = .run ∨ d.stc.state = .halting) :
    commitFrame r d = { d with
      sgv := (commitDemand r d).sgv
      pnc := { (commitMove r d).pnc with
        finding := findingNow d
        deferred := d.pnc.deferred || decide (d.stc.state = .run ∧ d.pnc.finding = none ∧ findingNow d ≠ none) } } := by
  have hmove : commitMove r (commitDemand r d) = { d with sgv := (commitDemand r d).sgv, pnc := (commitMove r d).pnc } := by
    rw [commitDemand_eq]
    rfl
  rw [commitFrame_of_frame hframe, hmove, recomputeFinding_of_committed (by exact hframe) (by exact hcommitted)
    (by exact hstate)]
  rfl

/-- The target of the stitch before is formed from the position before (R98). -/
theorem commitMove_pnc (r : StitchRecord) (d : Station) :
    (commitMove r (commitStitch r (commitOpens d))).pnc =
      let a := targetOfPos d d.ssq.px d.ssq.py
      let b := targetOfPos d (d.ssq.px + r.dx) (d.ssq.py + r.dy)
      { d.pnc with pending := some { x := b.1, y := b.2, treq := moveTime (motion d) (b.1 - a.1) (b.2 - a.2) } } := by
  have htarget : ∀ px py, targetOfPos (commitStitch r (commitOpens d)) px py = targetOfPos d px py :=
    targetOfPos_congr (moveTo_header _ _ _ _) rfl rfl
  have hpx : (commitStitch r (commitOpens d)).ssq.px = d.ssq.px + r.dx := rfl
  have hpy : (commitStitch r (commitOpens d)).ssq.py = d.ssq.py + r.dy := rfl
  simp only [commitMove, htarget, hpx, hpy, Int.add_sub_cancel]
  rfl

theorem findingNow_commitStitch (r : StitchRecord) (d : Station) :
    findingNow (commitStitch r (commitOpens d)) =
      nextFinding d (d.pgs.moveTo (motion d).retention d.ssq.stitch (d.ssq.stitch + 1)) (d.ssq.stitch + 1)
        (d.ssq.px + r.dx) (d.ssq.py + r.dy) := by
  have htarget : ∀ px py, targetOfPos (commitStitch r (commitOpens d)) px py = targetOfPos d px py :=
    targetOfPos_congr (moveTo_header _ _ _ _) rfl rfl
  have hread : (commitStitch r (commitOpens d)).pgs.read ((commitStitch r (commitOpens d)).ssq.stitch + 1) =
      (d.pgs.moveTo (motion d).retention d.ssq.stitch (d.ssq.stitch + 1)).read (d.ssq.stitch + 1 + 1) := rfl
  unfold findingNow nextFinding
  simp only [htarget, hread]
  cases (d.pgs.moveTo (motion d).retention d.ssq.stitch (d.ssq.stitch + 1)).read (d.ssq.stitch + 1 + 1) <;> rfl

/-- The penetration that the head decides on (R152): the new slot of a COLOR_STOP is no matter, for it does not penetrate. -/
theorem penetrates_takenIn {r : StitchRecord} {d e : Station} {n : Nat} (hstc : e.stc = d.stc) (hhsc : e.hsc = d.hsc)
    (hncc : e.ncc = d.ncc) (hthm : e.thm = d.thm) (hslot : r.kind ≠ .colorStop → e.ssq.slot = d.ssq.slot) :
    penetrates e n (some r) = true ↔
      (r.kind = .sew ∨ r.kind = .trim) ∧ d.stc.activity = .active ∧ d.hsc.mark < n ∧ needleFit d = true := by
  by_cases hkind : r.kind = .sew ∨ r.kind = .trim
  · have hwanted : wantedNeedle e = wantedNeedle d := by
      rw [wantedNeedle, wantedNeedle, hncc, hslot (by rintro h; simp [h] at hkind)]
    have hfit : needleFit e = needleFit d := by
      rw [needleFit, needleFit, hwanted, inService, inService, hncc, hthm]
    rw [← verdict_eq, verdict, hstc, hhsc, hfit]
    simp [hkind, and_assoc]
  · rw [← verdict_eq, verdict]
    simp [hkind]

/-- The frame role's part of a commit, in its roles. -/
theorem commitFrame_still {r : StitchRecord} {d : Station} (hcommitted : d.gtu.committed = true)
    (hstate : d.stc.state = .run ∨ d.stc.state = .halting) :
    (commitFrame r d).gtu = d.gtu ∧ (commitFrame r d).stc = d.stc ∧ (commitFrame r d).sli = d.sli ∧
      (commitFrame r d).ncc = d.ncc ∧ (commitFrame r d).hsc = d.hsc ∧
      (d.stc.state = .halting → (commitFrame r d).sgv = d.sgv) := by
  cases hf : d.stc.frameRole with
  | false => rw [commitFrame_of_head hf]; exact ⟨rfl, rfl, rfl, rfl, rfl, fun _ => rfl⟩
  | true =>
    rw [commitFrame_eq hf hcommitted hstate]
    exact ⟨rfl, rfl, rfl, rfl, rfl, fun h => by rw [commitDemand_halting h]⟩

/-- What taking in a record leaves as it was, and the sequencer and pages it makes (R14, R77). -/
theorem takenIn_still (r : StitchRecord) {d : Station} (hstate : d.stc.state = .run ∨ d.stc.state = .halting) :
    (takenIn r d).gtu = (commitOpens d).gtu ∧ (takenIn r d).stc = d.stc ∧ (takenIn r d).sli = d.sli ∧
      (takenIn r d).sht = d.sht ∧ (takenIn r d).ssq = (commitStitch r d).ssq ∧ (takenIn r d).pgs = (commitStitch r d).pgs ∧
      (d.stc.state = .halting → (takenIn r d).sgv = d.sgv) := by
  obtain ⟨hgtu, hstc, hsli, -, -, hsgv⟩ :=
    commitFrame_still (r := r) (d := commitStitch r (commitOpens d)) rfl hstate
  refine ⟨?_, ?_, ?_, ?_, ?_, ?_, fun h => ?_⟩ <;> simp only [takenIn, commitHead_frame, commitFrame_frame]
  · exact hgtu
  · exact hstc
  · exact hsli
  · rfl
  · rfl
  · rfl
  · exact hsgv h

theorem takenIn_pnc_of_frame (r : StitchRecord) {d : Station} (hframe : d.stc.frameRole = true)
    (hstate : d.stc.state = .run ∨ d.stc.state = .halting) :
    let a := targetOfPos d d.ssq.px d.ssq.py
    let b := targetOfPos d (d.ssq.px + r.dx) (d.ssq.py + r.dy)
    let found := nextFinding d (d.pgs.moveTo (motion d).retention d.ssq.stitch (d.ssq.stitch + 1)) (d.ssq.stitch + 1)
      (d.ssq.px + r.dx) (d.ssq.py + r.dy)
    (takenIn r d).pnc = { d.pnc with
      pending := some { x := b.1, y := b.2, treq := moveTime (motion d) (b.1 - a.1) (b.2 - a.2) }
      finding := found
      deferred := d.pnc.deferred || decide (d.stc.state = .run ∧ d.pnc.finding = none ∧ found ≠ none) } := by
  simp only [takenIn, commitHead_frame]
  rw [commitFrame_eq (by exact hframe) (by rfl) (by exact hstate), commitMove_pnc, findingNow_commitStitch]
  rfl

theorem takenIn_pnc_of_head (r : StitchRecord) {d : Station} (hframe : d.stc.frameRole = false) :
    (takenIn r d).pnc = d.pnc := by
  simp only [takenIn, commitHead_frame]
  rw [commitFrame_of_head (by exact hframe)]
  rfl

/-- The head's decision on the stitch taken in (R152). -/
theorem takenIn_hsc (r : StitchRecord) {d : Station} (hstate : d.stc.state = .run ∨ d.stc.state = .halting) :
    (d.stc.headRole = true → ∃ x, (takenIn r d).hsc.decision = some x ∧ x.stitch = d.ssq.stitch + 1 ∧ x.trim = trims (some r) ∧
        x.lead = false ∧ (x.penetrate = true ↔
          (r.kind = .sew ∨ r.kind = .trim) ∧ d.stc.activity = .active ∧ d.hsc.mark < d.ssq.stitch + 1 ∧ needleFit d = true)) ∧
      (d.stc.headRole = false → (takenIn r d).hsc = d.hsc) ∧
      (takenIn r d).hsc.mark = d.hsc.mark ∧ (takenIn r d).hsc.knife = d.hsc.knife := by
  obtain ⟨-, hstc, -, hncc, hhsc, -⟩ := commitFrame_still (r := r) (d := commitStitch r (commitOpens d)) rfl hstate
  have hslot : r.kind ≠ .colorStop → (commitFrame r (commitStitch r (commitOpens d))).ssq.slot = d.ssq.slot := by
    intro hkind
    simp only [commitFrame_frame]
    exact if_neg (by simp [hkind])
  have hrole : (commitFrame r (commitStitch r (commitOpens d))).stc.headRole = d.stc.headRole := by rw [hstc]; rfl
  have hthm : (commitFrame r (commitStitch r (commitOpens d))).thm = d.thm := by simp only [commitFrame_frame]; rfl
  have hkeep : (commitFrame r (commitStitch r (commitOpens d))).hsc = d.hsc := hhsc
  rw [takenIn, commitHead_hsc, hrole, hkeep]
  refine ⟨fun hh => ?_, fun hh => ?_, ?_, ?_⟩
  · rw [if_pos hh]
    exact ⟨_, rfl, rfl, rfl, rfl, penetrates_takenIn hstc hhsc hncc hthm hslot⟩
  · rw [if_neg (by simp [hh])]
  · split <;> rfl
  · split <;> rfl

theorem eventD_high {d : Station} (hseen : d.gtu.seenHigh = true)
    (h : d.stc.state = .run ∨ (d.stc.state = .halting ∧ d.gtu.drive = .released)) : eventD d = commit d := by
  rcases h with h | ⟨h, hdrive⟩
  · rw [eventD, h]
    exact if_pos hseen
  · rw [eventD, h]
    exact if_pos (by simp [hseen, hdrive])

/-- What the planned stop of a record does to a turning station in RUN that has committed it (R34, R78). -/
theorem plannedStop_fields {r : StitchRecord} {d : Station} (h : d.stc.state = .run) (hrest : d.sht.atRest = false)
    (hspan : d.gtu.commitSpan = true) :
    let stop := decide (r.kind = .colorStop)
    let planned := decide (r.kind = .colorStop ∨ r.kind = .endRecord)
    (plannedStop r d).gtu = { d.gtu with stallTimer := if planned then none else d.gtu.stallTimer } ∧
    (plannedStop r d).stc = { d.stc with
      state := if planned then .halting else .run
      haltReason := if stop then some .colourStop else if planned then some .endRecord else d.stc.haltReason } := by
  rw [plannedStop_turning h hrest]
  obtain hk | hk | hk : r.kind = .colorStop ∨ r.kind = .endRecord ∨ (r.kind ≠ .colorStop ∧ r.kind ≠ .endRecord) := by tauto
  · simp [hk, stopReason, halts, hspan]
  · simp [hk, stopReason, halts, hspan]
  · have hnone : stopReason r.kind = none := by
      obtain ⟨hc, he⟩ := hk
      cases h : r.kind <;> simp_all [stopReason]
    simp [hnone, hk, ← h]

/-- Settles O30: the record taken in, or missing; then the planned stop, in RUN alone. -/
theorem highLineAtDCommits : Obligations.HighLineAtDCommits := by
  intro d hseen t n running halting fr veto
  have hveto : d.stc.state = .halting → (commitOpens d).gtu =
      { d.gtu with dwellCount := 0, lead := false, committed := true, commitSpan := false, vetoReq := veto } := fun h => by
    simp [commitOpens, veto, h]
  refine ⟨fun hread => ⟨fun hrun => ?_, fun hhalt => ?_⟩, fun r hread hstate => ?_⟩
  · have ht : t = commitHead n none (halts (.fault .indexMismatch) (recorded fr (commitOpens d))) := by
      rw [← fault_turning (fr := fr) (d := commitOpens d) hrun.1 hrun.2]
      exact (eventD_high hseen (.inl hrun.1)).trans (commit_of_no_record hread)
    rw [ht]
    simp only [commitHead_frame]
    exact ⟨rfl, rfl, rfl, rfl, rfl, rfl⟩
  · have ht : t = commitHead n none (fault fr (commitOpens d)) :=
      (eventD_high hseen (.inr hhalt)).trans (commit_of_no_record hread)
    rw [ht]
    simp only [commitHead_frame]
    rw [fault_halting (d := commitOpens d) hhalt.1, fault_halting hhalt.1]
    exact ⟨rfl, rfl, rfl, hveto hhalt.1⟩
  · intro g px py stop planned a b found
    have hst : d.stc.state = .run ∨ d.stc.state = .halting := hstate.imp And.left And.left
    have ht : t = plannedStop r (takenIn r d) :=
      (eventD_high hseen (hstate.imp_left And.left)).trans (commit_of_record hread)
    obtain ⟨hgtu, hstc, hsli, hsht, hssq, hpgs, hsgv⟩ := takenIn_still r hst
    obtain ⟨hhead, hnohead, hmark, hknife⟩ := takenIn_hsc r hst
    have hrunning : running → t = match stopReason r.kind with
        | some reason => halts reason (takenIn r d)
        | none => takenIn r d := fun h =>
      ht.trans (plannedStop_turning (by rw [hstc]; exact h.1) (by rw [hsht]; exact h.2))
    have hhalting : halting → t = takenIn r d := fun h => ht.trans (plannedStop_halting (by rw [hstc]; exact h.1))
    have hkeep : t.ssq = (takenIn r d).ssq ∧ t.pgs = (takenIn r d).pgs ∧ t.pnc = (takenIn r d).pnc ∧
        t.hsc = (takenIn r d).hsc := by
      rcases hstate with h | h
      · rw [hrunning h]
        cases stopReason r.kind <;> exact ⟨rfl, rfl, rfl, rfl⟩
      · rw [hhalting h]
        exact ⟨rfl, rfl, rfl, rfl⟩
    obtain ⟨htssq, htpgs, htpnc, hthsc⟩ := hkeep
    have hcommit : t = commit d := eventD_high hseen (hstate.imp_left And.left)
    have hframe : t.sht = d.sht ∧ t.pins = d.pins ∧ t.prt = d.prt := by rw [hcommit]; simp
    rw [htssq, htpgs, htpnc, hthsc, hssq, hpgs]
    refine ⟨rfl, rfl, fun hf => takenIn_pnc_of_frame r hf hst, fun hf => takenIn_pnc_of_head r hf, hhead, hnohead, hmark, hknife,
      hframe.1, hframe.2.1, hframe.2.2, fun h => ?_, fun h => ?_⟩
    · have hopens : (takenIn r d).gtu = { d.gtu with dwellCount := 0, lead := false, committed := true, commitSpan := true } := by
        rw [hgtu, commitOpens, h.1]
        rfl
      obtain ⟨htgtu, htstc⟩ := plannedStop_fields (r := r) (d := takenIn r d) (by rw [hstc]; exact h.1)
        (by rw [hsht]; exact h.2) (by rw [hopens])
      rw [ht, htgtu, htstc, hopens, hstc]
      exact ⟨rfl, rfl⟩
    · rw [hhalting h]
      exact ⟨hgtu.trans (hveto h.1), hstc, hsgv h.1, hsli⟩

end Sys2Proof.StitchCycle

/-! ## The gate outside RUN, and the case in RUN: the shared operations -/

namespace Sys2Proof.StitchCycle

open Sys2Proof Sys2Proof.Machine

/-- A station whose drive is low sees the line low (R10). -/
def SeenLaw (d : Station) : Prop := d.gtu.seenHigh = true → d.gtu.drive = .released

/-- A low drive is seen low, and, if `p`, no case steps in RUN (R10, R134): what each operation but the rest commit keeps of its own. -/
structure Sound (p : Prop) (d : Station) : Prop where
  seen : SeenLaw d
  case : p → CaseLaw d

variable {p : Prop} {d e : Station}

/-- What the two laws read: the line, and in RUN the head's activity and its step. -/
theorem Sound.keeps (h : Sound p d) (hseen : e.gtu.seenHigh = d.gtu.seenHigh) (hdrive : e.gtu.drive = d.gtu.drive)
    (hrole : e.stc.headRole = d.stc.headRole) (hact : e.stc.activity = .active → d.stc.activity = .active)
    (hstate : e.stc.state = .run → d.stc.state = .run) (hstep : d.ncc.step = none → e.ncc.step = none) : Sound p e := by
  refine ⟨fun hs => ?_, fun hp hh ha hr => ?_⟩
  · rw [hdrive]
    exact h.seen (hseen ▸ hs)
  · exact hstep (h.case hp (hrole ▸ hh) (hact ha) (hstate hr))

theorem Sound.same (h : Sound p d) (hsame : e.gtu = d.gtu ∧ e.stc = d.stc ∧ e.ncc = d.ncc) : Sound p e := by
  obtain ⟨hgtu, hstc, hncc⟩ := hsame
  exact h.keeps (by rw [hgtu]) (by rw [hgtu]) (by rw [hstc]) (by rw [hstc]; exact id) (by rw [hstc]; exact id)
    (by rw [hncc]; exact id)

/-- The gate's other items are no matter. -/
theorem Sound.gate (h : Sound p d) (hline : e.gtu.seenHigh = d.gtu.seenHigh ∧ e.gtu.drive = d.gtu.drive)
    (hsame : e.stc = d.stc ∧ e.ncc = d.ncc) : Sound p e := by
  obtain ⟨hstc, hncc⟩ := hsame
  exact h.keeps hline.1 hline.2 (by rw [hstc]) (by rw [hstc]; exact id) (by rw [hstc]; exact id) (by rw [hncc]; exact id)

/-- Outside RUN a case may step. -/
theorem Sound.outside (h : Sound p d) (hstate : e.stc.state ≠ .run)
    (hline : e.gtu.seenHigh = d.gtu.seenHigh ∧ e.gtu.drive = d.gtu.drive) : Sound p e :=
  ⟨fun hs => hline.2 ▸ h.seen (hline.1 ▸ hs), fun _ _ _ hr => absurd hr hstate⟩

/-! ### Records, states, the case -/

theorem enterState_state (st : StationState) (d : Station) : (enterState st d).stc.state = st := by
  by_cases hs : d.stc.state = st
  · rw [enterState_of_eq hs, hs]
  · rw [enterState_of_ne hs]

theorem Sound.addRecord (h : Sound p d) (fr : FaultRecord) : Sound p (addRecord fr d) := by
  rw [addRecord_eq]
  exact h.keeps rfl rfl rfl id id id

theorem Sound.refuse (h : Sound p d) (kind : NoticeKind) (why : RefusalReason) : Sound p (refuse kind why d) := by
  rw [refuse_eq]
  exact h.keeps rfl rfl rfl id id id

theorem Sound.enterState (h : Sound p d) {st : StationState} (hst : st ≠ .run) : Sound p (enterState st d) := by
  by_cases hs : d.stc.state = st
  · rw [enterState_of_eq hs]
    exact h
  · rw [enterState_of_ne hs]
    exact h.outside hst ⟨rfl, rfl⟩

theorem Sound.caseLeaves (h : Sound p d) : Sound p (caseLeaves d) := by
  rw [caseLeaves_eq]
  exact h.keeps rfl rfl rfl id id (fun hn => by simp [NeedleCase.left, hn])

theorem Sound.withdrawHead (h : Sound p d) : Sound p (withdrawHead d) := by
  have hset : Sound p (d.setStc { d.stc with activity := .withdrawn }) := h.keeps rfl rfl rfl nofun id id
  rw [Machine.withdrawHead]
  exact hset.caseLeaves.same (by simp)

@[simp] theorem completeSettle_step (d : Station) : (completeSettle d).ncc.step = d.ncc.step := by
  unfold completeSettle
  simp only
  split <;> simp

theorem judgeSettle_step (d : Station) : (judgeSettle d).ncc.step = d.ncc.step := by
  unfold judgeSettle
  (repeat' split) <;> simp

theorem Sound.judgeSettle (h : Sound p d) : Sound p (judgeSettle d) :=
  h.keeps (by simp) (by simp) (by simp) (by simp) (by simp) (by rw [judgeSettle_step]; exact id)

theorem state_of_stepDue (h : stepDue d = true) : d.stc.state = .armed := by
  simp only [stepDue, Bool.and_eq_true, decide_eq_true_eq] at h
  tauto

theorem Sound.tryStep (h : Sound p d) : Sound p (tryStep d) := by
  by_cases hdue : stepDue d = true
  · exact h.outside (by simp [state_of_stepDue hdue]) (by simp)
  · rw [Machine.tryStep, if_neg hdue]
    exact h

/-! ### Back from ARMED, and arming -/

theorem Sound.enterHalted (h : Sound p d) : Sound p (enterHalted d) := by
  rw [Machine.enterHalted]
  exact (h.enterState (st := .halted) (by decide)).same (by simp)

theorem Sound.returnToFormer (h : Sound p d) : Sound p (returnToFormer d) := by
  have hleaves : Sound p (Machine.caseLeaves (d.setStc { d.stc with former := .none, armTimer := none })) :=
    Sound.caseLeaves (h.keeps rfl rfl rfl id id id)
  unfold Machine.returnToFormer
  simp only
  split
  · exact (hleaves.enterState (st := .ready) (by decide)).same (by simp)
  · refine Sound.enterHalted ?_
    split
    · exact hleaves
    · exact hleaves.same (by simp)

theorem Sound.armedFault (h : Sound p d) (fr : FaultRecord) : Sound p (armedFault fr d) := by
  unfold Machine.armedFault
  split
  · exact (h.addRecord fr).returnToFormer
  · exact h.addRecord fr

theorem Sound.armedHeadCheck (h : Sound p d) : Sound p (armedHeadCheck d) := by
  unfold Machine.armedHeadCheck
  split
  · exact h.returnToFormer
  · exact h

theorem Sound.armedHeadFault (h : Sound p d) (fr : FaultRecord) : Sound p (armedHeadFault fr d) := by
  unfold Machine.armedHeadFault
  (repeat' split)
  · exact (h.addRecord fr).withdrawHead.armedHeadCheck
  · exact h.addRecord fr
  · exact h.armedFault fr

theorem Sound.armPeers (h : Sound p d) : Sound p (armPeers d) := by
  unfold Machine.armPeers
  split
  · exact h.armedFault _
  · exact h

theorem Sound.armCase (h : Sound p d) : Sound p (armCase d) := by
  have hclear : Sound p (d.setNcc { d.ncc with stopped := .none, stepWaiting := false }) := h.keeps rfl rfl rfl id id id
  unfold Machine.armCase
  simp only
  (repeat' split)
  · exact hclear.armedHeadFault _
  · exact hclear.armedHeadFault _
  · exact hclear.armedHeadFault _
  · exact hclear.tryStep
  · exact h

theorem Sound.armField (h : Sound p d) : Sound p (armField d) := by
  unfold Machine.armField
  split
  · exact (h.same (by simp)).armedFault _
  · exact h

theorem Sound.armDrive (h : Sound p d) : Sound p (armDrive d) := by
  unfold Machine.armDrive
  split
  · exact h.armedFault _
  · exact h.same (by simp)

theorem Sound.whileArmed (h : Sound p d) {f : Station → Station} (hf : Sound p (f d)) : Sound p (whileArmed f d) := by
  unfold Machine.whileArmed
  split
  · exact hf
  · exact h

theorem Sound.enterArmed (h : Sound p d) (former : Former) : Sound p (enterArmed former d) := by
  have hset : Sound p (d.setStc { d.stc with former := former, haltReason := none, armTimer := some d.now }) :=
    h.keeps rfl rfl rfl id id id
  have harmed := hset.enterState (st := .armed) (by decide)
  have hblocks : ∀ e, Sound p e → Sound p
      (Machine.whileArmed Machine.armedHeadCheck (Machine.whileArmed Machine.armDrive (Machine.whileArmed Machine.armField
        (Machine.whileArmed Machine.armCase (Machine.whileArmed Machine.armPeers e))))) := fun e he =>
    have hpeers := he.whileArmed he.armPeers
    have hcase := hpeers.whileArmed hpeers.armCase
    have hfield := hcase.whileArmed hcase.armField
    have hdrive := hfield.whileArmed hfield.armDrive
    hdrive.whileArmed hdrive.armedHeadCheck
  unfold Machine.enterArmed
  refine hblocks _ ?_
  split <;> exact harmed.same (by simp)

/-! ### Halting, faults, findings -/

theorem Sound.leaveHalting (h : Sound p d) : Sound p (leaveHalting d) := by
  have hdrop : Sound p (dropDecision d) := h.same (by simp)
  unfold Machine.leaveHalting
  simp only
  (repeat' split)
  · exact (hdrop.enterState (st := .done) (by decide)).same (by simp)
  · exact hdrop.enterArmed _
  · exact hdrop.enterHalted

theorem Sound.leavesAtRest (h : Sound p d) :
    Sound p (if d.sht.atRest then Machine.leaveHalting (startPending false d) else d) := by
  split
  · exact (h.same (by simp)).leaveHalting
  · exact h

theorem Sound.enterHalting (h : Sound p d) (reason : HaltReason) : Sound p (enterHalting reason d) := by
  rw [Machine.enterHalting]
  exact (h.outside (by simp [enterState_state]) (by simp)).leavesAtRest

theorem Sound.haltCause (h : Sound p d) (reason : HaltReason) : Sound p (haltCause reason d) := by
  unfold Machine.haltCause
  (repeat' split)
  · exact h.enterHalting _
  · exact h.returnToFormer
  · exact h.keeps rfl rfl rfl id id id
  all_goals exact h

theorem Sound.fault (h : Sound p d) (fr : FaultRecord) : Sound p (fault fr d) := (h.addRecord fr).haltCause _

theorem Sound.headCheck (h : Sound p d) : Sound p (headCheck d) := by
  unfold Machine.headCheck
  (repeat' split)
  · exact h.enterHalting _
  · exact h.returnToFormer
  all_goals exact h

theorem Sound.headFault (h : Sound p d) (fr : FaultRecord) : Sound p (headFault fr d) := by
  unfold Machine.headFault
  (repeat' split)
  · exact (h.addRecord fr).withdrawHead.headCheck
  · exact h.addRecord fr
  · exact h.fault fr

theorem Sound.writeDeferred (h : Sound p d) : Sound p (writeDeferred d) := by
  unfold Machine.writeDeferred
  (repeat' split)
  · exact (h.same (by simp)).fault _
  · exact h.same (by simp)
  · exact h

theorem Sound.recomputeFinding (h : Sound p d) : Sound p (recomputeFinding d) := by
  unfold Machine.recomputeFinding
  simp only
  (repeat' split)
  · exact h.same (by simp)
  · exact (h.same (by simp)).fault _
  · exact h.same (by simp)
  · exact h.same (by simp)
  · exact h

/-! ### Re-positioning -/

theorem Sound.creepOffTop (h : Sound p d) : Sound p (creepOffTop d) := by
  unfold Machine.creepOffTop shaftPosition
  (repeat' split)
  · exact h
  · exact (h.same (by simp)).fault _
  · exact h.same (by simp)

theorem Sound.creepAtRest (h : Sound p d) : Sound p (creepAtRest d) := by
  have hstop : Sound p (governorStop d) := h.same (by simp)
  unfold Machine.creepAtRest
  simp only
  (repeat' split)
  · exact hstop.same (by simp)
  · exact hstop.creepOffTop.same (by simp)
  · exact hstop.creepOffTop
  · exact h

end Sys2Proof.StitchCycle

/-! ## The gate outside RUN, and the case in RUN: every effect -/

namespace Sys2Proof.StitchCycle

open Sys2Proof Sys2Proof.Machine

variable {p : Prop} {d e : Station}

/-! ### The gate takes its level, and the rest commit -/

/-- A line seen high after the gate has taken the level it is due is one that the station does not pull. -/
theorem gateAfter_seen (h : SeenLaw d) (hs : (gateAfter d).seenHigh = true) : (gateAfter d).drive = .released := by
  by_cases hp : PullsLow d
  · rw [gateAfter, if_pos hp] at hs
    cases hs
  · rw [gateAfter_of_not_pull hp] at hs ⊢
    have hdrive := h hs
    by_cases hw : gateWaits d = none
    · cases hl : wantedLevel d with
      | released => exact if_pos hw
      | low => exact absurd ⟨hl, hdrive, hw⟩ hp
    · exact (if_neg hw).trans hdrive

theorem Sound.driveGate (h : Sound p d) : Sound p (driveGate d) := by
  rw [driveGate_eq]
  exact ⟨gateAfter_seen h.seen, h.case⟩

theorem Sound.runPeerCheck (h : Sound p d) : Sound p (runPeerCheck d) := by
  unfold Machine.runPeerCheck
  split
  · exact h.enterHalting _
  · exact h

theorem Sound.runHeadCheck (h : Sound p d) : Sound p (runHeadCheck d) := by
  unfold Machine.runHeadCheck
  split
  · exact h.headCheck
  · exact h

/-- A station that is ready has no step in progress on an ACTIVE head (R11, row 7). -/
theorem step_of_ready (h : ready d = true) (hhead : d.stc.headRole = true) (hactive : d.stc.activity = .active) :
    d.ncc.step = none := by
  have hnone : holdReason d = .none := of_decide_eq_true h
  have hacts : (d.stc.headRole && !headSitsOut d) = true := by
    rw [headActs_eq]
    simp [hhead, hactive]
  by_contra hstep
  have hsome : d.ncc.step.isSome = true := Option.isSome_iff_ne_none.2 hstep
  simp only [holdReason, hacts, hsome, Bool.or_true, Bool.and_true, if_true] at hnone
  repeat' split at hnone
  all_goals cases hnone

theorem Sound.restCommit (h : Sound p d) (harmed : d.stc.state = .armed) (hready : ready d = true) :
    Sound p (restCommit d) := by
  have hcommitted : Sound p (restCommitted d) :=
    ⟨h.seen, fun _ hhead hactive _ => by simp [restCommitted, NeedleCase.left, step_of_ready hready hhead hactive]⟩
  rw [restCommit_eq harmed]
  exact hcommitted.runPeerCheck.runHeadCheck

theorem Sound.tryRestCommit (h : Sound p d)
    (hready : d.stc.state = .armed → d.gtu.seenHigh = true → ready d = true) : Sound p (tryRestCommit d) := by
  unfold Machine.tryRestCommit
  split
  next hcond =>
    simp only [Bool.and_eq_true, decide_eq_true_eq] at hcond
    obtain ⟨⟨harmed, hseen⟩, -⟩ := hcond
    exact h.restCommit harmed (hready harmed hseen)
  next => exact h

/-! ### The Thread Monitor -/

theorem Sound.threadBreak (h : Sound p d) (k : Penetration) : Sound p (threadBreak k d) := by
  unfold Machine.threadBreak
  exact (h.same (by simp)).headFault _

theorem Sound.tensionFault (h : Sound p d) (k : FaultKind) (n : Nat) : Sound p (tensionFault k n d) := by
  unfold Machine.tensionFault
  exact (h.same (by simp)).headFault _

theorem Sound.judgeTension (h : Sound p d) (n : Nat) : Sound p (judgeTension n d) := by
  unfold Machine.judgeTension
  simp only
  split
  · exact (h.same (by simp)).tensionFault _ _
  · exact h.same (by simp)

theorem Sound.takeSample (h : Sound p d) (k : Penetration) : Sound p (takeSample k d) := by
  unfold Machine.takeSample
  simp only
  split
  · exact (h.same (by simp)).judgeTension _
  · exact h.same (by simp)

theorem Sound.closePenetration (h : Sound p d) : Sound p (closePenetration d) := by
  unfold Machine.closePenetration
  split
  · exact h
  next k _ =>
    have hjudged : ∀ m : ThreadMonitor, ∀ dry : Bool,
        Sound p (if dry = true then Machine.threadBreak k (d.setThm m) else d.setThm m) := by
      intro m dry
      split
      · exact (h.same (by simp)).threadBreak k
      · exact h.same (by simp)
    simp only
    split
    · exact (hjudged _ _).takeSample k
    · exact hjudged _ _

/-! ### Walks and moves -/

theorem Sound.afterStitchChange (h : Sound p d) : Sound p (afterStitchChange d) := by
  unfold Machine.afterStitchChange
  split
  · exact h.judgeSettle.recomputeFinding
  · exact h.recomputeFinding

theorem Sound.walkCutAt (h : Sound p d) (k : Walk) : Sound p (walkCutAt k d) := by
  unfold Machine.walkCutAt
  split
  · exact h.same (by simp)
  · exact (h.same (by simp)).afterStitchChange

theorem Sound.walkAdvance (fuel : Nat) (k : Walk) (h : Sound p d) : Sound p (walkAdvance fuel k d) := by
  induction fuel generalizing k d with
  | zero => exact h
  | succ fuel ih =>
    rw [Machine.walkAdvance]
    simp only
    split
    · exact (h.fault _).walkCutAt k
    · (repeat' split)
      · exact h.same (by simp)
      · exact h.same (by simp)
      · exact ih _ (h.same (by simp))
      · exact h.same (by simp)

theorem Sound.walkOn (h : Sound p d) (k : Walk) : Sound p (walkOn k d) := h.walkAdvance _ k

theorem Sound.walkMoveDone (h : Sound p d) : Sound p (walkMoveDone d) := by
  unfold Machine.walkMoveDone
  (repeat' split)
  · exact h.same (by simp)
  · exact h.walkCutAt _
  · exact h.walkOn _
  · exact h

theorem Sound.completeMove (h : Sound p d) : Sound p (completeMove d) := by
  unfold Machine.completeMove
  split
  · exact h
  · simp only
    split
    · exact h.same (by simp)
    · exact (h.same (by simp)).walkMoveDone
    · exact (h.same (by simp)).walkMoveDone

theorem Sound.walkFirstMove (h : Sound p d) : Sound p (walkFirstMove d) := by
  unfold Machine.walkFirstMove
  simp only
  (repeat' split)
  · exact (h.same (by simp)).walkOn _
  · exact h.same (by simp)
  · exact h.same (by simp)
  · exact h

theorem Sound.walkBegin (h : Sound p d) (dir : WalkDir) (n actual target : Nat) :
    Sound p (walkBegin dir n actual target d) := by
  have hhalted : ∀ e : Station, Sound p e →
      Sound p (Machine.walkFirstMove (Machine.afterStitchChange (causeStatus (if e.stc.state = .done then Machine.enterHalted e else e)))) := by
    intro e he
    refine Sound.walkFirstMove (Sound.afterStitchChange ?_)
    split
    · exact he.enterHalted.same (by simp)
    · exact he.same (by simp)
  exact hhalted (clearMismatches _) (h.same (by simp))

theorem Sound.backOwner (h : Sound p d) (q : Payload) : Sound p (backOwner q d) := by
  unfold Machine.backOwner
  simp only
  (repeat' split)
  · exact h.refuse _ _
  · exact h
  · exact h.same (by simp)
  · exact h.walkBegin _ _ _ _

theorem Sound.forwardOwner (h : Sound p d) (q : Payload) : Sound p (forwardOwner q d) := by
  unfold Machine.forwardOwner
  simp only
  (repeat' split)
  · exact h.refuse _ _
  · exact h
  · exact h.same (by simp)
  · exact h.walkBegin _ _ _ _

/-! ### The angle events -/

theorem Sound.eventM (h : Sound p d) : Sound p (eventM d) := by
  unfold Machine.eventM
  (repeat' split)
  · exact (h.fault _).gate ⟨rfl, rfl⟩ (by simp)
  · exact h
  · exact h

theorem Sound.vetoTaken (h : Sound p d) : Sound p (vetoTaken d) := by
  unfold Machine.vetoTaken
  simp only
  split
  · exact (h.same (by simp)).fault _
  · exact (h.same (by simp)).haltCause _

theorem Sound.sampleH (h : Sound p d) : Sound p (sampleH d) := by
  have hclear : Sound p (d.setGtu { d.gtu with committed := false }) := h.gate ⟨rfl, rfl⟩ (by simp)
  unfold Machine.sampleH
  simp only
  (repeat' split)
  · exact hclear
  · exact hclear.vetoTaken
  · exact h

theorem Sound.eventH (h : Sound p d) : Sound p (eventH d) := h.sampleH.writeDeferred

theorem Sound.assertGate (h : Sound p d) : Sound p (assertGate d) := by
  unfold Machine.assertGate
  simp only
  split
  · exact ⟨nofun, h.case⟩
  · exact h.gate ⟨rfl, rfl⟩ (by simp)

theorem Sound.eventAArm (h : Sound p d) : Sound p (eventAArm d) := by
  unfold Machine.eventAArm
  simp only
  split
  · exact h.assertGate.same (by simp)
  · exact h.assertGate

theorem Sound.commitFrame (h : Sound p d) (r : StitchRecord) : Sound p (commitFrame r d) := by
  unfold Machine.commitFrame
  split
  · exact (h.same (by simp)).recomputeFinding
  · exact h

theorem Sound.commitHead (h : Sound p d) (n : Nat) (fr : Option StitchRecord) : Sound p (commitHead n fr d) := by
  unfold Machine.commitHead
  split
  · exact (h.same (by simp)).judgeSettle
  · exact h

theorem Sound.plannedStop (h : Sound p d) (r : StitchRecord) : Sound p (plannedStop r d) := by
  unfold Machine.plannedStop
  split
  · exact h.haltCause _
  · exact h.haltCause _
  all_goals exact h

theorem Sound.commit (h : Sound p d) : Sound p (commit d) := by
  have hopens : Sound p (commitOpens d) := h.gate ⟨rfl, rfl⟩ ⟨rfl, rfl⟩
  cases hread : d.pgs.read (d.ssq.stitch + 1) with
  | some r =>
    have hstitch : Sound p (commitStitch r (commitOpens d)) := hopens.same (by simp)
    rw [commit_of_record hread]
    exact ((hstitch.commitFrame r).commitHead _ _).plannedStop r
  | none =>
    rw [commit_of_no_record hread]
    exact (hopens.fault _).commitHead _ _

theorem Sound.dwellCommon (h : Sound p d) : Sound p (dwellCommon d) := by
  rw [dwellCommon_eq]
  exact h.gate ⟨rfl, rfl⟩ (by simp)

theorem Sound.dwellRun (h : Sound p d) : Sound p (dwellRun d) := by
  have hcounts : ∀ (hold : HoldReason) (e : Station), Sound p e → Sound p (dwellCounts hold e) := by
    intro hold e he
    have hset : Sound p (e.setGtu { e.gtu with dwellCount := min (timing e).dwellLimit (e.gtu.dwellCount + 1) }) :=
      he.gate ⟨rfl, rfl⟩ (by simp)
    unfold dwellCounts
    simp only
    split
    · exact hset.fault _
    · exact hset
  rw [dwellRun_eq, demandFalls_eq]
  exact hcounts _ _ (h.dwellCommon.same (by simp))

theorem Sound.eventD (h : Sound p d) : Sound p (eventD d) := by
  unfold Machine.eventD
  split
  · split
    · exact h.commit
    · exact h.dwellRun
  · split
    · exact h.commit
    · exact h.dwellCommon
  all_goals exact h

theorem Sound.receive (h : Sound p d) (n : AngleName) : Sound p (receive n d) := by
  cases n with
  | m =>
    rw [Machine.receive]
    split
    · exact h.eventM
    · exact h
  | h => exact h.eventH
  | aArm => exact h.eventAArm
  | tuClose =>
    rw [Machine.receive]
    split
    · exact h.closePenetration
    · exact h
  | d => exact h.eventD
  | wOpen => exact Sound.same (e := eventWOpen d) h (by simp)
  | tuOpen | kOn | kOff =>
    rw [Machine.receive]
    split
    · exact h.same (by simp)
    · exact h

theorem Sound.raiseEvent (h : Sound p d) (n : AngleName) : Sound p (raiseEvent n d) := by
  have hset : Sound p (d.setSht { d.sht with raised := d.sht.raised ++ [n] }) := h.same (by simp)
  exact (hset.receive n).driveGate

theorem Sound.raiseIfDue (h : Sound p d) (n : AngleName) : Sound p (raiseIfDue d n) := by
  unfold Machine.raiseIfDue
  split
  · exact h.raiseEvent n
  · exact h

theorem Sound.raiseEvents (h : Sound p d) : Sound p (raiseEvents d) := by
  have hall : ∀ (l : List AngleName) (e : Station), Sound p e → Sound p (l.foldl Machine.raiseIfDue e) := by
    intro l
    induction l with
    | nil => exact fun _ he => he
    | cons n l ih => exact fun e he => ih _ (he.raiseIfDue n)
  exact hall _ d h

/-- A line seen high in ARMED is released by a station that is ready, so the rest commit finds no step (R10, R12, R18). -/
theorem Sound.seeLevel (h : Sound p d) (hgate : GateLaw d) (high : Bool) : Sound p (seeLevel high d) := by
  have hset : Sound p (d.setGtu { d.gtu with seenHigh := high && decide (d.gtu.drive = .released) }) :=
    ⟨fun hs => of_decide_eq_true (Bool.and_eq_true _ _ ▸ hs : _ ∧ _).2, h.case⟩
  refine hset.tryRestCommit fun harmed hseen => ?_
  rcases hgate.1 (hset.seen hseen) with ⟨-, hready⟩ | hrun | ⟨hhalting, -⟩
  · exact hready
  · exact absurd (harmed.symm.trans hrun) (by decide)
  · exact absurd (harmed.symm.trans hhalting) (by decide)

theorem Sound.stall (h : Sound p d) : Sound p (stall d) := by
  unfold Machine.stall
  split
  · exact h.fault _
  · exact h

end Sys2Proof.StitchCycle

/-! ## The gate outside RUN, and the case in RUN: the shaft, the case, the notices -/

namespace Sys2Proof.StitchCycle

open Sys2Proof Sys2Proof.Machine

variable {p : Prop} {d e : Station}

/-! ### The Shaft Tracker -/

theorem Sound.encoderFault (h : Sound p d) : Sound p (encoderFault d) := by
  have hlost : Sound p (abandonPenetration (knifeOff (dropDecision (loseSync d)))) := h.same (by simp)
  unfold Machine.encoderFault
  exact (hlost.fault _).writeDeferred

theorem Sound.countArrives (h : Sound p d) : Sound p (countArrives d) := by
  rw [countArrives_eq]
  exact h.keeps (by split <;> rfl) (by split <;> rfl) rfl id id id

theorem Sound.advance (h : Sound p d) : Sound p (advance d) := by
  have hturned : Sound p (turned d) := h.same ⟨rfl, rfl, rfl⟩
  rw [advance_eq]
  split
  · exact hturned.encoderFault
  · exact hturned.raiseEvents

theorem Sound.countForward (h : Sound p d) (t : Nat) : Sound p (countForward t d) := by
  have hcount : Sound p (Machine.countArrives (presentTension t d)) := Sound.countArrives (h.same (by simp))
  unfold Machine.countForward
  simp only
  split
  · exact hcount.same (by simp)
  · exact hcount.advance

theorem Sound.countReverse (h : Sound p d) (t : Nat) : Sound p (countReverse t d) := by
  have hcount : Sound p (Machine.countArrives (presentTension t d)) := Sound.countArrives (h.same (by simp))
  unfold Machine.countReverse
  simp only
  split
  · exact (hcount.same (by simp)).encoderFault
  · exact hcount.same (by simp)

theorem Sound.takePeriod (h : Sound p d) : Sound p (takePeriod d) := by
  unfold Machine.takePeriod
  simp only
  (repeat' split)
  · exact (h.same (by simp)).fault _
  · exact h.same (by simp)
  · exact h.same (by simp)
  · exact h

theorem Sound.capture (h : Sound p d) : Sound p (capture d) := by
  unfold Machine.capture
  split
  · exact (h.same (by simp)).takePeriod
  · exact h.same (by simp)

theorem Sound.sweep (n : Nat) (h : Sound p d) : Sound p (sweep n d) := by
  induction n generalizing d with
  | zero => exact h
  | succ n ih => exact ih (Sound.raiseEvents (h.same (by simp)))

theorem Sound.indexBegins (h : Sound p d) : Sound p (indexBegins d) := by
  have hswept : Sound p (Machine.sweep (1023 - d.sht.angle) d) := h.sweep _
  unfold Machine.indexBegins
  exact (hswept.same (by simp)).raiseEvents

theorem Sound.takeIndex (h : Sound p d) : Sound p (takeIndex d) := by
  unfold Machine.takeIndex indexSyncs
  (repeat' split)
  · exact (h.same (by simp)).raiseEvents
  · exact h.encoderFault
  · exact h.same (by simp)
  · exact h.indexBegins.capture
  · exact (h.same (by simp)).capture

/-! ### Rest -/

theorem Sound.caseAtRest (h : Sound p d) : Sound p (caseAtRest d) := by
  unfold Machine.caseAtRest
  split
  next hcond =>
    have harmed : d.stc.state = .armed := by
      simp only [Bool.and_eq_true, decide_eq_true_eq] at hcond
      obtain ⟨⟨⟨-, harmed⟩, -⟩, -⟩ := hcond
      exact harmed
    (repeat' split)
    · exact h.outside (by simp [harmed]) (by simp)
    · exact h
    · exact h.tryStep
  next => exact h

theorem Sound.pantographAtRest (h : Sound p d) : Sound p (pantographAtRest d) := by
  unfold Machine.pantographAtRest
  simp only
  split
  · exact h.writeDeferred
  · exact h.writeDeferred.same (by simp)

theorem Sound.governorAtRest (h : Sound p d) (inSequence : Bool) : Sound p (governorAtRest inSequence d) := by
  unfold Machine.governorAtRest
  (repeat' split)
  · exact h
  · exact h.creepAtRest
  · exact h.same (by simp)
  · exact h.same (by simp)
  · exact h.same (by simp)
  all_goals exact h

/-- A change of the drive waits in RUN and HALTING alone (R13). -/
theorem gateWaits_of_not_act (h : guardsAct d = false) : gateWaits d = none := by
  have hopen : ∀ g, guardOpen d g = false := fun g => by cases g <;> simp [guardOpen, h]
  unfold gateWaits
  split
  next => rfl
  next =>
    cases d.gtu.waits with
    | some g => simp [hopen]
    | none => simp [guardOf, h]

/-- In ARMED the drive takes the level wanted at once, released only while the station is ready (R10 to R13). -/
theorem ready_of_driven (h : d.stc.state = .armed) (hdrive : (gateAfter d).drive = .released) : ready d = true := by
  have hact : guardsAct d = false := by simp [guardsAct, h]
  have hlevel : (gateAfter d).drive = wantedLevel d := if_pos (gateWaits_of_not_act hact)
  rw [hlevel, wantedLevel, h] at hdrive
  by_contra hready
  simp [hready] at hdrive

theorem Sound.commitAtRest (h : Sound p d) : Sound p (commitAtRest d) := by
  unfold Machine.commitAtRest
  split
  next harmed =>
    refine h.driveGate.tryRestCommit fun _ hseen => ?_
    rw [driveGate_eq] at hseen ⊢
    have hready : ready d = true := ready_of_driven harmed (gateAfter_seen h.seen hseen)
    exact hready
  next => exact h

theorem Sound.comeToRest (h : Sound p d) : Sound p (comeToRest d) := by
  have hrested : Sound p (abandonPenetration (knifeOff (dropDecision (judgeRest d)))) := h.same (by simp)
  have hrest : ∀ (q : Bool) (e : Station), Sound p e →
      Sound p (Machine.commitAtRest (Machine.governorAtRest q (Machine.pantographAtRest (Machine.caseAtRest e)))) :=
    fun q e he => (he.caseAtRest.pantographAtRest.governorAtRest q).commitAtRest
  unfold Machine.comeToRest
  split
  · exact h
  · refine hrest _ _ ?_
    split
    · exact hrested.leaveHalting
    · exact hrested

/-! ### The needle case -/

theorem Sound.stopCase (h : Sound p d) (why : CaseStopped) (fr : FaultRecord) : Sound p (stopCase why fr d) := by
  have hset : Sound p (d.setNcc { d.ncc with stopped := why }) := h.keeps rfl rfl rfl id id id
  exact hset.headFault fr

theorem Sound.endStep (h : Sound p d) : Sound p (endStep d) := h.keeps rfl rfl rfl id id fun _ => rfl

theorem Sound.sensorInStep (h : Sound p d) (st : CaseStep) : Sound p (sensorInStep st d) := by
  have hmarked : Sound p (markSuccess st (Machine.endStep d)) := by
    unfold markSuccess
    split
    · exact h.endStep.keeps rfl rfl rfl id id id
    · exact h.endStep
  unfold Machine.sensorInStep
  simp only
  (repeat' split)
  · exact hmarked.tryStep
  · exact h
  · exact h.endStep.stopCase _ _

theorem Sound.sensorAlone (h : Sound p d) (before : Nat) : Sound p (sensorAlone before d) := by
  unfold Machine.sensorAlone
  split
  · exact h.stopCase _ _
  · exact h

theorem Sound.sensorChange (h : Sound p d) (before : Nat) : Sound p (sensorChange before d) := by
  unfold Machine.sensorChange
  simp only
  (repeat' split)
  · exact h.judgeSettle.sensorInStep _
  · exact h.judgeSettle.sensorAlone _
  · exact h

theorem Sound.stepRunsOut (h : Sound p d) (st : CaseStep) : Sound p (stepRunsOut st d) := by
  have harmed : ¬(d.stc.state ≠ .armed ∨ d.stc.activity ≠ .active) → d.stc.state ≠ .run := by
    rintro hn hrun
    simp [hrun] at hn
  unfold Machine.stepRunsOut caseJam
  split
  next => exact h.endStep
  next hn =>
    (repeat' split)
    · exact h.endStep.stopCase _ _
    · exact h.outside (by simpa using harmed hn) (by simp)
    · exact h.outside (by simpa using harmed hn) (by simp)

theorem Sound.stepTimeout (h : Sound p d) : Sound p (stepTimeout d) := by
  unfold Machine.stepTimeout
  (repeat' split)
  · exact h.keeps rfl rfl rfl id id id
  · exact h.stepRunsOut _
  · exact h
  · exact h

theorem Sound.settleRunsOut (h : Sound p d) : Sound p (settleRunsOut d) := by
  unfold Machine.settleRunsOut
  split
  · exact h.keeps (by simp) (by simp) (by simp) (by simp) (by simp) (by simp)
  · exact h

/-! ### The notices' owners -/

theorem Sound.takeNotice (h : Sound p d) {kind : NoticeKind} {lenOk : Bool} {src : Addr} {q : Payload}
    {owner : Station → Station} (howner : noticeTaken d kind lenOk src q = true → Sound p (owner d)) :
    Sound p (takeNotice kind lenOk src q owner d) := by
  by_cases htaken : noticeTaken d kind lenOk src q = true
  · rw [takeNotice_of_taken htaken]
    exact howner htaken
  · unfold Machine.takeNotice
    (repeat' split)
    · exact h
    · exact h.refuse _ _
    · exact h.refuse _ _
    · simp_all [noticeTaken]
    · simp_all [noticeTaken]
    · exact h
    · exact h.refuse _ _
    · exact h

theorem Sound.sectionHeld (h : Sound p d) : Sound p (sectionHeld d) := by
  unfold Machine.sectionHeld
  split
  · exact h.outside (by simp [enterReady, enterState_state]) (by simp [enterReady])
  · exact h

theorem Sound.holdSection {α : Type} {check : Except RefusalReason α} {hold : α → Station → Station} (h : Sound p d)
    (hhold : ∀ a, Sound p (hold a d)) : Sound p (holdSection check hold d) := by
  unfold Machine.holdSection
  split
  · exact (hhold _).sectionHeld
  · exact h.refuse _ _

theorem Sound.rosterOwner (h : Sound p d) (q : Payload) : Sound p (rosterOwner q d) :=
  h.holdSection fun _ => h.keeps rfl rfl rfl id id id

theorem Sound.timingOwner (h : Sound p d) (q : Payload) : Sound p (timingOwner q d) :=
  h.holdSection fun _ => h.keeps rfl rfl rfl id id id

theorem Sound.motionOwner (h : Sound p d) (q : Payload) : Sound p (motionOwner q d) :=
  h.holdSection fun m =>
    have hset : Sound p (d.setStc { d.stc with motion := some m }) := h.keeps rfl rfl rfl id id id
    Sound.same (e := holdMotion m d) hset (by simp [holdMotion])

theorem Sound.threadOwner (h : Sound p d) (q : Payload) : Sound p (threadOwner q d) :=
  h.holdSection fun _ => h.keeps rfl rfl rfl id id id

theorem Sound.stopOwner (h : Sound p d) : Sound p (stopOwner d) := by
  unfold Machine.stopOwner
  split
  · exact h.same (by simp)
  · exact h.haltCause _

theorem Sound.startOwner (h : Sound p d) : Sound p (startOwner d) := by
  unfold Machine.startOwner
  split
  · exact h.refuse _ _
  · exact h.enterArmed _

/-- A Head Select reaches its owner outside RUN alone (R45). -/
theorem state_of_headSelect_taken {lenOk : Bool} {src : Addr} {q : Payload}
    (h : noticeTaken d .headSelect lenOk src q = true) : d.stc.state ≠ .run := by
  intro hrun
  have hacc := acceptance_of_taken h
  simp only [acceptance, acceptTable, hrun, ite_self] at hacc
  rcases hacc with hacc | hacc <;> cases hacc

theorem Sound.headSelectOwner (h : Sound p d) (hstate : d.stc.state ≠ .run) (q : Payload) :
    Sound p (headSelectOwner q d) := by
  have hactivity : ∀ a, Sound p (setActivity a d) := by
    intro a
    have hset : Sound p (d.setStc { d.stc with activity := a }) := h.outside hstate ⟨rfl, rfl⟩
    unfold setActivity
    simp only
    (repeat' split)
    · exact h
    · exact hset.headCheck
    · exact hset.caseLeaves.headCheck
  exact hactivity _

theorem Sound.faultClearOwner (h : Sound p d) (q : Payload) : Sound p (faultClearOwner q d) := by
  have hremoved : Sound p (removeOldest d) := by
    unfold removeOldest
    split
    · exact h
    · exact h.keeps rfl rfl rfl id id id
  unfold Machine.faultClearOwner
  split
  · exact h.refuse _ _
  · exact hremoved.same (by simp)

theorem Sound.needleMapOwner (h : Sound p d) (q : Payload) : Sound p (needleMapOwner q d) := by
  have hset : Sound p (d.setNcc { d.ncc with map := mapOf q }) := h.keeps rfl rfl rfl id id id
  unfold Machine.needleMapOwner
  split
  · exact h.refuse _ _
  · exact hset.judgeSettle

theorem Sound.designOpenOwner (h : Sound p d) (q : Payload) : Sound p (designOpenOwner q d) := by
  have hopens : ∀ hd : Header, Sound p (openDesign hd d) := by
    intro hd
    unfold openDesign
    simp only
    refine Sound.headCheck (h.outside ?_ ?_)
    · simp [openStc, enterState_state]
    · simp
  unfold Machine.designOpenOwner
  split
  · exact hopens _
  · exact h.refuse _ _

theorem Sound.designPageOwner (h : Sound p d) (q : Payload) : Sound p (designPageOwner q d) := by
  unfold Machine.designPageOwner takePage checkPage
  (repeat' split)
  · exact h.refuse _ _
  · exact h
  · exact h.same (by simp)
  · exact h
  · exact (h.same (by simp)).recomputeFinding
  · exact h.refuse _ _
  · exact h.refuse _ _
  · exact h

/-! ### The drive -/

theorem Sound.driveReadyFall (h : Sound p d) : Sound p (driveReadyFall d) := by
  have hfalls : ∀ e, Sound p e → Sound p (driveFalls e) := by
    intro e he
    unfold driveFalls
    split
    · exact he.fault _
    · exact he.fault _
    · exact he.fault _
    all_goals exact he
  unfold Machine.driveReadyFall
  simp only
  split
  · exact hfalls _ (h.same (by simp))
  · exact h.same (by simp)

theorem Sound.creepRunsOut (h : Sound p d) : Sound p (creepRunsOut d) := by
  have hstop : Sound p (governorStop d) := h.same (by simp)
  unfold Machine.creepRunsOut creepEnds
  simp only
  (repeat' split)
  · exact h.same (by simp)
  · exact hstop.creepOffTop
  · exact hstop.same (by simp)
  · exact h

/-! ### The Pantograph Go -/

theorem Sound.goOwner (h : Sound p d) {v : GoVariant} {q : Payload} {act : Station → Station} (hact : Sound p (act d)) :
    Sound p (goOwner v q act d) := by
  unfold Machine.goOwner
  split
  · exact h.refuse _ _
  · exact hact

theorem Sound.takeGo (h : Sound p d) {v : GoVariant} {src : Addr} {q : Payload} {act : Station → Station}
    (hact : Sound p (act d)) : Sound p (takeGo v src q act d) :=
  h.takeNotice fun _ => h.goOwner hact

theorem Sound.setOrigin (h : Sound p d) : Sound p (setOrigin d) := by
  unfold Machine.setOrigin
  exact (h.same (by simp)).recomputeFinding

theorem Sound.homeFail (h : Sound p d) (a : Axis) (x : HomeAxis) : Sound p (homeFail a x d) := by
  unfold Machine.homeFail
  split
  · exact h.fault _
  · exact h

theorem Sound.homeEnd (h : Sound p d) (x y : HomeAxis) : Sound p (homeEnd x y d) := by
  unfold Machine.homeEnd
  simp only
  split
  · exact ((h.same (by simp)).homeFail _ _).homeFail _ _
  · exact h.same (by simp)

theorem Sound.homeEvent (h : Sound p d) (a : Axis) (f : HomeAxis → HomeAxis) : Sound p (homeEvent a f d) := by
  unfold Machine.homeEvent
  (repeat' split)
  · exact h
  · exact h.homeEnd _ _
  · exact h
  · exact h.homeEnd _ _
  · exact h

/-! ### Entry to JOINING -/

theorem toJoining_state (clash : Bool) (d : Station) : (toJoining clash d).stc.state = .joining := by
  simp [toJoining, joinStc]

theorem toJoining_seen (clash : Bool) (d : Station) : (toJoining clash d).gtu.seenHigh = false := by
  simp [toJoining, GateUnit.reset]

/-- In JOINING, with the line seen low, neither law asks for anything. -/
theorem Sound.joining (hstate : d.stc.state = .joining) (hseen : d.gtu.seenHigh = false) : Sound p d :=
  ⟨fun hs => absurd (hs.symm.trans hseen) nofun, fun _ _ _ hr => absurd (hstate.symm.trans hr) nofun⟩

theorem Sound.stationReset (d : Station) : Sound p (stationReset d) := by
  refine Sound.joining ?_ ?_ <;> simp [Machine.stationReset, toJoining_state, toJoining_seen]

theorem Sound.addressClash (d : Station) : Sound p (addressClash d) := by
  have hjoined : Sound p (toJoining true d) := Sound.joining (toJoining_state _ _) (toJoining_seen _ _)
  have hrecord := hjoined.addRecord (plainRecord .addressClash d.stc.addr d)
  unfold Machine.addressClash
  exact hrecord.keeps rfl rfl rfl id id id

/-! ### The peers -/

theorem Sound.copyStitch (h : Sound p d) (k : Walk) (n : Nat) : Sound p (copyStitch k n d) := by
  unfold Machine.copyStitch
  exact (h.same (by simp)).afterStitchChange

theorem Sound.handActivity (h : Sound p d) (x : PeerEntry) : Sound p (handActivity x d) := by
  unfold Machine.handActivity
  split
  · exact h.headCheck
  · exact h

theorem Sound.handFrameStitch (h : Sound p d) (x : PeerEntry) (i : StatusItems) : Sound p (handFrameStitch x i d) := by
  unfold Machine.handFrameStitch headWalkEnd
  (repeat' split)
  · exact h.copyStitch _ _
  · exact h.same (by simp)
  · exact h
  · exact h

theorem Sound.judgePeerHalt (h : Sound p d) (i : StatusItems) : Sound p (judgePeerHalt i d) := by
  unfold Machine.judgePeerHalt
  split
  · exact h.haltCause _
  · exact h

theorem Sound.judgeIndex (h : Sound p d) (a : Nat) (i : StatusItems) : Sound p (judgeIndex a i d) := by
  unfold Machine.judgeIndex
  simp only
  split
  · exact (h.same (by simp)).fault _
  · exact h.same (by simp)

theorem Sound.hearPeer (h : Sound p d) (x : PeerEntry) (i : StatusItems) : Sound p (hearPeer x i d) := by
  have hheard : Sound p (setPeer x.addr (hear d.now i) d) := h.same (by simp)
  have hrest : Sound p (handPeerRest i (Machine.handFrameStitch x i (Machine.handActivity x (setPeer x.addr (hear d.now i) d)))) :=
    ((hheard.handActivity x).handFrameStitch x i).same (by simp)
  exact (hrest.judgePeerHalt i).judgeIndex x.addr i

theorem Sound.takeStatus (h : Sound p d) (src : Addr) (q : Payload) : Sound p (takeStatus src q d) := by
  unfold Machine.takeStatus
  (repeat' split)
  · exact h
  · exact Sound.addressClash d
  · exact h.hearPeer _ _
  · exact h

theorem Sound.losePeer (h : Sound p d) (x : PeerEntry) : Sound p (losePeer x d) := by
  unfold Machine.losePeer
  simp only
  split
  · exact (h.same (by simp)).fault _
  · exact (h.same (by simp)).fault _
  · exact h.same (by simp)
  all_goals exact h.same (by simp)

theorem Sound.ageRunsOut (h : Sound p d) (a : Addr) : Sound p (ageRunsOut a d) := by
  unfold Machine.ageRunsOut
  (repeat' split)
  · exact h
  · exact h.losePeer _
  · exact h

/-! ### The station's timers -/

theorem Sound.armRunsOut (h : Sound p d) : Sound p (armRunsOut d) := by
  unfold Machine.armRunsOut
  split
  · exact h.returnToFormer
  · exact h

theorem Sound.joinRunsOut (h : Sound p d) : Sound p (joinRunsOut d) := by
  have hset : Sound p ((d.setStc { d.stc with roster := none, timing := none, motion := none, thread := none }).setPrt []) :=
    h.keeps rfl rfl rfl id id id
  have hdiscard : Sound p (discardSections d) := Sound.same (e := judgeField _) hset (by simp)
  unfold Machine.joinRunsOut
  split
  · exact (hdiscard.fault _).keeps rfl rfl rfl id id id
  · exact h

end Sys2Proof.StitchCycle

/-! ## The gate outside RUN, and the case in RUN: every step -/

namespace Sys2Proof.StitchCycle

open Sys2Proof Sys2Proof.Machine

variable {p : Prop} {d : Station}

/-- Each command's effect leaves a low drive seen low and no case stepping in RUN. -/
theorem Sound.effect (h : Sound p d) (hgate : GateLaw d) (c : Instr) : Sound p (effect c d) := by
  cases c with
  | resetNLow => exact h
  | hardReset => exact h
  | noticeDiscarded => exact h
  | encoderForwardCount t => exact h.countForward _
  | encoderReverseCount t => exact h.countReverse _
  | indexPulse => exact h.takeIndex
  | restReached => exact h.comeToRest
  | seenLevelChange high => exact h.seeLevel hgate high
  | stallTimeout => exact h.stall
  | armTimeout => exact h.armRunsOut
  | joinTimeout => exact h.joinRunsOut
  | stop => exact h.takeNotice fun _ => h.stopOwner
  | stationReset => exact h.takeNotice fun _ => Sound.stationReset d
  | start => exact h.takeNotice fun _ => h.startOwner
  | back => exact h.takeNotice fun _ => h.backOwner _
  | forward => exact h.takeNotice fun _ => h.forwardOwner _
  | headSelect => exact h.takeNotice fun htaken => h.headSelectOwner (state_of_headSelect_taken htaken) _
  | faultClear => exact h.takeNotice fun _ => h.faultClearOwner _
  | pantographGoHome src q x y =>
    have hpins : Sound p (d.setPins { d.pins with xHome := x, yHome := y }) := h.same (by simp)
    exact hpins.takeGo (hpins.same (by simp))
  | pantographGoPark => exact h.takeGo (h.same (by simp))
  | pantographGoReturn => exact h.takeGo (h.same (by simp))
  | pantographGoAbsolute => exact h.takeGo (h.same (by simp))
  | pantographGoSetOrigin => exact h.takeGo h.setOrigin
  | pantographGoTrace => exact h.takeGo (h.same (by simp))
  | needleMap => exact h.takeNotice fun _ => h.needleMapOwner _
  | configureRoster => exact h.takeNotice fun _ => h.rosterOwner _
  | configureTiming => exact h.takeNotice fun _ => h.timingOwner _
  | configureMotion => exact h.takeNotice fun _ => h.motionOwner _
  | configureThread => exact h.takeNotice fun _ => h.threadOwner _
  | designOpen => exact h.takeNotice fun _ => h.designOpenOwner _
  | designPage => exact h.takeNotice fun _ => h.designPageOwner _
  | statusReceived => exact h.takeStatus _ _
  | peerLost => exact h.ageRunsOut _
  | statusInterval => exact Sound.same (e := causeStatus d) h (by simp)
  | statusAttempt => exact Sound.same (e := attemptStatus d) h (by simp)
  | lostArbitration => exact Sound.same (e := yieldLine d) h (by simp)
  | statusSent => exact Sound.same (e := statusIsSent d) h (by simp)
  | moveComplete => exact h.completeMove
  | homeSwitchClose a => exact Sound.homeEvent (d := d.setPins (closeSwitch a d.pins)) (h.same (by simp)) _ _
  | homeBackoffDone => exact h.homeEvent _ _
  | homeSeekLimit => exact h.homeEvent _ _
  | driveReadyFall => exact h.driveReadyFall
  | driveReadyRise => exact Sound.same (e := driveReadyRise d) h (by simp)
  | creepTimeout => exact h.creepRunsOut
  | caseSensorChange code latch =>
    exact Sound.sensorChange (d := d.setPins (casePins code latch d.pins)) (h.same (by simp)) _
  | stepTimeout => exact h.stepTimeout
  | settleTimerExpiry => exact h.settleRunsOut
  | threadPulse => exact Sound.same (e := countPulse d) h (by simp)

/-- The gate closes a command released only in ARMED while ready, in RUN, and in HALTING with a cause (R10, R12, R13). -/
theorem gateLaw_finish (b a : Station) (h : SeenLaw a) : GateLaw (finish b a) := by
  have hgate : (finish b a).gtu = gateAfter a := by rw [finish_eq]
  have hstate : (finish b a).stc = a.stc := by rw [finish_eq]
  have hready : ready (finish b a) = ready a := by rw [finish_eq]; rfl
  unfold GateLaw
  rw [hgate, hstate, hready]
  refine ⟨fun hdrive => ?_, gateAfter_seen h⟩
  by_cases hwaits : gateWaits a = none
  · have hlevel : wantedLevel a = .released := (if_pos hwaits).symm.trans hdrive
    unfold wantedLevel at hlevel
    cases hs : a.stc.state with
    | armed => simpa [hs] using hlevel
    | run => exact .inr (.inl rfl)
    | halting =>
      have hspan : a.gtu.commitSpan = true := by
        simp [hs] at hlevel
        exact hlevel.1
      exact .inr (.inr ⟨rfl, .inl hspan⟩)
    | _ => simp [hs] at hlevel
  · have hact : a.stc.state = .run ∨ a.stc.state = .halting := by
      by_contra hno
      exact hwaits (gateWaits_of_not_act (by simpa [guardsAct] using hno))
    rcases hact with hrun | hhalting
    · exact .inr (.inl hrun)
    · exact .inr (.inr ⟨hhalting, .inr (Option.isSome_iff_ne_none.2 hwaits)⟩)

/-- Every step keeps the two laws, the second if the first holds. -/
theorem step_gateLaw_caseLaw {s t : State} (hgate : GateLaw s.dev) (hstep : step s = .next t) :
    GateLaw t.dev ∧ (CaseLaw s.dev → CaseLaw t.dev) := by
  rcases step_cases hstep with ⟨v, he⟩ | ⟨q, he⟩ | he | ⟨a, x, y, he⟩ | ⟨c, he⟩
  · rw [he]
    exact ⟨hgate, id⟩
  · rw [he]
    exact ⟨hgate, id⟩
  · rw [he]
    exact ⟨⟨nofun, nofun⟩, fun _ _ _ _ => rfl⟩
  · rw [he]
    exact ⟨⟨nofun, nofun⟩, fun _ _ _ _ => rfl⟩
  · have hsound : Sound (CaseLaw s.dev) (StitchCycle.effect c s.dev) := Sound.effect ⟨hgate.2, id⟩ hgate c
    have hcase : CaseLaw (finish s.dev (StitchCycle.effect c s.dev)) ↔ CaseLaw (StitchCycle.effect c s.dev) := by
      rw [finish_eq]
      rfl
    rw [he, hcase]
    exact ⟨gateLaw_finish _ _ hsound.seen, hsound.case⟩

/-- Settles O9: each effect leaves a low drive seen low and no case stepping in RUN, and closing the command sets the gate. -/
theorem gateHeldLowOutsideRun : Obligations.GateHeldLowOutsideRun :=
  ⟨fun _ _ hgate hstep => (step_gateLaw_caseLaw hgate hstep).1,
    fun _ _ hgate hcase hstep => (step_gateLaw_caseLaw hgate hstep).2 hcase⟩

end Sys2Proof.StitchCycle

/-! ## The shaft comes to rest: what each block does -/

namespace Sys2Proof.StitchCycle

open Sys2Proof Sys2Proof.Machine

/-! ### The pending move and the first creep: each begins once, whatever else is written -/

theorem pendingStarted_congr {d e : Station} (hpnc : e.pnc = d.pnc) (hnow : e.now = d.now)
    (hmotion : motion e = motion d) : pendingStarted e = e.setPnc (pendingStarted d).pnc := by
  have hout : ∀ q, outsideField e q = outsideField d q := fun q => by rw [outsideField, outsideField, hmotion]
  unfold pendingStarted
  rw [hpnc]
  cases hm : d.pnc.move with
  | some m =>
    cases d.pnc.pending <;> rw [← hpnc] <;> rfl
  | none =>
    cases hp : d.pnc.pending with
    | none =>
      rw [← hpnc]
      rfl
    | some t =>
      simp only [hout]
      split
      · rfl
      · rw [← hnow]
        rfl

theorem pendingStarted_none (d : Station) :
    (pendingStarted d).pnc.move ≠ none ∨ (pendingStarted d).pnc.pending = none := by
  unfold pendingStarted
  cases hm : d.pnc.move with
  | some m => cases d.pnc.pending <;> exact .inl (by simp [hm])
  | none =>
    cases hp : d.pnc.pending with
    | none => exact .inr hp
    | some t =>
      simp only
      split
      · exact .inr rfl
      · exact .inl nofun

theorem pendingStarted_of_none {d : Station} (h : d.pnc.move ≠ none ∨ d.pnc.pending = none) : pendingStarted d = d := by
  unfold pendingStarted
  split
  next hm hp =>
    rcases h with h | h
    · exact absurd hm h
    · rw [hp] at h
      cases h
  next => rfl

/-- The deferred flag is no matter of the pending move. -/
theorem pendingStarted_undeferred (d : Station) :
    pendingStarted (d.setPnc { d.pnc with deferred := false }) =
      (pendingStarted d).setPnc { (pendingStarted d).pnc with deferred := false } := by
  unfold pendingStarted
  simp only [Station.setPnc_pnc]
  split
  · split <;> rfl
  · rfl

theorem crept_setPnc (p : Pantograph) (d : Station) : crept (d.setPnc p) = (crept d).setPnc p := by
  have hdue : CreepDue (d.setPnc p) ↔ CreepDue d := Iff.rfl
  unfold crept
  by_cases h : CreepDue d
  · rw [if_pos h, if_pos (hdue.2 h)]
    rfl
  · rw [if_neg h, if_neg (mt hdue.1 h)]

theorem crept_recorded (fr : FaultRecord) (d : Station) : crept (recorded fr d) = recorded fr (crept d) := by
  have hdue : CreepDue (recorded fr d) ↔ CreepDue d := Iff.rfl
  unfold crept
  by_cases h : CreepDue d
  · rw [if_pos h, if_pos (hdue.2 h)]
    rfl
  · rw [if_neg h, if_neg (mt hdue.1 h)]

/-- A pending move that starts behind a first creep. -/
theorem pendingStarted_crept (d : Station) : pendingStarted (crept d) = crept (pendingStarted d) := by
  have hcongr : pendingStarted (crept d) = (crept d).setPnc (pendingStarted d).pnc :=
    pendingStarted_congr (by unfold crept; split <;> rfl) (by unfold crept; split <;> rfl) (by rw [motion, motion, crept_stc])
  rw [hcongr, ← crept_setPnc, pendingStarted_frame d]
  rfl

theorem crept_of_onTop {d : Station} (h : d.sht.onTop = true) : crept d = d :=
  crept_of_not_due fun ⟨_, _, _, _, hoff, _⟩ => by simp [h] at hoff

/-! ### The blocks at rest -/

theorem comeToRest_turning {d : Station} (h : d.sht.atRest = false) :
    comeToRest d = commitAtRest (governorAtRest d.sgv.reposition.isSome (pantographAtRest (caseAtRest
      (if d.stc.state = .halting then leaveHalting (rested d) else rested d)))) := by
  rw [comeToRest, if_neg (by simp [h])]
  rfl

theorem caseAtRest_of_not_armed {d : Station} (h : d.stc.state ≠ .armed) : caseAtRest d = d := by
  rw [caseAtRest, if_neg]
  simp [h]

theorem stepDue_iff (d : Station) : stepDue d = true ↔ StepDue d := by
  simp only [stepDue, StepDue, Bool.and_eq_true, decide_eq_true_eq, Option.isNone_iff_eq_none, and_assoc]

theorem tryStep_of_not_due {d : Station} (h : ¬StepDue d) : tryStep d = d := by
  rw [tryStep, if_neg (mt (stepDue_iff d).1 h)]

theorem caseAtRest_idle {d : Station} (h : CaseIdle d) : caseAtRest d = d := by
  unfold caseAtRest
  split
  next hcond =>
    simp only [Bool.and_eq_true, decide_eq_true_eq] at hcond
    obtain ⟨⟨⟨hhead, -⟩, hactive⟩, htop⟩ := hcond
    rcases h with h | h | h | h | ⟨hnone, h⟩
    · simp [hhead] at h
    · exact absurd hactive h
    · simp [htop] at h
    · cases hstep : d.ncc.step with
      | none => simp [hstep] at h
      | some k =>
        have htimer : k.timer.isNone = false := by
          rw [hstep, Option.any_some] at h
          cases ht : k.timer <;> simp_all
        simp [htimer]
    · rw [hnone]
      refine tryStep_of_not_due fun ⟨_, _, _, hstopped, _, hwanted, hservice, hcurrent, hother⟩ => ?_
      rcases h with h | h | h | h | h
      · exact h hstopped
      · exact hwanted h
      · simp [hservice] at h
      · exact hcurrent h
      · exact hother h
  next => rfl

theorem caseAtRest_steps {d : Station} (h : StepDue d) (htop : restOnTop d = true) : caseAtRest d = steps d := by
  obtain ⟨hhead, harmed, hactive, -, hstep, -⟩ := id h
  rw [caseAtRest, if_pos (by simp [hhead, harmed, hactive, htop]), hstep]
  simp only
  rw [tryStep, if_pos ((stepDue_iff d).2 h), if_pos htop]
  rfl

theorem caseAtRest_retries {d : Station} {k : CaseStep} (harmed : d.stc.state = .armed) (hhead : d.stc.headRole = true)
    (hactive : d.stc.activity = .active) (hstep : d.ncc.step = some k) (htimer : k.timer = none)
    (htop : restOnTop d = true) : caseAtRest d = retryStep k d := by
  rw [caseAtRest, if_pos (by simp [hhead, harmed, hactive, htop]), hstep]
  simp only
  rw [if_pos (by simp [htimer])]

theorem pantographAtRest_run {d : Station} (h : d.stc.state = .run) (hdeferred : d.pnc.deferred = false) :
    pantographAtRest d = d := by
  have hw : writeDeferred d = d := by rw [writeDeferred, if_neg (by simp [hdeferred])]
  rw [pantographAtRest, hw]
  exact if_pos h

theorem pantographAtRest_starts {d : Station} (h : d.stc.state ≠ .run) (hdeferred : d.pnc.deferred = false) :
    pantographAtRest d = pendingStarted d := by
  have hw : writeDeferred d = d := by rw [writeDeferred, if_neg (by simp [hdeferred])]
  rw [pantographAtRest, hw, ← startPending_eq]
  exact if_neg h

/-- A deferred FIELD written at rest: the record acts, and a pending move starts unless the station is still in RUN (R95, R98). -/
theorem pantographAtRest_deferred {d : Station} {a : Axis} (hdeferred : d.pnc.deferred = true)
    (hfinding : d.pnc.finding = some a)
    (h : (fault (fieldFault a d) (d.setPnc { d.pnc with deferred := false })).stc.state ≠ .run) :
    pantographAtRest d = pendingStarted (fault (fieldFault a d) (d.setPnc { d.pnc with deferred := false })) := by
  have hw : writeDeferred d = fault (fieldFault a d) (d.setPnc { d.pnc with deferred := false }) := by
    rw [writeDeferred, if_pos hdeferred, hfinding]
    rfl
  rw [pantographAtRest, hw, ← startPending_eq]
  exact if_neg h

theorem governorAtRest_still {d : Station}
    (h : d.stc.state = .run ∨ d.stc.state = .joining ∨ d.stc.state = .ready) : governorAtRest false d = d := by
  rw [governorAtRest]
  rcases h with h | h | h <;> simp [h]

theorem governorAtRest_creeps {d : Station}
    (h : d.stc.state = .armed ∨ d.stc.state = .halted ∨ d.stc.state = .done) : governorAtRest false d = crept d := by
  rw [governorAtRest, ← tryReposition_crept]
  cases hframe : d.stc.frameRole with
  | false =>
    have hnot : tryReposition d = d := by
      rw [tryReposition_crept]
      exact crept_of_not_due fun ⟨hf, _⟩ => by simp [hframe] at hf
    simp [hnot]
  | true => rcases h with h | h | h <;> simp [h]

/-! ### The rest commit at rest -/

theorem commitAtRest_of_not_armed {d : Station} (h : d.stc.state ≠ .armed) : commitAtRest d = d := if_neg h

theorem gateWaits_armed {d : Station} (h : d.stc.state = .armed) : gateWaits d = none :=
  gateWaits_of_not_act (by simp [guardsAct, h])

/-- The gate of a station in ARMED that has taken the level it is due takes no other (R10 to R13). -/
theorem gateAfter_twice {d : Station} (h : d.stc.state = .armed) : gateAfter (d.setGtu (gateAfter d)) = gateAfter d := by
  have hwaits := gateWaits_armed h
  have hwaits' : gateWaits (d.setGtu (gateAfter d)) = none := gateWaits_armed h
  have hlevel : wantedLevel (d.setGtu (gateAfter d)) = wantedLevel d := by
    rw [wantedLevel, wantedLevel, Station.setGtu_stc, h]
    rfl
  have hdrive : (gateAfter d).drive = wantedLevel d := if_pos hwaits
  have hpull : ¬PullsLow (d.setGtu (gateAfter d)) := by
    rintro ⟨hlow, hrel, -⟩
    rw [hlevel] at hlow
    rw [Station.setGtu_gtu, hdrive, hlow] at hrel
    cases hrel
  rw [gateAfter_of_not_pull hpull, hwaits', if_pos rfl, hlevel]
  have hw : (gateAfter d).waits = none := hwaits
  change { gateAfter d with wanted := (gateAfter d).wanted, waits := none, drive := wantedLevel d } = gateAfter d
  rw [← hdrive, ← hw]

/-- A gate that has taken its level at rest is closed with nothing more. -/
theorem closed_driveGate {s : State} {d : Station} (h : d.stc.state = .armed) : closed s (driveGate d) = closed s d := by
  have hsli : (causeStatus (d.setGtu (gateAfter d))).sli = (causeStatus d).sli := causeStatus_sli_congr rfl rfl rfl
  have hcauses : statusCauses (d.setGtu (gateAfter d)) = statusCauses d := rfl
  have hhold : (holdIfUnfit (d.setGtu (gateAfter d))).hsc = (holdIfUnfit d).hsc := by
    rw [holdIfUnfit_eq, holdIfUnfit_eq, withholdPenetration_eq, withholdPenetration_eq]
    have hfit : Fit (d.setGtu (gateAfter d)) ↔ Fit d := Iff.rfl
    by_cases hf : Fit d
    · rw [if_pos hf, if_pos (hfit.2 hf)]
      rfl
    · rw [if_neg hf, if_neg (mt hfit.1 hf)]
      rfl
  rw [driveGate_eq, closed, closed, finish_eq, finish_eq, gateAfter_twice h, hsli, hcauses, hhold]
  rfl

/-- With no rest commit to take, the rest ends with the gate's level alone (R18). -/
theorem closed_commitAtRest_of_not {s : State} {d : Station} (h : d.stc.state = .armed)
    (hno : restOnTop d = false ∨ d.gtu.seenHigh = false ∨ (d.gtu.drive = .released ∧ ready d = false)) :
    closed s (commitAtRest d) = closed s d := by
  have htry : tryRestCommit (driveGate d) = driveGate d := by
    refine tryRestCommit_of_not ?_
    rw [driveGate_eq]
    rcases hno with htop | hseen | ⟨hdrive, hready⟩
    · exact .inr (.inr htop)
    · refine .inr (.inl ?_)
      change (if PullsLow d then false else d.gtu.seenHigh) = false
      rw [hseen, ite_self]
    · have hpull : PullsLow d := ⟨by rw [wantedLevel, h]; simp [hready], hdrive, gateWaits_armed h⟩
      exact .inr (.inl (if_pos hpull))
  rw [commitAtRest, if_pos h, htry, closed_driveGate h]

/-- The rest commit at rest on top, of a station that is ready with the line seen high (R18, log entry 46). -/
theorem commitAtRest_commits {d : Station} (h : d.stc.state = .armed) (htop : restOnTop d = true) (hruns : RunsOn d)
    (hseen : d.gtu.seenHigh = true) (hdrive : d.gtu.drive = .released) (hready : ready d = true) :
    commitAtRest d = restCommitted { d with gtu := { d.gtu with wanted := .released, waits := none } } := by
  have hlevel : wantedLevel d = .released := by rw [wantedLevel, h]; simp [hready]
  have hgate : driveGate d = { d with gtu := { d.gtu with wanted := .released, waits := none } } := by
    rw [driveGate_eq, gateAfter_of_not_pull (by rintro ⟨hlow, -⟩; rw [hlevel] at hlow; cases hlow), gateWaits_armed h,
      if_pos rfl, hlevel, ← hdrive]
    rfl
  rw [commitAtRest, if_pos h, hgate, tryRestCommit_of_armed (by exact h) (by exact hseen) (by exact htop),
    restCommit_of_runsOn (by exact h) (by exact hruns)]

/-! ### Entry to ARMED at a rest -/

/-- A station that has entered ARMED, before its blocks judge it (R32). -/
def armedEntry (former : Former) (d : Station) : Station :=
  { d with
    stc := { d.stc with state := .armed, former := former, haltReason := none, armTimer := some d.now }
    sgv := { d.sgv with mode := .stopped, demand := 0, creepTimer := none, givenUp := false }
    sli := (causeStatus d).sli }

theorem enterArmed_steps {d : Station} (former : Former) (h : d.stc.state ≠ .armed) (hnone : d.sgv.reposition = none) :
    enterArmed former d = whileArmed armedHeadCheck (whileArmed armDrive (whileArmed armField (whileArmed armCase
      (whileArmed armPeers (armedEntry former d))))) := by
  have henter := enterState_setStc (st := .armed) (d := d)
    (c := { d.stc with former := former, haltReason := none, armTimer := some d.now }) h rfl rfl
  have hentry : ∀ e : Station, e = { d with
      stc := { d.stc with state := .armed, former := former, haltReason := none, armTimer := some d.now }
      sli := (causeStatus d).sli } →
      (let f := e.setSgv { e.sgv with givenUp := false }
      if f.sgv.reposition.isSome then f else governorStop f) = armedEntry former d := by
    rintro e rfl
    exact if_neg (by simp [hnone])
  exact congrArg (fun e => whileArmed armedHeadCheck (whileArmed armDrive (whileArmed armField (whileArmed armCase
    (whileArmed armPeers e))))) (hentry _ henter)

theorem whileArmed_of_armed {f : Station → Station} {d : Station} (h : d.stc.state = .armed) : whileArmed f d = f d := if_pos h

theorem whileArmed_of_not {f : Station → Station} {d : Station} (h : d.stc.state ≠ .armed) : whileArmed f d = d := if_neg h

theorem armPeers_of_none_lost {d : Station} (h : ∀ e ∈ d.prt, e.lost = false) : armPeers d = d := by
  have hnone : lowestLost d = none := by
    have hfilter : d.prt.filter (·.lost) = [] := List.filter_eq_nil_iff.2 fun e he => by simp [h e he]
    rw [lowestLost, hfilter]
    rfl
  rw [armPeers, hnone]

theorem armCase_quiet {d : Station}
    (h : d.stc.headRole = true → d.stc.activity = .active →
      wantedNeedle d ≠ 0 ∧ inService d (wantedNeedle d) = true ∧ currentNeedle d = wantedNeedle d) :
    armCase d = { d with ncc :=
      if d.stc.headRole = true ∧ d.stc.activity = .active then { d.ncc with stopped := .none, stepWaiting := false } else d.ncc } := by
  unfold armCase
  by_cases hacts : d.stc.headRole = true ∧ d.stc.activity = .active
  · obtain ⟨hwanted, hservice, hcurrent⟩ := h hacts.1 hacts.2
    have hstep : tryStep (d.setNcc { d.ncc with stopped := .none, stepWaiting := false }) =
        d.setNcc { d.ncc with stopped := .none, stepWaiting := false } :=
      tryStep_of_not_due fun ⟨_, _, _, _, _, _, _, _, hother⟩ => hother hcurrent
    have hserves : (!inService (d.setNcc { d.ncc with stopped := .none, stepWaiting := false })
        (wantedNeedle (d.setNcc { d.ncc with stopped := .none, stepWaiting := false }))) = false := by
      change (!inService d (wantedNeedle d)) = false
      rw [hservice]
      rfl
    rw [if_pos (by simp [hacts]), if_pos hacts]
    simp only
    rw [if_neg (by exact hwanted), if_neg (by rw [hserves]; exact nofun), if_neg, hstep]
    · rfl
    · intro hzero
      simp only [Bool.and_eq_true, decide_eq_true_eq] at hzero
      exact hwanted (hcurrent.symm.trans hzero.2)
  · rw [if_neg (by simpa using hacts), if_neg hacts]

theorem armDrive_quiet {d : Station} (h : d.stc.frameRole = true → d.pins.driveReady = true ∧ restOnTop d = true) :
    armDrive d = d := by
  have hcrept : crept d = d := by
    refine crept_of_not_due fun ⟨hframe, _, _, _, hoff, _⟩ => ?_
    have htop := (h hframe).2
    simp [restOnTop, hoff] at htop
  rw [armDrive, tryReposition_crept, hcrept, if_neg]
  cases hframe : d.stc.frameRole with
  | false => simp
  | true => simp [h hframe]

theorem armedHeadCheck_quiet {d : Station} (h : d.stc.frameRole = true → noActiveHead d = false) : armedHeadCheck d = d := by
  rw [armedHeadCheck, if_neg]
  cases hframe : d.stc.frameRole with
  | false => simp
  | true => simp [h hframe]

/-- The blocks that judge an entry to ARMED before the pantograph find nothing (R32, R53, R136). -/
theorem enterArmed_to_field {d : Station} (former : Former) (h : d.stc.state ≠ .armed)
    (hq : ArmsQuietly { d with pnc := { d.pnc with finding := none } }) :
    enterArmed former d = whileArmed armedHeadCheck (whileArmed armDrive (armField (arms former d))) := by
  obtain ⟨hpeers, hcase, hnone, -, -⟩ := hq
  have harmed : (armedEntry former d).stc.state = .armed := rfl
  have hpeers' : armPeers (armedEntry former d) = armedEntry former d := armPeers_of_none_lost hpeers
  have hcase' : armCase (armedEntry former d) = arms former d := armCase_quiet hcase
  rw [enterArmed_steps former h hnone, whileArmed_of_armed harmed, hpeers', whileArmed_of_armed harmed, hcase',
    whileArmed_of_armed (f := armField) rfl]

theorem enterArmed_quiet {d : Station} (former : Former) (h : d.stc.state ≠ .armed) (hq : ArmsQuietly d) :
    enterArmed former d = arms former d := by
  obtain ⟨hpeers, hcase, hnone, hfinding, hframe⟩ := id hq
  have hfield : armField (arms former d) = arms former d := by
    have hf : (arms former d).pnc.finding = none := hfinding
    rw [armField, hf]
  have hdrive : armDrive (arms former d) = arms former d :=
    armDrive_quiet fun hf => ⟨(hframe hf).1, (hframe hf).2.1⟩
  have hcheck : armedHeadCheck (arms former d) = arms former d := armedHeadCheck_quiet fun hf => (hframe hf).2.2
  rw [enterArmed_to_field former h ⟨hpeers, hcase, hnone, rfl, hframe⟩, hfield,
    whileArmed_of_armed (f := armDrive) (by rfl), hdrive, whileArmed_of_armed (f := armedHeadCheck) (by rfl), hcheck]

theorem returnsToHalted_state (d : Station) : (returnsToHalted d).stc.state = .halted := by
  change (crept _).stc.state = _
  rw [crept_stc]

theorem arms_setPnc (former : Former) (p : Pantograph) (d : Station) :
    arms former (d.setPnc p) = (arms former d).setPnc p := by
  unfold arms
  rw [causeStatus_sli_congr (s := d)] <;> rfl

/-- A finding that stands at an entry to ARMED is the FIELD record of that entry (R95, R33). -/
theorem enterArmed_finding {d : Station} {a : Axis} (h : d.stc.state ≠ .armed) (hfinding : d.pnc.finding = some a)
    (hq : ArmsQuietly { d with pnc := { d.pnc with finding := none } }) :
    enterArmed .halted d = returnsToHalted (recorded (fieldFault a d) (arms .halted (d.setPnc { d.pnc with deferred := false }))) := by
  have hfield : armField (arms .halted d) =
      returnsToHalted (recorded (fieldFault a d) (arms .halted (d.setPnc { d.pnc with deferred := false }))) := by
    have hf : (arms .halted d).pnc.finding = some a := hfinding
    rw [armField, hf]
    simp only
    rw [armedFault, if_pos (by rfl), addRecord_eq, returnToFormer_halted (by rfl) (by exact nofun), arms_setPnc]
    rfl
  have hstate : (returnsToHalted (recorded (fieldFault a d)
      (arms .halted (d.setPnc { d.pnc with deferred := false })))).stc.state ≠ .armed := by
    rw [returnsToHalted_state]
    decide
  rw [enterArmed_to_field .halted h hq, hfield, whileArmed_of_not hstate, whileArmed_of_not hstate]

end Sys2Proof.StitchCycle

/-! ## REST_REACHED -/

namespace Sys2Proof.StitchCycle

open Sys2Proof Sys2Proof.Machine

/-- The blocks that the rest is handed to once the station has left HALTING (R5, log entry 17). -/
def blocksAtRest (inSequence : Bool) (d : Station) : Station :=
  commitAtRest (governorAtRest inSequence (pantographAtRest (caseAtRest d)))

theorem comeToRest_blocks {d : Station} (h : d.sht.atRest = false) (hstate : d.stc.state ≠ .halting) :
    comeToRest d = blocksAtRest d.sgv.reposition.isSome (rested d) := by
  rw [comeToRest_turning h, if_neg hstate]
  rfl

theorem comeToRest_halting {d : Station} (h : d.sht.atRest = false) (hstate : d.stc.state = .halting) :
    comeToRest d = blocksAtRest d.sgv.reposition.isSome (leaveHalting (rested d)) := by
  rw [comeToRest_turning h, if_pos hstate]
  rfl

theorem pendingStarted_stc (d : Station) : (pendingStarted d).stc = d.stc := by rw [pendingStarted_frame]

theorem crept_pnc (d : Station) : (crept d).pnc = d.pnc := by
  unfold crept
  split <;> rfl

theorem crept_now (d : Station) : (crept d).now = d.now := by
  unfold crept
  split <;> rfl

theorem fieldFault_crept (a : Axis) (d : Station) : fieldFault a (crept d) = fieldFault a d := by
  unfold crept
  split <;> rfl

/-! ### The three ways in which the blocks take a rest without a sequence -/

theorem blocksAtRest_stopped {d : Station} (h : d.stc.state = .halted ∨ d.stc.state = .done)
    (hdeferred : d.pnc.deferred = false) : blocksAtRest false d = crept (pendingStarted d) := by
  have harmed : d.stc.state ≠ .armed := by rcases h with h | h <;> simp [h]
  have hrun : d.stc.state ≠ .run := by rcases h with h | h <;> simp [h]
  rw [blocksAtRest, caseAtRest_of_not_armed harmed, pantographAtRest_starts hrun hdeferred, governorAtRest_creeps,
    commitAtRest_of_not_armed]
  · rwa [crept_stc, pendingStarted_stc]
  · rw [pendingStarted_stc]
    exact .inr h

theorem blocksAtRest_armed {d e : Station} (hcase : caseAtRest d = e) (h : e.stc.state = .armed)
    (hdeferred : e.pnc.deferred = false) : blocksAtRest false d = commitAtRest (crept (pendingStarted e)) := by
  rw [blocksAtRest, hcase, pantographAtRest_starts (by simp [h]) hdeferred, governorAtRest_creeps]
  rw [pendingStarted_stc]
  exact .inl h

/-- A deferred FIELD written at a rest that leaves the station in HALTED or DONE (R95). -/
theorem blocksAtRest_deferred {d : Station} {a : Axis} (harmed : d.stc.state ≠ .armed) (hdeferred : d.pnc.deferred = true)
    (hfinding : d.pnc.finding = some a)
    (h : (fault (fieldFault a d) (d.setPnc { d.pnc with deferred := false })).stc.state = .halted ∨
      (fault (fieldFault a d) (d.setPnc { d.pnc with deferred := false })).stc.state = .done) :
    blocksAtRest false d = crept (pendingStarted (fault (fieldFault a d) (d.setPnc { d.pnc with deferred := false }))) := by
  rw [blocksAtRest, caseAtRest_of_not_armed harmed, pantographAtRest_deferred hdeferred hfinding, governorAtRest_creeps,
    commitAtRest_of_not_armed]
  · rw [crept_stc, pendingStarted_stc]
    rcases h with h | h <;> simp [h]
  · rw [pendingStarted_stc]
    exact .inr h
  · rcases h with h | h <;> simp [h]

/-! ### Leaving HALTING at the rest (R36) -/

/-- The station that has left HALTING at the rest, to HALTED or DONE. -/
def restedOut (d : Station) : Station :=
  { rested d with
    stc := { d.stc with state := if atDesignEnd d then .done else .halted }
    sli := (causeStatus d).sli }

theorem leaveHalting_rested {d : Station} (h : d.stc.state = .halting) (harm : ¬ArmsAgain d) :
    leaveHalting (rested d) = crept (restedOut d) := by
  have hout : leavesTo (rested d) = restedOut d := by
    unfold leavesTo restedOut
    rw [causeStatus_sli_congr (s := d) (e := rested d) rfl rfl rfl]
    rfl
  rw [leaveHalting_of_not_armsAgain (by exact h) (by exact harm), hout]

theorem restedOut_state (d : Station) : (restedOut d).stc.state = .halted ∨ (restedOut d).stc.state = .done := by
  change (if atDesignEnd d then StationState.done else .halted) = .halted ∨ (if atDesignEnd d then StationState.done else .halted) = .done
  split
  · exact .inr rfl
  · exact .inl rfl

theorem leaveHalting_arms {d : Station} (h : ArmsAgain d) : leaveHalting (rested d) = enterArmed .halted (rested d) := by
  obtain ⟨hend, hreason, hpause, hfaults⟩ := h
  have hdrop : dropDecision (rested d) = rested d := rfl
  have hend' : atDesignEnd (rested d) = false := hend
  have hcond : (decide ((rested d).stc.haltReason = some .colourStop) && !(thread (rested d)).pause &&
      (rested d).stc.faults.isEmpty) = true := by
    change (decide (d.stc.haltReason = some .colourStop) && !(thread d).pause && d.stc.faults.isEmpty) = true
    simp [hreason, hpause, hfaults]
  unfold leaveHalting
  simp only [hdrop]
  rw [if_neg (by simp [hend']), if_pos hcond]

/-! ### A sequence in progress (R124) -/

theorem closed_commitAtRest_unseen {s : State} {d : Station} (h : d.stc.state ≠ .armed ∨ d.gtu.seenHigh = false) :
    closed s (commitAtRest d) = closed s d := by
  by_cases harmed : d.stc.state = .armed
  · exact closed_commitAtRest_of_not harmed (.inr (.inl (h.resolve_left (fun hn => hn harmed))))
  · rw [commitAtRest_of_not_armed harmed]

theorem blocksAtRest_sequence {d : Station} (hcase : caseAtRest d = d) (hrun : d.stc.state ≠ .run)
    (hdeferred : d.pnc.deferred = false) (hframe : d.stc.frameRole = true) :
    blocksAtRest true d = commitAtRest (creepAtRest (pendingStarted d)) := by
  have hframe' : (pendingStarted d).stc.frameRole = true := by rw [pendingStarted_stc]; exact hframe
  rw [blocksAtRest, hcase, pantographAtRest_starts hrun hdeferred, governorAtRest, hframe']
  rfl

theorem creepAtRest_steps {d : Station} {q : Reposition} (h : d.sgv.reposition = some q) :
    creepAtRest d =
      if restOnTop d then governorEnd (governorStop d)
      else if q = .creeping then markRest (creepOffTop (governorStop d)) else creepOffTop (governorStop d) := by
  rw [creepAtRest, if_pos (by simp [h]), h]
  simp only [Option.some.injEq, decide_eq_true_eq]
  rfl

theorem creepAtRest_onTop {d : Station} {q : Reposition} (h : d.sgv.reposition = some q) (htop : restOnTop d = true) :
    creepAtRest d = { d with sgv :=
      { d.sgv with mode := .stopped, demand := 0, creepTimer := none, reposition := none, attempts := 0 } } := by
  rw [creepAtRest_steps h, if_pos htop]
  rfl

theorem creepAtRest_waits {d : Station} (h : d.sgv.reposition = some .awaitingDrive) (htop : restOnTop d = false)
    (hlow : d.pins.driveReady = false) :
    creepAtRest d = { d with sgv := { d.sgv with mode := .stopped, demand := 0, creepTimer := none } } := by
  rw [creepAtRest_steps h, if_neg (by simp [htop]), if_neg nofun, creepOffTop, if_pos ⟨h, hlow⟩]
  rfl

theorem creepAtRest_creeps {d : Station} {q : Reposition} (h : d.sgv.reposition = some q) (htop : restOnTop d = false)
    (hgoes : q ≠ .awaitingDrive ∨ d.pins.driveReady = true) (hleft : d.sgv.attempts < 2) :
    creepAtRest d = { d with sgv := { d.sgv with
      mode := .creep, demand := (motion d).nHalt, reposition := some .creeping, attempts := d.sgv.attempts + 1
      creepTimer := some d.now, restAt := if q = .creeping then some d.now else none } } := by
  have hoff : creepOffTop (governorStop d) = beginCreep (governorStop d) := by
    rw [creepOffTop, if_neg, if_neg (by exact Nat.not_le.2 hleft)]
    rintro ⟨hq, hlow⟩
    rcases hgoes with hg | hg
    · exact hg (Option.some.inj (h.symm.trans hq))
    · exact absurd (hg.symm.trans hlow) nofun
  rw [creepAtRest_steps h, if_neg (by simp [htop]), hoff]
  by_cases hq : q = .creeping
  · rw [if_pos hq, if_pos hq, markRest, if_pos (by rfl)]
    rfl
  · rw [if_neg hq, if_neg hq]
    rfl

/-- A fault record of a station whose position is given up begins no creep, and takes it out of ARMED (R33, R122). -/
theorem fault_givenUp {fr : FaultRecord} {d : Station} (hnone : d.sgv.reposition = none) (hgiven : d.sgv.givenUp = true)
    (h : d.stc.state = .armed ∨ d.stc.state = .halted ∨ d.stc.state = .done) :
    (fault fr d).sgv.reposition = none ∧ (fault fr d).stc.state ≠ .armed := by
  rcases h with h | h
  · by_cases hformer : d.stc.former = .ready
    · rw [fault_armed_ready h hformer]
      refine ⟨rfl, ?_⟩
      change StationState.ready ≠ .armed
      decide
    · rw [fault_armed_halted h hformer, returnsToHalted_state]
      refine ⟨?_, by decide⟩
      have hnot : ∀ e : Station, e.sgv.reposition = none → e.sgv.givenUp = true → (crept e).sgv.reposition = none := by
        intro e he hg
        rw [crept_of_not_due fun ⟨_, _, _, _, _, hfree⟩ => by simp [hg] at hfree, he]
      have hsgv : (if d.sgv.reposition = none then { d.sgv with mode := .stopped, demand := 0, creepTimer := none } else d.sgv) =
          ({ d.sgv with mode := .stopped, demand := 0, creepTimer := none } : Governor) := if_pos hnone
      refine hnot _ ?_ ?_
      · change (if d.sgv.reposition = none then ({ d.sgv with mode := .stopped, demand := 0, creepTimer := none } : Governor)
          else d.sgv).reposition = none
        rw [hsgv]
        exact hnone
      · change (if d.sgv.reposition = none then ({ d.sgv with mode := .stopped, demand := 0, creepTimer := none } : Governor)
          else d.sgv).givenUp = true
        rw [hsgv]
        exact hgiven
  · rw [fault_still (.inr (.inr h))]
    refine ⟨hnone, ?_⟩
    rw [recorded_state]
    rcases h with h | h <;> simp [h]

/-- The record of a second creep that ends off top (R125). -/
def offTopFault (d : Station) : FaultRecord :=
  { kind := .shaftPosition, stitch := d.ssq.stitch, needle := none, value := some (if d.sht.synced then d.sht.angle else 0) }

/-- A station that has given its position up (R125). -/
def positionGivenUp (d : Station) : Station :=
  { d with sgv := { d.sgv with
      mode := .stopped, demand := 0, creepTimer := none, reposition := none, attempts := 0, givenUp := true } }

theorem creepAtRest_givesUp {d : Station} {q : Reposition} (h : d.sgv.reposition = some q) (htop : restOnTop d = false)
    (hgoes : q ≠ .awaitingDrive ∨ d.pins.driveReady = true) (hspent : 2 ≤ d.sgv.attempts)
    (hstate : d.stc.state = .armed ∨ d.stc.state = .halted ∨ d.stc.state = .done) :
    creepAtRest d = fault (offTopFault d) (positionGivenUp d) := by
  have hoff : creepOffTop (governorStop d) = fault (offTopFault d) (positionGivenUp d) := by
    rw [creepOffTop, if_neg, if_pos (by exact hspent)]
    · rfl
    · rintro ⟨hq, hlow⟩
      rcases hgoes with hg | hg
      · exact hg (Option.some.inj (h.symm.trans hq))
      · exact absurd (hg.symm.trans hlow) nofun
  have hnone : (fault (offTopFault d) (positionGivenUp d)).sgv.reposition = none :=
    (fault_givenUp (d := positionGivenUp d) rfl rfl (by exact hstate)).1
  have hmark : markRest (fault (offTopFault d) (positionGivenUp d)) = fault (offTopFault d) (positionGivenUp d) := by
    rw [markRest, hnone, if_neg nofun]
  rw [creepAtRest_steps h, if_neg (by simp [htop]), hoff, hmark, ite_self]

end Sys2Proof.StitchCycle

/-! ## REST_REACHED by state -/

namespace Sys2Proof.StitchCycle

open Sys2Proof Sys2Proof.Machine

section

variable {d : Station}

/-- The pending move of a station at rest is the same whatever state it is in. -/
theorem pendingStarted_rested {e : Station} (hpnc : e.pnc = d.pnc) (hnow : e.now = d.now) (hmotion : motion e = motion d) :
    pendingStarted e = e.setPnc (pendingStarted (rested d)).pnc :=
  pendingStarted_congr hpnc hnow hmotion

theorem comeToRest_run (h : d.sht.atRest = false) (hnone : d.sgv.reposition = none) (hdeferred : d.pnc.deferred = false)
    (hstate : d.stc.state = .run) : comeToRest d = rested d := by
  rw [comeToRest_blocks h (by simp [hstate]), hnone, blocksAtRest, caseAtRest_of_not_armed (by simp [rested, hstate]),
    pantographAtRest_run (by exact hstate) (by exact hdeferred)]
  change commitAtRest (governorAtRest false (rested d)) = _
  rw [governorAtRest_still (.inl (by exact hstate)), commitAtRest_of_not_armed (by simp [rested, hstate])]

theorem comeToRest_unarmed (h : d.sht.atRest = false) (hnone : d.sgv.reposition = none) (hdeferred : d.pnc.deferred = false)
    (hstate : d.stc.state = .joining ∨ d.stc.state = .ready) : comeToRest d = pendingStarted (rested d) := by
  have hhalting : d.stc.state ≠ .halting := by rcases hstate with hs | hs <;> simp [hs]
  have harmed : d.stc.state ≠ .armed := by rcases hstate with hs | hs <;> simp [hs]
  have hrun : d.stc.state ≠ .run := by rcases hstate with hs | hs <;> simp [hs]
  rw [comeToRest_blocks h hhalting, hnone, blocksAtRest, caseAtRest_of_not_armed (by exact harmed),
    pantographAtRest_starts (by exact hrun) (by exact hdeferred)]
  change commitAtRest (governorAtRest false (pendingStarted (rested d))) = _
  rw [governorAtRest_still, commitAtRest_of_not_armed]
  · rw [pendingStarted_stc]
    exact harmed
  · rw [pendingStarted_stc]
    exact .inr hstate

theorem comeToRest_stopped (h : d.sht.atRest = false) (hnone : d.sgv.reposition = none) (hdeferred : d.pnc.deferred = false)
    (hstate : d.stc.state = .halted ∨ d.stc.state = .done) : comeToRest d = crept (pendingStarted (rested d)) := by
  have hhalting : d.stc.state ≠ .halting := by rcases hstate with hs | hs <;> simp [hs]
  rw [comeToRest_blocks h hhalting, hnone]
  exact blocksAtRest_stopped hstate hdeferred

/-- The station at rest in HALTED or DONE, out of HALTING: its pending move started, a Status due. -/
theorem pendingStarted_restedOut : pendingStarted (restedOut d) = { pendingStarted (rested d) with
    stc := { (pendingStarted (rested d)).stc with state := if atDesignEnd d then .done else .halted }
    sli := (causeStatus d).sli } := by
  rw [pendingStarted_rested (d := d) (e := restedOut d) rfl rfl rfl, pendingStarted_frame (rested d)]
  rfl

theorem comeToRest_leaves (h : d.sht.atRest = false) (hnone : d.sgv.reposition = none) (hdeferred : d.pnc.deferred = false)
    (hstate : d.stc.state = .halting) (harm : ¬ArmsAgain d) : comeToRest d = crept (pendingStarted (restedOut d)) := by
  have hout : (crept (restedOut d)).stc.state = .halted ∨ (crept (restedOut d)).stc.state = .done := by
    rw [crept_stc]
    exact restedOut_state d
  have hdeferred' : (crept (restedOut d)).pnc.deferred = false := by rw [crept_pnc]; exact hdeferred
  rw [comeToRest_halting h hstate, hnone, leaveHalting_rested hstate harm]
  change blocksAtRest false _ = _
  rw [blocksAtRest_stopped hout hdeferred', pendingStarted_crept, crept_crept]

/-! ### Arming at the rest -/

theorem arms_pendingStarted (former : Former) (e : Station) : pendingStarted (arms former e) = arms former (pendingStarted e) := by
  have hcongr : pendingStarted (arms former e) = (arms former e).setPnc (pendingStarted e).pnc := pendingStarted_congr rfl rfl rfl
  rw [hcongr, ← arms_setPnc, pendingStarted_frame e]
  rfl

theorem caseIdle_arms {e : Station} (former : Former) (hstep : e.ncc.step = none) (hq : ArmsQuietly e) :
    CaseIdle (arms former e) := by
  obtain ⟨-, hcase, -⟩ := hq
  by_cases hacts : e.stc.headRole = true ∧ e.stc.activity = .active
  · obtain ⟨-, -, hcurrent⟩ := hcase hacts.1 hacts.2
    have hncc : (arms former e).ncc = { e.ncc with stopped := .none, stepWaiting := false } := if_pos hacts
    refine .inr (.inr (.inr (.inr ⟨by rw [hncc]; exact hstep, .inr (.inr (.inr (.inr ?_)))⟩)))
    have hwanted : wantedNeedle (arms former e) = wantedNeedle e := by rw [wantedNeedle, hncc]; rfl
    rw [hwanted]
    exact hcurrent
  · by_cases hhead : e.stc.headRole = true
    · exact .inr (.inl fun hactive => hacts ⟨hhead, hactive⟩)
    · exact .inl (Bool.eq_false_iff.2 hhead)

theorem comeToRest_rearms (h : d.sht.atRest = false) (hdeferred : d.pnc.deferred = false) (hstate : d.stc.state = .halting)
    (harm : ArmsAgain d) (hq : ArmsQuietly (rested d)) (hstep : d.ncc.step = none) :
    comeToRest d = commitAtRest (arms .halted (pendingStarted (rested d))) := by
  obtain ⟨-, -, hnone, -, hframe⟩ := id hq
  have hnone' : d.sgv.reposition = none := hnone
  have htop : crept (arms .halted (pendingStarted (rested d))) = arms .halted (pendingStarted (rested d)) := by
    rw [pendingStarted_frame]
    refine crept_of_not_due fun ⟨hf, _, _, _, hoff, _⟩ => ?_
    obtain ⟨-, htop, -⟩ := hframe hf
    have hoff' : (rested d).sht.onTop = false := hoff
    simp [restOnTop, hoff'] at htop
  rw [comeToRest_halting h hstate, hnone', leaveHalting_arms harm, enterArmed_quiet .halted (by simp [rested, hstate]) hq]
  change blocksAtRest false _ = _
  rw [blocksAtRest_armed (caseAtRest_idle (caseIdle_arms .halted (by exact hstep) hq)) rfl (by exact hdeferred),
    arms_pendingStarted, htop]

theorem comeToRest_armed {e : Station} (h : d.sht.atRest = false) (hnone : d.sgv.reposition = none)
    (hstate : d.stc.state = .armed) (hcase : caseAtRest (rested d) = e) (he : e.stc.state = .armed)
    (hdeferred : e.pnc.deferred = false) : comeToRest d = commitAtRest (crept (pendingStarted e)) := by
  rw [comeToRest_blocks h (by simp [hstate]), hnone]
  exact blocksAtRest_armed hcase he hdeferred

/-! ### A deferred FIELD, and a finding at the arming -/

theorem comeToRest_run_deferred {a : Axis} (h : d.sht.atRest = false) (hnone : d.sgv.reposition = none)
    (hdeferred : d.pnc.deferred = true) (hfinding : d.pnc.finding = some a) (hstate : d.stc.state = .run) :
    comeToRest d = stops (.fault .field)
      (recorded (fieldFault a d) ((rested d).setPnc { (rested d).pnc with deferred := false })) := by
  have hfault : fault (fieldFault a (rested d)) ((rested d).setPnc { (rested d).pnc with deferred := false }) =
      stops (.fault .field) (recorded (fieldFault a d) ((rested d).setPnc { (rested d).pnc with deferred := false })) :=
    fault_atRest (by exact hstate) rfl
  have hleft : ∀ (reason : HaltReason) (e : Station),
      (stops reason e).stc.state = .halted ∨ (stops reason e).stc.state = .done := by
    intro reason e
    rw [stops_state]
    split
    · exact .inr rfl
    · exact .inl rfl
  have hstill : ∀ (reason : HaltReason) (e : Station), crept (pendingStarted (stops reason e)) = stops reason e := by
    intro reason e
    have hmove : (stops reason e).pnc = (pendingStarted (halts reason e)).pnc := crept_pnc _
    rw [pendingStarted_of_none (by rw [hmove]; exact pendingStarted_none _)]
    exact crept_crept _
  rw [comeToRest_blocks h (by simp [hstate]), hnone]
  change blocksAtRest false _ = _
  rw [blocksAtRest_deferred (a := a) (by simp [rested, hstate]) (by exact hdeferred) (by exact hfinding)
    (by rw [hfault]; exact hleft _ _), hfault, hstill]

theorem comeToRest_leaves_deferred {a : Axis} (h : d.sht.atRest = false) (hnone : d.sgv.reposition = none)
    (hdeferred : d.pnc.deferred = true) (hfinding : d.pnc.finding = some a) (hstate : d.stc.state = .halting)
    (harm : ¬ArmsAgain d) :
    comeToRest d = crept (recorded (fieldFault a d)
      ((pendingStarted (restedOut d)).setPnc { (pendingStarted (restedOut d)).pnc with deferred := false })) := by
  have hstopped : (crept (restedOut d)).stc.state = .halted ∨ (crept (restedOut d)).stc.state = .done := by
    rw [crept_stc]
    exact restedOut_state d
  have hfault : fault (fieldFault a (crept (restedOut d)))
      ((crept (restedOut d)).setPnc { (crept (restedOut d)).pnc with deferred := false }) =
      crept (recorded (fieldFault a d) ((restedOut d).setPnc { (restedOut d).pnc with deferred := false })) := by
    rw [fault_still (.inr (.inr (by exact hstopped))), crept_pnc, fieldFault_crept, ← crept_setPnc, ← crept_recorded]
    rfl
  have hmove : pendingStarted (recorded (fieldFault a d) ((restedOut d).setPnc { (restedOut d).pnc with deferred := false })) =
      recorded (fieldFault a d)
        ((pendingStarted (restedOut d)).setPnc { (pendingStarted (restedOut d)).pnc with deferred := false }) := by
    rw [← pendingStarted_undeferred]
    have hcongr : pendingStarted (recorded (fieldFault a d) ((restedOut d).setPnc { (restedOut d).pnc with deferred := false })) =
        (recorded (fieldFault a d) ((restedOut d).setPnc { (restedOut d).pnc with deferred := false })).setPnc
          (pendingStarted ((restedOut d).setPnc { (restedOut d).pnc with deferred := false })).pnc :=
      pendingStarted_congr rfl rfl rfl
    rw [hcongr, pendingStarted_frame ((restedOut d).setPnc { (restedOut d).pnc with deferred := false })]
    rfl
  have hleft : ∀ (fr : FaultRecord) (e : Station), e.stc.state = .halted ∨ e.stc.state = .done →
      (crept (recorded fr e)).stc.state = .halted ∨ (crept (recorded fr e)).stc.state = .done := by
    intro fr e he
    rw [crept_stc]
    exact he
  rw [comeToRest_halting h hstate, hnone, leaveHalting_rested hstate harm]
  change blocksAtRest false _ = _
  rw [blocksAtRest_deferred (a := a) (by rcases hstopped with hs | hs <;> simp [hs]) (by rw [crept_pnc]; exact hdeferred)
    (by rw [crept_pnc]; exact hfinding) (by rw [hfault]; exact hleft _ _ (restedOut_state d)), hfault,
    pendingStarted_crept, hmove, crept_crept]

theorem returnsToHalted_setPnc (q : Pantograph) (e : Station) :
    returnsToHalted (e.setPnc q) = (returnsToHalted e).setPnc q := by
  have hcrept : ∀ x y : Station, y = x.setPnc q → crept y = (crept x).setPnc q := by
    rintro x _ rfl
    exact crept_setPnc q x
  refine hcrept _ _ ?_
  rw [causeStatus_sli_congr (s := e) (e := e.setPnc q) rfl rfl rfl]
  rfl

theorem comeToRest_finding {a : Axis} (h : d.sht.atRest = false) (hstate : d.stc.state = .halting) (harm : ArmsAgain d)
    (hfinding : d.pnc.finding = some a) (hq : ArmsQuietly { rested d with pnc := { (rested d).pnc with finding := none } }) :
    comeToRest d = returnsToHalted (recorded (fieldFault a d) (arms .halted
      ((pendingStarted (rested d)).setPnc { (pendingStarted (rested d)).pnc with deferred := false }))) := by
  obtain ⟨-, -, hnone, -⟩ := id hq
  have hnone' : d.sgv.reposition = none := hnone
  have hmove : ∀ e : Station, crept (pendingStarted (returnsToHalted (recorded (fieldFault a d) (arms .halted e)))) =
      returnsToHalted (recorded (fieldFault a d) (arms .halted (pendingStarted e))) := by
    intro e
    have hsame : (returnsToHalted (recorded (fieldFault a d) (arms .halted e))).pnc = e.pnc := crept_pnc _
    have hnow : (returnsToHalted (recorded (fieldFault a d) (arms .halted e))).now = e.now := by
      change (crept _).now = _
      rw [crept_now]
      rfl
    have hmotion : motion (returnsToHalted (recorded (fieldFault a d) (arms .halted e))) = motion e := by
      change motion (crept _) = _
      rw [motion, crept_stc]
      rfl
    have hset : ∀ q, (returnsToHalted (recorded (fieldFault a d) (arms .halted e))).setPnc q =
        returnsToHalted (recorded (fieldFault a d) (arms .halted (e.setPnc q))) := by
      intro q
      rw [← returnsToHalted_setPnc, arms_setPnc]
      rfl
    rw [pendingStarted_congr hsame hnow hmotion, hset, pendingStarted_frame e]
    exact crept_crept _
  rw [comeToRest_halting h hstate, hnone', leaveHalting_arms harm,
    enterArmed_finding (by simp [rested, hstate]) (by exact hfinding) hq]
  change blocksAtRest false _ = _
  rw [blocksAtRest_stopped (.inl (returnsToHalted_state _))]
  · rw [← pendingStarted_undeferred]
    exact hmove _
  · have hp : ∀ fr : FaultRecord, ∀ e : Station, (returnsToHalted (recorded fr (arms .halted e))).pnc = e.pnc :=
      fun fr e => crept_pnc _
    rw [hp]
    rfl

end

end Sys2Proof.StitchCycle

namespace Sys2Proof.StitchCycle

open Sys2Proof Sys2Proof.Machine

/-- A sequence in progress at a rest in HALTED, DONE or ARMED (R124). -/
theorem comeToRest_sequence {d : Station} {q : Reposition} (h : d.sht.atRest = false) (hframe : d.stc.frameRole = true)
    (hq : d.sgv.reposition = some q) (hdeferred : d.pnc.deferred = false)
    (hstate : d.stc.state = .halted ∨ d.stc.state = .done ∨ (d.stc.state = .armed ∧ CaseIdle (rested d))) :
    comeToRest d = commitAtRest (creepAtRest (pendingStarted (rested d))) := by
  have hhalting : d.stc.state ≠ .halting := by rcases hstate with hs | hs | ⟨hs, -⟩ <;> simp [hs]
  have hrun : d.stc.state ≠ .run := by rcases hstate with hs | hs | ⟨hs, -⟩ <;> simp [hs]
  have hcase : caseAtRest (rested d) = rested d := by
    rcases hstate with hs | hs | ⟨-, hidle⟩
    · exact caseAtRest_of_not_armed (by simp [rested, hs])
    · exact caseAtRest_of_not_armed (by simp [rested, hs])
    · exact caseAtRest_idle hidle
  rw [comeToRest_blocks h hhalting, hq]
  exact blocksAtRest_sequence hcase hrun hdeferred hframe

/-- Settles O28: the rest by the state it finds, each block's part in turn. -/
theorem restReached : Obligations.RestReached := by
  intro s hlive d c r m ready_ unready committed creepsOn ends off crpt in_ caused undeferred after_ arming
  have hexec : exec c s = .next (closed s (comeToRest d)) := exec_live hlive nofun nofun
  have hgoes : ∀ x, comeToRest d = x → exec c s = .next (closed s x) := fun x hx => by rw [hexec, hx]
  obtain ⟨p, hp⟩ : ∃ p, pendingStarted (rested d) = r.setPnc p := ⟨_, pendingStarted_frame r⟩
  have hm : m = r.setPnc p := hp
  clear_value m
  subst hm
  have hquiet : ∀ e, comeToRest d = commitAtRest e → e.stc.state = .armed → e.sht = r.sht → e.gtu = d.gtu → unready e →
      exec c s = .next (closed s e) := by
    intro e hrest harmed hsht hgtu hno
    rw [hgoes _ hrest, closed_commitAtRest_of_not harmed]
    rw [restOnTop, hsht, hgtu]
    exact hno
  refine ⟨fun hrest => hgoes d (if_pos hrest), fun hturn hnone hdef => ⟨?_, ?_, ?_, ?_, ?_, ?_, ?_, ?_, ?_⟩,
    fun a hturn hnone hdef hfinding => ⟨?_, ?_⟩, fun a hturn hs harm hfinding _ hq => ?_,
    fun q hturn hframe hq hdef hstate => ?_⟩
  · exact fun hs => hgoes _ (comeToRest_run hturn hnone hdef hs)
  · exact fun hs => hgoes _ ((comeToRest_unarmed hturn hnone hdef hs).trans hp)
  · exact fun hs => hgoes _ ((comeToRest_stopped hturn hnone hdef hs).trans (congrArg crept hp))
  · intro hs hno
    refine hgoes _ ?_
    rw [comeToRest_leaves hturn hnone hdef hs hno, pendingStarted_restedOut, hp]
    rfl
  · intro hs harm hq hstep hno
    refine hquiet _ ?_ rfl rfl rfl hno
    rw [comeToRest_rearms hturn hdef hs harm hq hstep, hp]
  · intro hs harm hq hstep htop hruns hready
    obtain ⟨hseen, hdrive, hready⟩ := hready
    refine hgoes _ ?_
    rw [comeToRest_rearms hturn hdef hs harm hq hstep, hp]
    exact commitAtRest_commits rfl htop hruns hseen hdrive hready
  · intro hs hidle
    have hrest : comeToRest d = commitAtRest (crept (r.setPnc p)) := by
      rw [comeToRest_armed hturn hnone hs (caseAtRest_idle hidle) hs hdef, hp]
    refine ⟨fun hdue => ?_, fun hdue hno => ?_, fun htop hruns hready => ?_⟩
    · have hcreeps : crept (r.setPnc p) = creeps (r.setPnc p) := if_pos hdue
      rw [hcreeps] at hrest
      obtain ⟨-, -, -, -, hoff, -⟩ := hdue
      refine hquiet _ hrest hs rfl rfl (.inl ?_)
      change (r.sht.atRest && r.sht.onTop) = false
      rw [Bool.and_eq_false_iff]
      exact .inr hoff
    · rw [crept_of_not_due hdue] at hrest
      exact hquiet _ hrest hs rfl rfl hno
    · obtain ⟨hseen, hdrive, hready⟩ := hready
      rw [crept_of_onTop (d := r.setPnc p) (Bool.and_eq_true _ _ ▸ htop : _ ∧ _).2] at hrest
      exact hgoes _ (hrest.trans (commitAtRest_commits hs htop hruns hseen hdrive hready))
  · intro hdue htop hseen
    obtain ⟨-, hs, -⟩ := id hdue
    have hmove : pendingStarted (steps r) = steps (r.setPnc p) := by
      rw [pendingStarted_rested (d := d) (e := steps r) rfl rfl rfl, hp]
      rfl
    have hrest : comeToRest d = commitAtRest (steps (r.setPnc p)) := by
      rw [comeToRest_armed hturn hnone hs (caseAtRest_steps hdue htop) hs hdef, hmove, crept_of_onTop]
      exact (Bool.and_eq_true _ _ ▸ htop : _ ∧ _).2
    exact hquiet _ hrest hs rfl rfl (.inr (.inl hseen))
  · intro k hs hhead hactive hstep htimer htop hseen
    have hmove : pendingStarted (retryStep k r) = (retryStep k r).setPnc p := by
      rw [pendingStarted_rested (d := d) (e := retryStep k r) rfl rfl rfl, hp]
      rfl
    have hrest : comeToRest d = commitAtRest ((retryStep k r).setPnc p) := by
      rw [comeToRest_armed hturn hnone hs (caseAtRest_retries hs hhead hactive hstep htimer htop) hs hdef, hmove, crept_of_onTop]
      exact (Bool.and_eq_true _ _ ▸ htop : _ ∧ _).2
    exact hquiet _ hrest hs rfl rfl (.inr (.inl hseen))
  · intro hs
    refine hgoes _ ?_
    rw [comeToRest_run_deferred hturn hnone hdef hfinding hs]
    change stops _ (recorded (fieldFault a d) (undeferred r)) = _
    unfold stops
    simp only
    rw [pendingStarted_frame (halts (.fault .field) (recorded (fieldFault a d) (undeferred r)))]
    rfl
  · intro hs hno
    refine hgoes _ ?_
    rw [comeToRest_leaves_deferred hturn hnone hdef hfinding hs hno, pendingStarted_restedOut, hp]
    rfl
  · refine hgoes _ ?_
    rw [comeToRest_finding hturn hs harm hfinding hq, hp]
    rfl
  · have hunseen : d.stc.state ≠ .armed ∨ d.gtu.seenHigh = false := by
      rcases hstate with hs | hs | ⟨-, -, hseen⟩
      · exact .inl (by rw [hs]; decide)
      · exact .inl (by rw [hs]; decide)
      · exact .inr hseen
    have hplace : d.stc.state = .armed ∨ d.stc.state = .halted ∨ d.stc.state = .done := by
      rcases hstate with hs | hs | ⟨hs, -⟩
      · exact .inr (.inl hs)
      · exact .inr (.inr hs)
      · exact .inl hs
    have hrest : exec c s = .next (closed s (commitAtRest (creepAtRest (r.setPnc p)))) := by
      refine hgoes _ ?_
      rw [comeToRest_sequence hturn hframe hq hdef (hstate.imp_right (.imp_right fun hs => ⟨hs.1, hs.2.1⟩)), hp]
    refine ⟨fun htop => ?_, fun htop hwaits hlow => ?_, fun htop hon hleft => ?_, fun htop hon hspent => ?_⟩
    · rw [hrest, creepAtRest_onTop (d := r.setPnc p) hq htop]
      exact congrArg _ (closed_commitAtRest_unseen hunseen)
    · rw [hrest, creepAtRest_waits (d := r.setPnc p) (hwaits ▸ hq) htop hlow]
      exact congrArg _ (closed_commitAtRest_unseen hunseen)
    · rw [hrest, creepAtRest_creeps (d := r.setPnc p) hq htop hon hleft]
      exact congrArg _ (closed_commitAtRest_unseen hunseen)
    · rw [hrest, creepAtRest_givesUp (d := r.setPnc p) hq htop hon hspent hplace]
      exact congrArg _ (closed_commitAtRest_unseen (.inl (fault_givenUp (d := positionGivenUp (r.setPnc p)) rfl rfl hplace).2))

end Sys2Proof.StitchCycle

/-! ## JOINING: what no command but a Configure section leaves -/

namespace Sys2Proof.StationStates

open Sys2Proof Sys2Proof.Machine Sys2Proof.StitchCycle

/-- The station is in JOINING. -/
def InJoining (d : Station) : Prop := d.stc.state = .joining

variable {d e : Station}

theorem InJoining.same (h : InJoining d) (hstc : e.stc = d.stc) : InJoining e :=
  (congrArg StationControl.state hstc).trans h

/-! ### Fault records, halt causes, findings (R37, R95, R162) -/

theorem InJoining.haltCause_eq (h : InJoining d) (reason : HaltReason) : haltCause reason d = d := by
  rw [haltCause, h]

theorem InJoining.fault_eq (h : InJoining d) (fr : FaultRecord) : fault fr d = recorded fr d := fault_still (.inl h)

theorem InJoining.fault (h : InJoining d) (fr : FaultRecord) : InJoining (fault fr d) := by
  rw [h.fault_eq]
  exact h

theorem InJoining.headCheck_eq (h : InJoining d) : headCheck d = d := by
  rw [headCheck, h]
  exact ite_self d

theorem InJoining.headFault (h : InJoining d) (fr : FaultRecord) : InJoining (headFault fr d) := by
  have hwithdrawn : InJoining (withdraws fr d) := h
  unfold Machine.headFault
  rw [withdrawHead_addRecord, hwithdrawn.headCheck_eq, addRecord_eq]
  (repeat' split)
  · exact hwithdrawn
  · exact h
  · exact h.fault fr

theorem InJoining.writeDeferred (h : InJoining d) : InJoining (writeDeferred d) := by
  unfold Machine.writeDeferred
  (repeat' split)
  · exact (h.same (by simp)).fault _
  · exact h
  · exact h

theorem InJoining.recomputeFinding (h : InJoining d) : InJoining (recomputeFinding d) := by
  unfold Machine.recomputeFinding
  simp only
  (repeat' split)
  · exact h
  · exact (h.same (by simp)).fault _
  · exact h
  · exact h
  · exact h

/-! ### Re-positioning and rest (R122 to R125) -/

theorem InJoining.creepOffTop (h : InJoining d) : InJoining (creepOffTop d) := by
  unfold Machine.creepOffTop shaftPosition
  (repeat' split)
  · exact h
  · exact (h.same (by simp)).fault _
  · exact h.same (by simp)

theorem InJoining.creepAtRest (h : InJoining d) : InJoining (creepAtRest d) := by
  have hstop : InJoining (governorStop d) := h.same (by simp)
  unfold Machine.creepAtRest
  simp only
  (repeat' split)
  · exact hstop.same (by simp)
  · exact hstop.creepOffTop.same (by simp)
  · exact hstop.creepOffTop
  · exact h

theorem InJoining.tryRestCommit_eq (h : InJoining d) : tryRestCommit d = d := tryRestCommit_of_not (.inl (by rw [h]; decide))

theorem InJoining.comeToRest (h : InJoining d) : InJoining (comeToRest d) := by
  have hpantograph : ∀ e, InJoining e → InJoining (pantographAtRest e) := by
    intro e he
    unfold pantographAtRest
    simp only
    split
    · exact he.writeDeferred
    · exact he.writeDeferred.same (by simp)
  have hgovernor : ∀ q e, InJoining e → InJoining (governorAtRest q e) := by
    intro q e he
    cases q with
    | false =>
      rw [governorAtRest_still (.inr (.inl he))]
      exact he
    | true =>
      rw [governorAtRest]
      split
      · exact he
      · exact he.creepAtRest
  by_cases hrest : d.sht.atRest = false
  · have hrested : InJoining (rested d) := h
    rw [comeToRest_blocks hrest (by rw [h]; decide), blocksAtRest, caseAtRest_of_not_armed (by rw [hrested]; decide)]
    have hblocks := hgovernor d.sgv.reposition.isSome _ (hpantograph _ hrested)
    rw [commitAtRest_of_not_armed (by rw [hblocks]; decide)]
    exact hblocks
  · rw [Machine.comeToRest, if_pos (by simpa using hrest)]
    exact h

/-! ### The Thread Monitor and the angle events (R7, R14 to R17, R140 to R148) -/

theorem InJoining.takeSample (h : InJoining d) (p : Penetration) : InJoining (takeSample p d) := by
  have hfault : ∀ k n e, InJoining e → InJoining (tensionFault k n e) := fun _ _ _ he =>
    InJoining.headFault (he.same (by simp)) _
  unfold Machine.takeSample judgeTension
  simp only
  (repeat' split)
  · exact hfault _ _ _ h
  · exact h
  · exact h

theorem InJoining.closePenetration (h : InJoining d) : InJoining (closePenetration d) := by
  unfold Machine.closePenetration
  split
  · exact h
  next p _ =>
    have hjudged : ∀ (m : ThreadMonitor) (dry : Bool), InJoining (if dry then threadBreak p (d.setThm m) else d.setThm m) := by
      intro m dry
      split
      · exact (h.same (by simp)).headFault _
      · exact h
    simp only
    split
    · exact (hjudged _ _).takeSample p
    · exact hjudged _ _

theorem InJoining.eventM (h : InJoining d) : InJoining (eventM d) := by
  unfold Machine.eventM
  (repeat' split)
  · exact h.fault _
  · exact h
  · exact h

theorem InJoining.eventH (h : InJoining d) : InJoining (eventH d) := by
  have hsample : sampleH d = d := by
    have hact : guardsAct d = false := by rw [guardsAct, h]; rfl
    rw [sampleH, hact, if_neg (by simp)]
  rw [Machine.eventH, hsample]
  exact h.writeDeferred

theorem InJoining.eventD_eq (h : InJoining d) : eventD d = d := by
  rw [eventD, h]

theorem InJoining.receive (h : InJoining d) (n : AngleName) : InJoining (receive n d) := by
  cases n with
  | m =>
    rw [Machine.receive]
    split
    · exact h.eventM
    · exact h
  | h => exact h.eventH
  | tuClose =>
    rw [Machine.receive]
    split
    · exact h.closePenetration
    · exact h
  | d =>
    rw [Machine.receive, h.eventD_eq]
    exact h
  | aArm => exact h.same (e := eventAArm d) (by simp)
  | wOpen => exact h.same (e := eventWOpen d) (by simp)
  | tuOpen | kOn | kOff =>
    rw [Machine.receive]
    split
    · exact h.same (by simp)
    · exact h

theorem InJoining.raiseEvents (h : InJoining d) : InJoining (raiseEvents d) := by
  have hdue : ∀ (e : Station) (n : AngleName), InJoining e → InJoining (raiseIfDue e n) := by
    intro e n he
    have hset : InJoining (e.setSht { e.sht with raised := e.sht.raised ++ [n] }) := he
    rw [raiseIfDue]
    split
    · exact (hset.receive n).same (by simp [raiseEvent])
    · exact he
  have hall : ∀ (l : List AngleName) (e : Station), InJoining e → InJoining (l.foldl raiseIfDue e) := by
    intro l
    induction l with
    | nil => exact fun _ he => he
    | cons n l ih => exact fun e he => ih _ (hdue e n he)
  exact hall _ d h

/-! ### Encoder counts and the index (R1 to R4) -/

theorem InJoining.encoderFault (h : InJoining d) : InJoining (encoderFault d) := by
  have hlost : InJoining (abandonPenetration (knifeOff (dropDecision (loseSync d)))) := h.same (by simp)
  exact (hlost.fault _).writeDeferred

theorem InJoining.countForward (h : InJoining d) (t : Nat) : InJoining (countForward t d) := by
  have hcounted : InJoining (counted t d) := h
  have hturned : InJoining (turned (counted t d)) := h
  unfold Machine.countForward
  simp only [countArrives_presentTension, advance_eq]
  (repeat' split)
  · exact hcounted
  · exact hturned.encoderFault
  · exact hturned.raiseEvents

theorem InJoining.countReverse (h : InJoining d) (t : Nat) : InJoining (countReverse t d) := by
  have hcounted : InJoining (counted t d) := h
  unfold Machine.countReverse
  simp only [countArrives_presentTension]
  split
  · exact (hcounted.same (by simp)).encoderFault
  · exact hcounted.same (by simp)

theorem InJoining.capture (h : InJoining d) : InJoining (capture d) := by
  unfold Machine.capture takePeriod
  simp only
  (repeat' split)
  · exact (h.same (by simp)).fault _
  all_goals exact h

theorem InJoining.sweep (n : Nat) (h : InJoining d) : InJoining (sweep n d) := by
  induction n generalizing d with
  | zero => exact h
  | succ n ih => exact ih (InJoining.raiseEvents (h.same (by simp)))

theorem InJoining.takeIndex (h : InJoining d) : InJoining (takeIndex d) := by
  have hswept : InJoining (Machine.sweep (1023 - d.sht.angle) d) := h.sweep _
  have hbegins : InJoining (indexBegins d) := by
    unfold indexBegins
    exact (hswept.same (by simp)).raiseEvents
  unfold Machine.takeIndex indexSyncs
  (repeat' split)
  · exact InJoining.raiseEvents (h.same (by simp))
  · exact h.encoderFault
  · exact h
  · exact hbegins.capture
  · exact InJoining.capture (h.same (by simp))

/-! ### Walks, moves, homing, the drive, the case -/

theorem InJoining.afterStitchChange (h : InJoining d) : InJoining (afterStitchChange d) := by
  unfold Machine.afterStitchChange
  split
  · exact (h.same (by simp)).recomputeFinding
  · exact h.recomputeFinding

theorem InJoining.walkCutAt (h : InJoining d) (k : Walk) : InJoining (walkCutAt k d) := by
  unfold Machine.walkCutAt
  split
  · exact h.same (by simp)
  · exact (h.same (by simp)).afterStitchChange

theorem InJoining.walkAdvance (fuel : Nat) (k : Walk) (h : InJoining d) : InJoining (walkAdvance fuel k d) := by
  induction fuel generalizing k d with
  | zero => exact h
  | succ fuel ih =>
    rw [Machine.walkAdvance]
    simp only
    split
    · exact (h.fault _).walkCutAt k
    · (repeat' split)
      · exact h
      · exact h.same (by simp)
      · exact ih _ (h.same (by simp))
      · exact h

theorem InJoining.completeMove (h : InJoining d) : InJoining (completeMove d) := by
  have hdone : ∀ e, InJoining e → InJoining (walkMoveDone e) := by
    intro e he
    unfold walkMoveDone
    (repeat' split)
    · exact he.same (by simp)
    · exact he.walkCutAt _
    · exact he.walkAdvance _ _
    · exact he
  unfold Machine.completeMove
  split
  · exact h
  · simp only
    split
    · exact h.same (by simp)
    · exact hdone _ (h.same (by simp))
    · exact hdone _ (h.same (by simp))

theorem InJoining.homeEvent (h : InJoining d) (a : Axis) (f : HomeAxis → HomeAxis) : InJoining (homeEvent a f d) := by
  have hfail : ∀ a x e, InJoining e → InJoining (homeFail a x e) := by
    intro a x e he
    unfold homeFail
    split
    · exact he.fault _
    · exact he
  have hend : ∀ x y, InJoining (homeEnd x y d) := by
    intro x y
    unfold homeEnd
    simp only
    split
    · exact hfail _ _ _ (hfail _ _ _ (h.same (by simp)))
    · exact h
  unfold Machine.homeEvent
  (repeat' split)
  · exact h
  · exact hend _ _
  · exact h
  · exact hend _ _
  · exact h

theorem InJoining.driveReadyFall (h : InJoining d) : InJoining (driveReadyFall d) := by
  have hfalls : ∀ e, InJoining e → InJoining (driveFalls e) := by
    intro e he
    rw [driveFalls, he]
    exact he
  unfold Machine.driveReadyFall
  simp only
  split
  · exact hfalls _ (h.same (by simp))
  · exact h

theorem InJoining.creepRunsOut (h : InJoining d) : InJoining (creepRunsOut d) := by
  have hstop : InJoining (governorStop d) := h.same (by simp)
  unfold Machine.creepRunsOut creepEnds
  simp only
  (repeat' split)
  · exact h
  · exact hstop.creepOffTop
  · exact hstop
  · exact h

theorem InJoining.stopCase (h : InJoining d) (why : CaseStopped) (fr : FaultRecord) : InJoining (stopCase why fr d) :=
  InJoining.headFault (h.same (by simp)) fr

theorem InJoining.sensorChange (h : InJoining d) (before : Nat) : InJoining (sensorChange before d) := by
  have hsettled : InJoining (judgeSettle d) := h.same (by simp)
  unfold Machine.sensorChange sensorInStep sensorAlone
  simp only
  (repeat' split)
  · exact hsettled.same (by simp)
  · exact hsettled
  · exact InJoining.stopCase (hsettled.same (by simp)) _ _
  · exact hsettled.stopCase _ _
  · exact hsettled
  · exact h

theorem InJoining.stepTimeout (h : InJoining d) : InJoining (stepTimeout d) := by
  have hruns : ∀ st, InJoining (stepRunsOut st d) := by
    intro st
    rw [stepRunsOut, if_pos (.inl (by rw [h]; decide))]
    exact h.same (by simp)
  unfold Machine.stepTimeout
  (repeat' split)
  · exact h
  · exact hruns _
  · exact h
  · exact h

/-! ### The peers and the station's timers -/

theorem InJoining.hearPeer (h : InJoining d) (x : PeerEntry) (i : StatusItems) : InJoining (hearPeer x i d) := by
  have hactivity : InJoining (handActivity x (setPeer x.addr (hear d.now i) d)) := by
    have hheard : InJoining (setPeer x.addr (hear d.now i) d) := h
    unfold handActivity
    rw [hheard.headCheck_eq, ite_self]
    exact hheard
  have hframe : ∀ e, InJoining e → InJoining (handFrameStitch x i e) := by
    intro e he
    unfold handFrameStitch headWalkEnd copyStitch
    (repeat' split)
    · exact InJoining.afterStitchChange (he.same (by simp))
    · exact he.same (by simp)
    · exact he
    · exact he
  have hhalt : ∀ e, InJoining e → InJoining (judgePeerHalt i e) := by
    intro e he
    unfold judgePeerHalt
    rw [he.haltCause_eq, ite_self]
    exact he
  have hindex : ∀ e, InJoining e → InJoining (judgeIndex x.addr i e) := by
    intro e he
    unfold judgeIndex
    simp only
    split
    · exact InJoining.fault (he.same (by simp)) _
    · exact he
  exact hindex _ (hhalt _ ((hframe _ hactivity).same (by simp)))

theorem InJoining.addressClash (d : Station) : InJoining (addressClash d) := by
  change (addRecord _ (toJoining true d)).stc.state = _
  rw [addRecord_eq]
  exact toJoining_state true d

theorem InJoining.takeStatus (h : InJoining d) (src : Addr) (q : Payload) : InJoining (takeStatus src q d) := by
  unfold Machine.takeStatus
  (repeat' split)
  · exact h
  · exact InJoining.addressClash d
  · exact h.hearPeer _ _
  · exact h

theorem InJoining.ageRunsOut (h : InJoining d) (a : Addr) : InJoining (ageRunsOut a d) := by
  have hlose : ∀ x, InJoining (losePeer x d) := by
    intro x
    have hlost : InJoining (setPeer x.addr (fun e => { e with lost := true, mismatched := false }) d) := h
    unfold losePeer
    simp only
    rw [hlost]
    exact hlost
  unfold Machine.ageRunsOut
  (repeat' split)
  · exact h
  · exact hlose _
  · exact h

theorem InJoining.joinRunsOut (h : InJoining d) : InJoining (joinRunsOut d) := by
  have hdiscarded : InJoining (discardSections d) := by
    rw [discardSections_eq]
    exact h
  unfold Machine.joinRunsOut
  split
  · exact hdiscarded.fault _
  · exact h

theorem InJoining.stall (h : InJoining d) : InJoining (stall d) := by
  rw [Machine.stall, if_neg (by rw [h]; decide)]
  exact h

theorem InJoining.armRunsOut (h : InJoining d) : InJoining (armRunsOut d) := by
  rw [Machine.armRunsOut, if_neg (by rw [h]; decide)]
  exact h

/-! ## The lock -/

/-- A locked station in JOINING hands no console notice to its owner (R24, R45). -/
theorem noticeTaken_locked {kind : NoticeKind} {lenOk : Bool} {src : Addr} {p : Payload} (hlock : d.stc.lock ≠ .none)
    (h : InJoining d) : noticeTaken d kind lenOk src p = false := by
  refine Bool.eq_false_iff.2 fun htaken => ?_
  have hacc := acceptance_of_taken htaken
  have hstate : d.stc.state = .joining := h
  cases kind <;> simp [acceptance, hlock, hstate, acceptTable, acceptTable.atRestOnly] at hacc

/-- A notice that is not handed to its owner changes the last refusal at most (R44 to R46). -/
theorem takeNotice_not_taken {kind : NoticeKind} {lenOk : Bool} {src : Addr} {p : Payload} (owner : Station → Station)
    (h : noticeTaken d kind lenOk src p = false) :
    takeNotice kind lenOk src p owner d = d ∨ ∃ why, takeNotice kind lenOk src p owner d = refused kind why d := by
  unfold takeNotice
  (repeat' split)
  · exact .inl rfl
  · exact .inr ⟨_, refuse_eq _ _ _⟩
  · exact .inr ⟨_, refuse_eq _ _ _⟩
  · simp_all [noticeTaken]
  · simp_all [noticeTaken]
  · exact .inl rfl
  · exact .inr ⟨_, refuse_eq _ _ _⟩
  · exact .inl rfl

theorem InJoining.takeNotice (h : InJoining d) (hlock : d.stc.lock ≠ .none) (kind : NoticeKind) (lenOk : Bool) (src : Addr)
    (p : Payload) (owner : Station → Station) : InJoining (takeNotice kind lenOk src p owner d) := by
  rcases takeNotice_not_taken owner (noticeTaken_locked (kind := kind) (lenOk := lenOk) (src := src) (p := p) hlock h)
    with he | ⟨why, he⟩ <;> rw [he] <;> exact h

/-- A locked station in JOINING stays there (R21, R24). -/
theorem InJoining.effect (h : InJoining d) (hlock : d.stc.lock ≠ .none) (c : Instr) : InJoining (effect c d) := by
  cases c with
  | encoderForwardCount t => exact h.countForward _
  | encoderReverseCount t => exact h.countReverse _
  | indexPulse => exact h.takeIndex
  | restReached => exact h.comeToRest
  | seenLevelChange high =>
    have hset : InJoining (d.setGtu { d.gtu with seenHigh := high && decide (d.gtu.drive = .released) }) := h
    change InJoining (tryRestCommit _)
    rw [hset.tryRestCommit_eq]
    exact hset
  | stallTimeout => exact h.stall
  | armTimeout => exact h.armRunsOut
  | joinTimeout => exact h.joinRunsOut
  | stop | stationReset | start | back | forward | headSelect | faultClear | needleMap | configureRoster | configureTiming
  | configureMotion | configureThread | designOpen | designPage | pantographGoPark | pantographGoReturn | pantographGoAbsolute
  | pantographGoSetOrigin | pantographGoTrace => exact h.takeNotice hlock _ _ _ _ _
  | pantographGoHome _ _ x y =>
    exact InJoining.takeNotice (d := d.setPins { d.pins with xHome := x, yHome := y }) h hlock _ _ _ _ _
  | statusReceived => exact h.takeStatus _ _
  | peerLost => exact h.ageRunsOut _
  | moveComplete => exact h.completeMove
  | homeSwitchClose a => exact InJoining.homeEvent (d := d.setPins (closeSwitch a d.pins)) h _ _
  | homeBackoffDone => exact h.homeEvent _ _
  | homeSeekLimit => exact h.homeEvent _ _
  | driveReadyFall => exact h.driveReadyFall
  | creepTimeout => exact h.creepRunsOut
  | caseSensorChange code latch => exact InJoining.sensorChange (d := d.setPins (casePins code latch d.pins)) h _
  | stepTimeout => exact h.stepTimeout
  | _ => exact h.same (by simp [StitchCycle.effect])

theorem takeNotice_lock {kind : NoticeKind} {lenOk : Bool} {src : Addr} {p : Payload} {owner : Station → Station}
    (h : (owner d).stc.lock = d.stc.lock) : (takeNotice kind lenOk src p owner d).stc.lock = d.stc.lock := by
  rcases takeNotice_cases kind lenOk src p owner d with he | ⟨r, he⟩ | he <;> simp [he, h]

theorem takeGo_lock {v : GoVariant} {src : Addr} {p : Payload} {act : Station → Station}
    (h : (act d).stc.lock = d.stc.lock) : (takeGo v src p act d).stc.lock = d.stc.lock := by
  refine takeNotice_lock ?_
  rcases goOwner_cases v p act d with ⟨r, -, he⟩ | ⟨-, he⟩ <;> simp [he, h]

theorem toJoining_lock (clash : Bool) (d : Station) : (toJoining clash d).stc.lock = d.stc.lock := by
  simp [toJoining, joinStc]

/-- A Status of another transmitter leaves the lock, or it is an address clash on a station without one (R24, R50). -/
theorem takeStatus_lock (src : Addr) (p : Payload) (d : Station) :
    (takeStatus src p d).stc.lock = d.stc.lock ∨ (d.stc.lock = .none ∧ InJoining (takeStatus src p d)) := by
  unfold takeStatus
  (repeat' split)
  next => exact .inl rfl
  next _ hclash =>
    exact .inr ⟨hclash.2, InJoining.addressClash d⟩
  next => exact .inl (by simp)
  next => exact .inl rfl

/-- No command but a hard reset, or an address clash on an unlocked station, writes the lock (R21, R24). -/
theorem effect_lock (c : Instr) (d : Station) :
    (effect c d).stc.lock = d.stc.lock ∨ (d.stc.lock = .none ∧ InJoining (effect c d)) := by
  cases c with
  | statusReceived src p => exact takeStatus_lock src p d
  | stationReset => exact .inl (takeNotice_lock (by simp [stationReset, toJoining_lock]))
  | stop | start | back | forward | headSelect | faultClear | needleMap | configureRoster | configureTiming
  | configureMotion | configureThread | designOpen | designPage => exact .inl (takeNotice_lock (by simp))
  | pantographGoHome | pantographGoPark | pantographGoReturn | pantographGoAbsolute | pantographGoSetOrigin
  | pantographGoTrace => exact .inl (takeGo_lock (by simp))
  | _ => exact .inl (by simp [effect])

/-- A locked station in JOINING keeps both through the effect of every command (R21, R24). -/
theorem effect_locked (h : InJoining d) (hlock : d.stc.lock ≠ .none) (c : Instr) :
    (effect c d).stc.lock = d.stc.lock ∧ InJoining (effect c d) :=
  ⟨(effect_lock c d).resolve_right fun hnone => hlock hnone.1, h.effect hlock c⟩

theorem effect_lockLaw (h : LockLaw d) (c : Instr) : LockLaw (effect c d) := by
  intro hlocked
  rcases effect_lock c d with hsame | ⟨-, hjoined⟩
  · have hlock : d.stc.lock ≠ .none := hsame ▸ hlocked
    exact (effect_locked (h hlock) hlock c).2
  · exact hjoined

/-- Settles O11: the lock is written by a hard reset and an address clash alone, and a locked station in JOINING hands no notice
to its owner, so that none of its blocks takes it out of JOINING. -/
theorem lockedStationStaysJoining : Obligations.LockedStationStaysJoining := by
  refine ⟨fun s t h hstep => ?_, fun c s t hlock hstate hhard hexec => ?_⟩
  · rcases step_cases hstep with ⟨v, he⟩ | ⟨p, he⟩ | he | ⟨a, x, y, he⟩ | ⟨c, he⟩
    · rw [he]
      exact h
    · rw [he]
      exact h
    · rw [he, LockLaw, (resetFalls_frame _).2.2.2.1]
      exact h
    · rw [he]
      exact fun _ => rfl
    · have hlaw := effect_lockLaw h c
      rw [he, finish_eq]
      exact hlaw
  · by_cases hlow : c = .resetNLow
    · subst hlow
      cases hexec
      exact ⟨by simp, by simp [hstate]⟩
    cases hreset : s.dev.resetLow with
    | true =>
      obtain ⟨p, hp⟩ := exec_resetLow hreset hlow hhard
      cases hp.symm.trans hexec
      exact ⟨rfl, hstate⟩
    | false =>
      obtain ⟨hkept, hjoining⟩ := effect_locked hstate hlock c
      cases (exec_live hreset hlow hhard).symm.trans hexec
      rw [closed, finish_eq]
      exact ⟨hkept, hjoining⟩

end Sys2Proof.StationStates

/-! ## RESET_N: what a low level holds off, what its fall ends, what its rise sets -/

namespace Sys2Proof.StationStates

open Sys2Proof Sys2Proof.Machine Sys2Proof.StitchCycle

theorem closeSwitch_eq (a : Axis) (p : Pins) :
    closeSwitch a p = { p with xHome := p.xHome || decide (a = .x), yHome := p.yHome || decide (a = .y) } := by
  cases a <;> simp [closeSwitch]

/-- A command, but a reset, is its effect taken, with the input levels it brings or without any (12.1). -/
theorem exec_taken_levels {c : Instr} (s : State) (hlow : c ≠ .resetNLow) (hhard : ∀ a h f, c ≠ .hardReset a h f) :
    (exec c s = taken s (effect c) ∧ levelsAfter c s.dev.pins = s.dev.pins) ∨
      exec c s = takenPin s (levelsAfter c s.dev.pins) (effect c) := by
  cases c with
  | resetNLow => exact absurd rfl hlow
  | hardReset a h f => exact absurd rfl (hhard a h f)
  | homeSwitchClose a =>
    rw [levelsAfter, ← closeSwitch_eq]
    exact .inr rfl
  | encoderForwardCount | encoderReverseCount | pantographGoHome | driveReadyFall | driveReadyRise | caseSensorChange =>
    exact .inr rfl
  | _ => exact .inl ⟨rfl, rfl⟩

/-- Settles O4: a command that a part held in reset takes is lost, but for the input levels it brings. -/
theorem resetLowHoldsThePart : Obligations.ResetLowHoldsThePart := by
  intro c s h hlow hhard
  rcases exec_taken_levels s hlow hhard with ⟨hexec, hlevels⟩ | hexec
  · rw [hexec, hlevels, taken, if_pos h]
  · rw [hexec, takenPin, if_pos h]
    rfl

/-- The duty of a demand over the full scale of 1500, in whole 1024ths rounded down (R170). -/
theorem demandDuty_bounds (n : Nat) : demandDuty n * 1500 ≤ n * 1024 ∧ n * 1024 < (demandDuty n + 1) * 1500 := by
  unfold demandDuty
  omega

/-- Settles O21: the fall of RESET_N, block by block, and the duty of each demand. -/
theorem resetNLowStopsEverything : Obligations.ResetNLowStopsEverything := by
  refine ⟨fun s => ⟨{ s with dev := resetFalls s.dev }, ?_⟩, fun d => ⟨(demandDuty_bounds _).1, (demandDuty_bounds _).2, ?_⟩⟩
  · refine ⟨rfl, rfl, rfl, ?_⟩
    simp [outputs, resetFalls, governorEnd, knifeOff, dropDecision, demandDuty]
  · exact decide_eq_true_iff

/-- The straps lock a station with an address of 0 or with no role (R21). -/
theorem reset_straps (now : Nat) (a : Addr) (h f : Bool) :
    (if a = 0 ∨ (h = false ∧ f = false) then
      (StationControl.reset now a.toNat h f).lock = .strap ∧ (StationControl.reset now a.toNat h f).joinTimer = none ∧
      (StationControl.reset now a.toNat h f).faults = [{ kind := .strap, stitch := 0, needle := none, value := some a.toNat }]
    else
      (StationControl.reset now a.toNat h f).lock = .none ∧ (StationControl.reset now a.toNat h f).joinTimer = some now ∧
      (StationControl.reset now a.toNat h f).faults = []) := by
  have hfaulty : (a.toNat == 0 || (!h && !f)) = true ↔ a = 0 ∨ (h = false ∧ f = false) := by
    have hzero : a.toNat = 0 ↔ a = 0 := BitVec.toNat_inj (x := a) (y := 0)
    simp only [Bool.or_eq_true, beq_iff_eq, hzero, Bool.and_eq_true, Bool.not_eq_true']
  unfold StationControl.reset
  split
  next hbad => simp [hfaulty.2 hbad]
  next hgood => simp [Bool.eq_false_iff.2 (mt hfaulty.1 hgood)]

/-- With no design open every page slot is free, in rising order (R62, log entry 33). -/
theorem empty_free : PageStore.empty.free = List.range 512 := by simp [PageStore.empty, allSlots, Config.pageSlots]

/-- Settles O22: the record of the hard reset, block by block. -/
theorem hardResetValues : Obligations.HardResetValues := by
  intro a h f s
  have hslot : (a.toNat != 0) = decide (a ≠ 0) := by
    have hzero : a.toNat = 0 ↔ a = 0 := BitVec.toNat_inj (x := a) (y := 0)
    simp only [bne, ← hzero, ne_eq, decide_not]
    rfl
  refine ⟨{ s with dev := Station.hardReset s.dev.now s.dev.pins a.toNat h f }, rfl, rfl, rfl, rfl, rfl, ?_⟩
  refine ⟨?shaft, ?gate, ?station, reset_straps s.dev.now a h f, ⟨hslot, rfl⟩, rfl, ?_⟩
  case shaft => exact ⟨rfl, rfl, rfl, rfl, rfl, rfl, rfl, rfl, rfl⟩
  case gate => exact ⟨rfl, rfl, rfl, rfl, rfl, rfl, rfl, rfl⟩
  case station => exact ⟨rfl, rfl, rfl, rfl, rfl, rfl, rfl, rfl, rfl, rfl, rfl, rfl, rfl, rfl⟩
  refine ⟨?pages, ?stitches, ?pantograph, ?governor, ?case, ?thread, ?head⟩
  case pages => exact ⟨rfl, empty_free, rfl, rfl, rfl, rfl, rfl⟩
  case stitches => exact ⟨rfl, rfl, rfl, rfl, rfl, rfl, rfl⟩
  case pantograph => exact ⟨rfl, rfl, rfl, rfl, rfl, rfl, rfl, rfl, rfl, rfl, rfl, rfl⟩
  case governor => exact ⟨rfl, rfl, rfl, rfl, rfl, rfl, rfl, rfl⟩
  case case => exact ⟨rfl, rfl, rfl, rfl, rfl, rfl, rfl, rfl, rfl⟩
  case thread => exact ⟨rfl, rfl, rfl, rfl, rfl, rfl, rfl, rfl, rfl, rfl⟩
  case head => exact ⟨rfl, rfl, rfl, rfl, rfl⟩

end Sys2Proof.StationStates

/-! ## Faults, head faults and STOP by station state -/

namespace Sys2Proof.StationStates

open Sys2Proof Sys2Proof.Machine Sys2Proof.StitchCycle

/-! ### Halt causes in HALTING and at rest (R34, R35, R37) -/

theorem planned_any_iff (reason : Option HaltReason) :
    reason.any (·.planned) = true ↔ reason = some .colourStop ∨ reason = some .endRecord := by
  cases reason with
  | none => simp
  | some old => simp [planned_eq]

/-- A halt cause that is no planned stop takes the place of one in HALTING, and changes nothing else there (R35). -/
theorem haltCause_halting {reason : HaltReason} {d : Station} (h : d.stc.state = .halting) (hreason : reason.planned = false) :
    haltCause reason d = { d with stc := { d.stc with
      haltReason := if d.stc.haltReason = some .colourStop ∨ d.stc.haltReason = some .endRecord then some reason
        else d.stc.haltReason } } := by
  have hsame : ∀ r, d.stc.haltReason = r → d = { d with stc := { d.stc with haltReason := r } } := by rintro r rfl; rfl
  rw [haltCause, h, ← if_congr (planned_any_iff d.stc.haltReason) rfl rfl]
  cases hr : d.stc.haltReason with
  | none => exact hsame none hr
  | some old =>
    cases hp : old.planned with
    | true => simp [hp, hreason, Station.setStc]
    | false => simpa [hp] using hsame (some old) hr

/-- Settles O38: the record, then the station state in which it arrives. -/
theorem faultActsOnTheState : Obligations.FaultActsOnTheState := by
  refine fun d fr => ⟨fault_still, fault_turning, fault_atRest, fun h => ⟨fun hplanned => ?_, fun hstop hend => ?_⟩,
    fault_armed_ready, fault_armed_halted⟩
  · rw [fault_eq, haltCause_halting (by exact h) rfl]
    exact congrArg (fun r => { recorded fr d with stc := { (recorded fr d).stc with haltReason := r } })
      (if_pos hplanned)
  · rw [fault_eq, haltCause_halting (by exact h) rfl]
    exact congrArg (fun r => { recorded fr d with stc := { (recorded fr d).stc with haltReason := r } })
      (if_neg (not_or.2 ⟨hstop, hend⟩))

/-! ### STOP (R38) -/

/-- A console notice that passes the checks is its owner's effect, closed (R43 to R45). -/
theorem exec_notice {c : Instr} {kind : NoticeKind} {lenOk : Bool} {src : Addr} {p : Payload} {owner : Station → Station}
    {s : State} (hlive : Live s) (hc : noticeOf c = some (kind, lenOk, src, p))
    (heffect : effect c = takeNotice kind lenOk src p owner) (htaken : Taken c s.dev) :
    exec c s = .next (closed s (owner s.dev)) := by
  have htaken' : noticeTaken s.dev kind lenOk src p = true := by simpa [Taken, passesChecks, hc] using htaken
  rw [exec_live hlive (by rintro rfl; cases hc) (by rintro a x y rfl; cases hc), heffect, takeNotice_of_taken htaken']

theorem cutWalk_eq (d : Station) : cutWalk d = { d with ssq := { d.ssq with
    walk := d.ssq.walk.map (fun k => { k with cutPending := true }) } } := by
  unfold cutWalk
  cases hk : d.ssq.walk with
  | none => exact congrArg (fun w => d.setSsq { d.ssq with walk := w }) hk
  | some k => rfl

/-- Settles O40: the Stop reaches its owner, which halts, returns or cuts by the station state. -/
theorem stopByState : Obligations.StopByState := by
  intro src p s hlive htaken d planned reason
  have hexec : exec (.stop src p) s = .next (closed s (stopOwner d)) := exec_notice hlive rfl rfl htaken
  have howner : d.stc.state ≠ .halted → stopOwner d = haltCause .stop d := fun h => if_neg h
  rw [hexec]
  refine ⟨fun hrun hrest => ?_, fun hrun hrest => ?_, fun harmed hformer => ?_, fun harmed hformer => ?_, fun hhalting => ?_,
    fun hhalted => ?_, fun hdone => ?_⟩
  · rw [howner (by simp [hrun]), haltCause_run hrun, enterHalting_turning hrun hrest]
  · rw [howner (by simp [hrun]), haltCause_run hrun, enterHalting_atRest hrun hrest rfl]
  · rw [howner (by simp [harmed]), haltCause_armed harmed, returnToFormer_ready harmed hformer]
  · rw [howner (by simp [harmed]), haltCause_armed harmed, returnToFormer_halted harmed hformer]
  · rw [howner (by simp [hhalting]), haltCause_halting hhalting rfl]
  · rw [stopOwner, if_pos hhalted, cutWalk_eq]
  · rw [howner (by simp [hdone]), haltCause, hdone]

/-! ### Case steps and head faults (R130, R161, R162) -/

theorem tryStep_steps {d : Station} (hdue : StepDue d) (htop : restOnTop d = true) : tryStep d = steps d := by
  rw [tryStep, if_pos ((stepDue_iff d).2 hdue), if_pos htop]
  rfl

/-- A step that is due off top waits for a rest on top (R130). -/
theorem tryStep_waits {d : Station} (hdue : StepDue d) (htop : restOnTop d = false) :
    tryStep d = { d with ncc := { d.ncc with stepWaiting := true } } := by
  rw [tryStep, if_pos ((stepDue_iff d).2 hdue), if_neg (by simp [htop])]
  rfl

section

variable {d : Station}

theorem headCheck_run (hframe : d.stc.frameRole = true) (hnone : noActiveHead d = true) (h : d.stc.state = .run) :
    headCheck d = enterHalting .noActiveHead d := by
  rw [headCheck, if_pos (by simp [hframe, hnone]), h]

theorem headCheck_armed (hframe : d.stc.frameRole = true) (hnone : noActiveHead d = true) (h : d.stc.state = .armed) :
    headCheck d = returnToFormer d := by
  rw [headCheck, if_pos (by simp [hframe, hnone]), h]

/-- Outside RUN and ARMED the count of ACTIVE heads is no matter (R162). -/
theorem headCheck_still (hrun : d.stc.state ≠ .run) (harmed : d.stc.state ≠ .armed) : headCheck d = d := by
  unfold headCheck
  split
  next =>
    cases hs : d.stc.state with
    | run => exact absurd hs hrun
    | armed => exact absurd hs harmed
    | _ => rfl
  next => rfl

end

/-- A head fault under WITHDRAW withdraws an ACTIVE head, and the count of ACTIVE heads is judged (R161, R162). -/
theorem headFault_withdraw {fr : FaultRecord} {d : Station} (h : (thread d).withdraw = true) (ha : d.stc.activity = .active) :
    headFault fr d = headCheck (withdraws fr d) := by
  rw [headFault, if_pos h, if_pos ha, withdrawHead_addRecord]

/-- Settles O60: the step that is due, then a head fault by policy, activity, count and state. -/
theorem stepBeginsAndHeadFault : Obligations.StepBeginsAndHeadFault := by
  intro d fr
  refine ⟨fun hhead harmed hactive hstopped hstep hwanted hservice hcurrent hother htop =>
      tryStep_steps ⟨hhead, harmed, hactive, hstopped, hstep, hwanted, hservice, hcurrent, hother⟩ htop,
    headFault_halt, headFault_not_active, fun hpolicy hactive => ⟨headFault_withdraws hpolicy hactive, ?_⟩⟩
  rw [headFault_withdraw hpolicy hactive]
  refine ⟨fun hframe hnone hrun hrest => ?_, fun hframe hnone hrun hrest => ?_, fun hframe hnone harmed hformer => ?_,
    fun hframe hnone harmed hformer => ?_, fun hrun harmed => ?_⟩
  · rw [headCheck_run (by exact hframe) hnone (by exact hrun), enterHalting_turning (by exact hrun) (by exact hrest)]
  · rw [headCheck_run (by exact hframe) hnone (by exact hrun), enterHalting_atRest (by exact hrun) (by exact hrest) rfl]
  · rw [headCheck_armed (by exact hframe) hnone (by exact harmed), returnToFormer_ready (by exact harmed) (by exact hformer)]
  · rw [headCheck_armed (by exact hframe) hnone (by exact harmed), returnToFormer_halted (by exact harmed) (by exact hformer)]
  · exact headCheck_still hrun harmed

end Sys2Proof.StationStates

/-! ## DESIGN_OPEN -/

namespace Sys2Proof.StationStates

open Sys2Proof Sys2Proof.Machine Sys2Proof.StitchCycle

/-! ### The header (R57) -/

/-- The checks of a header (R57). -/
abbrev HeaderFits (raw : Header) : Prop :=
  1 ≤ raw.stitches ∧ raw.stitches ≤ 786432 ∧ raw.pages * 12 ≥ raw.stitches ∧ raw.pages * 12 < raw.stitches + 12 ∧
    raw.colourStops ≤ 4095 ∧ raw.xmin ≤ raw.xmax ∧ raw.ymin ≤ raw.ymax ∧ 1 ≤ raw.firstSlot ∧ raw.firstSlot ≤ 64

/-- A header that passes is held with its scale clamped (R57). -/
theorem checkHeader_eq (raw : Header) : checkHeader raw =
    if HeaderFits raw then
      .ok { raw with scale := if raw.scale < 50 then 50 else if 200 < raw.scale then 200 else raw.scale }
    else .error .format := by
  have hpages : raw.pages = ceilDiv raw.stitches 12 ↔ raw.pages * 12 ≥ raw.stitches ∧ raw.pages * 12 < raw.stitches + 12 := by
    unfold ceilDiv
    omega
  refine if_congr ?_ rfl rfl
  simp only [Config.maxStitches, Config.pageRecords, Config.colourSlots, hpages, HeaderFits, and_assoc]

/-! ### The head's blocks (R127, R150, R163) -/

/-- A settle judged anew leaves the Thread Monitor as it was, or makes a needle change (R135, R142). -/
theorem judgeSettle_thm (d : Station) : (judgeSettle d).thm = d.thm ∨ (judgeSettle d).thm = (needleChange d).thm := by
  have hcomplete : (completeSettle d).thm = d.thm ∨ (completeSettle d).thm = (needleChange d).thm := by
    unfold completeSettle
    simp only
    split
    · exact .inr rfl
    · exact .inl rfl
  unfold judgeSettle
  (repeat' split)
  · exact .inl rfl
  · exact hcomplete
  · exact .inl rfl
  · exact .inl rfl

theorem openHead_hsc {d : Station} (h : d.stc.headRole = true) : (openHead d).hsc =
    { mark := 0, decision := none, holdEngaged := true, knife := false, knifePending := false } := by
  rw [openHead, if_pos h]
  simp [knifeOff, dropDecision]

/-- The run is ended at a Design Open, whether or not its first slot brings a needle change (R142, R150). -/
theorem openHead_thm {d : Station} (h : d.stc.headRole = true) :
    (openHead d).thm.pen = none ∧ (openHead d).thm.runStart = none ∧ (openHead d).thm.dryCount = 0 := by
  rw [openHead, if_pos h]
  simp only
  rcases judgeSettle_thm ((knifeOff (dropDecision (d.setHsc { d.hsc with mark := 0 }))).setThm
      { (knifeOff (dropDecision (d.setHsc { d.hsc with mark := 0 }))).thm with
        pen := none, suppression := 0, runStart := none, dryCount := 0 }) with ht | ht <;> rw [ht] <;> exact ⟨rfl, rfl, rfl⟩

/-! ### The frame's blocks (R109, R110, R126) -/

theorem openInPlace_pnc (d : Station) : (openInPlace d).pnc =
    { d.pnc with inPlace := (openInPlace d).pnc.inPlace, after := (openInPlace d).pnc.after } := by
  unfold openInPlace
  (repeat' split) <;> rfl

/-- In-place at a Design Open: judged against the origin with neither a HOME nor a move in progress (R109). -/
theorem openInPlace_iff (d : Station) : (openInPlace d).pnc.inPlace = true ↔
    (∀ hx hy, d.pnc.go ≠ some (.home hx hy)) ∧ d.pnc.move = none ∧ d.pnc.homed = true ∧ d.pnc.x = d.pnc.originX ∧
      d.pnc.y = d.pnc.originY := by
  unfold openInPlace
  split
  next hx hy hgo => simp [hgo]
  next hno =>
    have hgo : ∀ hx hy, d.pnc.go ≠ some (.home hx hy) := fun hx hy he => hno hx hy he
    split
    next hmove => simp [Option.isSome_iff_ne_none.1 hmove]
    next hmove =>
      have hnone : d.pnc.move = none := by simpa using hmove
      simp [hgo, hnone, judgeInPlace, and_assoc]

theorem traceEnds_home (g : Option Go) (hx hy : HomeAxis) : traceEnds g = some (.home hx hy) ↔ g = some (.home hx hy) := by
  unfold traceEnds
  split <;> simp

/-- The frame station's pantograph before in-place is judged at a Design Open (R95, R109). -/
def openMoves (d : Station) : Station :=
  let e := d.setPnc { d.pnc with pending := none, waiting := none, deferred := false, go := traceEnds d.pnc.go }
  e.setPnc { e.pnc with finding := findingNow e }

theorem openFrame_eq {d : Station} (h : d.stc.frameRole = true) : openFrame d = governorEnd (openInPlace (openMoves d)) :=
  if_pos h

/-- With no page held there is no next target (R95). -/
theorem findingNow_opened {d : Station} {h : Header} (hpgs : d.pgs = PageStore.opened h) : findingNow d = none := by
  have hread : d.pgs.read (d.ssq.stitch + 1) = none := by rw [hpgs]; rfl
  rw [findingNow, hread]

theorem openFrame_pnc {d : Station} {h : Header} (hframe : d.stc.frameRole = true) (hpgs : d.pgs = PageStore.opened h) :
    (openFrame d).pnc = { d.pnc with
      pending := none, waiting := none, deferred := false, go := traceEnds d.pnc.go, finding := none
      inPlace := (openInPlace (openMoves d)).pnc.inPlace, after := (openInPlace (openMoves d)).pnc.after } := by
  have hfinding : (openMoves d).pnc.finding = none := by
    change findingNow _ = none
    exact findingNow_opened (by exact hpgs)
  rw [openFrame_eq hframe, (governorEnd_frame _).2.2.2.2.2.2.2.2.2.2.1, openInPlace_pnc]
  rw [← hfinding]
  rfl

/-! ### The design-level reset (R58, R59) -/

/-- The station with the design opened, before the head's and the frame's blocks act on it (R39, R58, R91). -/
def designHeld (h : Header) (d : Station) : Station :=
  (((openStc d).setPgs (PageStore.opened h)).setSsq (openSsq h)).setGtu { d.gtu with dwellCount := 0 }

theorem openStc_stc (d : Station) : (openStc d).stc = { d.stc with
    state := .ready, haltReason := none
    activity := if d.stc.activity = .withdrawn then .active else d.stc.activity } := by
  unfold openStc
  by_cases h : d.stc.state = .ready
  · simp only [enterState_of_eq h, Station.setStc_stc]
    rw [← h]
  · simp only [enterState_of_ne h, Station.setStc_stc]

/-- The station stands in READY, where the count of ACTIVE heads is no matter (R162). -/
theorem openDesign_eq (h : Header) (d : Station) : openDesign h d = openFrame (openHead (designHeld h d)) := by
  have hgtu : (openStc d).gtu = d.gtu := (openStc_frame d).2.2.2.2.1
  have hready : (openFrame (openHead (designHeld h d))).stc.state = .ready := by simp [designHeld, openStc_stc]
  rw [← headCheck_still (d := openFrame (openHead (designHeld h d))) (by rw [hready]; decide) (by rw [hready]; decide),
    designHeld, ← hgtu]
  rfl

/-- The Gate Unit's dwell count at the end of a command. -/
theorem finish_dwellCount (b a : Station) : (finish b a).gtu.dwellCount = a.gtu.dwellCount := by
  rw [finish_eq]
  rfl

/-- Without a decision standing there is none to withhold (R155). -/
theorem holdIfUnfit_of_no_decision {d : Station} (h : d.hsc.decision = none) : holdIfUnfit d = d := by
  have hwithhold : withholdPenetration d = d := by rw [withholdPenetration, h]
  rw [holdIfUnfit_eq, hwithhold, ite_self]

/-- Settles O51: the header's checks, then the blocks of the design-level reset in their order. -/
theorem designOpenResetsTheDesign : Obligations.DesignOpenResetsTheDesign := by
  intro src p s hlive htaken d raw good h
  have hexec : exec (.designOpen src p) s = .next (closed s (designOpenOwner p d)) := exec_notice hlive rfl rfl htaken
  rw [hexec, designOpenOwner, checkHeader_eq]
  refine ⟨fun hbad => ?_, fun hgood => ⟨closed s (openDesign h d), ?_, rfl, ?_⟩⟩
  · rw [if_neg (by exact hbad)]
    exact congrArg (fun e => Host.Outcome.next (closed s e)) (refuse_eq _ _ _)
  · rw [if_pos (by exact hgood)]
  have hhead : (designHeld h d).stc.headRole = d.stc.headRole := by simp [designHeld]
  have hframe : (openHead (designHeld h d)).stc.frameRole = d.stc.frameRole := by simp [designHeld]
  have hpnc : (openHead (designHeld h d)).pnc = d.pnc := by simp [designHeld]
  have hpgs : (openHead (designHeld h d)).pgs = PageStore.opened h := by simp [designHeld]
  simp only [closed, openDesign_eq, finish_frame, finish_dwellCount]
  refine ⟨?station, ?pages, ?stitches, ?dwell, ?shaft, ?pins, ?peers, ?counts, ?service, fun hh => ?head, fun hf => ?frame⟩
  case station => simp [designHeld, openStc_stc]
  case pages => simp [designHeld, PageStore.opened, PageStore.empty, allSlots, Config.pageSlots]
  case stitches => simp [designHeld, openSsq, Sequencer.reset, WalkReport.clear]
  case dwell => simp [designHeld]
  case shaft => simp [designHeld, d]
  case pins => simp [designHeld, d]
  case peers => simp [designHeld, d]
  case counts => simp [designHeld, d]
  case service => simp [designHeld, d]
  case head =>
    have hhsc := openHead_hsc (hhead.trans hh)
    have hkept := holdIfUnfit_of_no_decision (d := openFrame (openHead (designHeld h d))) (by simp [hhsc])
    simp [hkept, hhsc, openHead_thm (hhead.trans hh)]
  case frame =>
    have hmoves := openFrame_pnc (hframe.trans hf) hpgs
    have hplace := openInPlace_iff (openMoves (openHead (designHeld h d)))
    have hgo : ∀ hx hy, (openMoves (openHead (designHeld h d))).pnc.go ≠ some (.home hx hy) ↔
        (openHead (designHeld h d)).pnc.go ≠ some (.home hx hy) := fun hx hy => (traceEnds_home _ hx hy).not
    simp only [hgo] at hplace
    rw [hmoves, hpnc, openFrame_eq (hframe.trans hf)]
    refine ⟨rfl, rfl, rfl, rfl, rfl, rfl, rfl, rfl, rfl, rfl, rfl, ?_⟩
    rw [← hpnc]
    exact hplace

end Sys2Proof.StationStates

/-! ## STATUS_RECEIVED: what the Peer Table keeps -/

namespace Sys2Proof.StationStates

open Sys2Proof Sys2Proof.Machine Sys2Proof.StitchCycle

/-! ### The entry of the transmitter (R52, R55) -/

/-- The Peer Table with a Status heard from an address, its mismatched-at-rest mark judged (R52, R55). -/
def heardAs (a : Nat) (i : StatusItems) (mark : Bool) (d : Station) : Station :=
  { d with prt := d.prt.map (fun x =>
      if x.addr = a then { x with heard := true, last := some i, ageFrom := d.now, lost := false, mismatched := mark } else x) }

/-- The station at which the hand-offs of a Status begin (R52). -/
abbrev heardBy (a : Nat) (i : StatusItems) (d : Station) : Station := setPeer a (hear d.now i) d

theorem setPeer_mark_heardBy (a : Nat) (i : StatusItems) (mark : Bool) (d : Station) :
    setPeer a (fun x => { x with mismatched := mark }) (heardBy a i d) = heardAs a i mark d := by
  have hentry : ∀ x : PeerEntry, (if (if x.addr = a then hear d.now i x else x).addr = a then
      { (if x.addr = a then hear d.now i x else x) with mismatched := mark } else (if x.addr = a then hear d.now i x else x)) =
      if x.addr = a then { x with heard := true, last := some i, ageFrom := d.now, lost := false, mismatched := mark } else x := by
    intro x
    by_cases h : x.addr = a
    · simp only [if_pos h]
      exact if_pos h
    · simp only [if_neg h]
  have hlist : ((d.prt.map (fun x => if x.addr = a then hear d.now i x else x)).map
      (fun x => if x.addr = a then { x with mismatched := mark } else x)) = (heardAs a i mark d).prt := by
    rw [List.map_map]
    exact List.map_congr_left fun x _ => hentry x
  exact congrArg (fun q => { d with prt := q }) hlist

/-- The count of R162 asks nothing of the mismatched-at-rest mark. -/
theorem noActiveHead_heardAs (a : Nat) (i : StatusItems) (mark : Bool) (d : Station) :
    noActiveHead (heardAs a i mark d) = noActiveHead (heardBy a i d) := by
  have hany : ∀ p : PeerEntry → Bool, (∀ x : PeerEntry, p { x with mismatched := mark } = p x) →
      (heardAs a i mark d).prt.any p = (heardBy a i d).prt.any p := by
    intro p hp
    rw [← setPeer_mark_heardBy]
    change List.any (List.map _ _) p = _
    rw [List.any_map]
    refine List.any_congr rfl fun x => ?_
    rw [Function.comp_apply]
    split
    · exact hp x
    · rfl
  rw [noActiveHead, noActiveHead, hany]
  · rfl
  · exact fun _ => rfl

/-! ### The operations that leave the Peer Table -/

/-- An operation that neither reads nor writes the Peer Table. -/
def IgnoresPeers (f : Station → Station) : Prop := ∀ (q : List PeerEntry) (d : Station), f (d.setPrt q) = (f d).setPrt q

namespace IgnoresPeers

theorem prt {f : Station → Station} (hf : IgnoresPeers f) (d : Station) : (f d).prt = d.prt := by
  have hsame : f d = (f d).setPrt d.prt := hf d.prt d
  rw [hsame]
  rfl

theorem setPeer {f : Station → Station} (hf : IgnoresPeers f) (a : Nat) (g : PeerEntry → PeerEntry) (d : Station) :
    setPeer a g (f d) = f (setPeer a g d) := by
  rw [Machine.setPeer, Machine.setPeer, hf, hf.prt]

theorem id : IgnoresPeers id := fun _ _ => rfl

theorem creeps : IgnoresPeers creeps := fun _ _ => rfl

theorem crept : IgnoresPeers crept := fun q d => by
  have hdue : CreepDue (d.setPrt q) ↔ CreepDue d := Iff.rfl
  unfold StitchCycle.crept
  by_cases h : CreepDue d
  · rw [if_pos h, if_pos (hdue.2 h)]
    rfl
  · rw [if_neg h, if_neg (mt hdue.1 h)]

theorem halts (reason : HaltReason) : IgnoresPeers (halts reason) := fun q d => by
  have hsli : (causeStatus (d.setPrt q)).sli = (causeStatus d).sli := causeStatus_sli_congr rfl rfl rfl
  unfold Machine.halts
  rw [hsli]
  rfl

theorem stops (reason : HaltReason) : IgnoresPeers (stops reason) := fun q d => by
  have hmoved : ∀ e : Station, pendingStarted (e.setPrt q) = (pendingStarted e).setPrt q := fun e => by
    rw [pendingStarted_congr (d := e) (e := e.setPrt q) rfl rfl rfl, pendingStarted_frame e]
    rfl
  have hleft := hmoved (Machine.halts reason d)
  rw [← halts reason q d] at hleft
  change StitchCycle.crept _ = (StitchCycle.crept _).setPrt q
  rw [hleft, ← crept]
  rfl

theorem returnsToReady : IgnoresPeers returnsToReady := fun q d => by
  have hsli : (causeStatus (d.setPrt q)).sli = (causeStatus d).sli := causeStatus_sli_congr rfl rfl rfl
  unfold Machine.returnsToReady
  rw [hsli]
  rfl

theorem returnsToHalted : IgnoresPeers returnsToHalted := fun q d => by
  have hsli : (causeStatus (d.setPrt q)).sli = (causeStatus d).sli := causeStatus_sli_congr rfl rfl rfl
  change StitchCycle.crept _ = (StitchCycle.crept _).setPrt q
  rw [← crept, hsli]
  rfl

theorem walkOver : IgnoresPeers walkOver := fun _ _ => rfl

end IgnoresPeers

/-! ### The stitch numbers compared (R55) -/

/-- The stitch numbers of two stations at rest differ (R55). -/
def indexDiffers (i : StatusItems) (d : Station) : Bool := comparedAtRest i d && decide (d.ssq.stitch ≠ i.stitch)

theorem restState_iff (st : StationState) : restState st = true ↔ st = .ready ∨ st = .armed ∨ st = .halted ∨ st = .done := by
  cases st <;> simp [restState]

theorem indexDiffers_of_turning {i : StatusItems} {d : Station} (h : restState d.stc.state = false) : indexDiffers i d = false := by
  simp [indexDiffers, comparedAtRest, h]

theorem indexDiffers_iff {i : StatusItems} {d : Station} (h : restState d.stc.state = true) : indexDiffers i d = true ↔
    d.ssq.walk = none ∧ (i.state = .ready ∨ i.state = .armed ∨ i.state = .halted ∨ i.state = .done) ∧ i.walking = false ∧
      i.stitch ≠ d.ssq.stitch := by
  simp only [indexDiffers, comparedAtRest, h, ← restState_iff, Bool.true_and, Bool.and_eq_true, Option.isNone_iff_eq_none,
    Bool.not_eq_true', decide_eq_true_eq, ne_comm (a := i.stitch), and_assoc, and_left_comm (a := restState i.state = true)]

theorem runsApart_iff (i : StatusItems) (d : Station) : runsApart i d = true ↔
    d.stc.state = .run ∧ i.state = .run ∧ d.ssq.walk = none ∧ i.walking = false ∧
      (d.ssq.stitch + 1 < i.stitch ∨ i.stitch + 1 < d.ssq.stitch) := by
  simp only [runsApart, Bool.and_eq_true, decide_eq_true_eq, Option.isNone_iff_eq_none, Bool.not_eq_true', and_assoc]

/-- The INDEX_MISMATCH record of a peer (R55). -/
def apartFault (a : Nat) (d : Station) : FaultRecord :=
  { kind := .indexMismatch, stitch := d.ssq.stitch, needle := none, value := some a }

section

variable {a : Nat} {i : StatusItems} {d : Station} {f : Station → Station}

theorem setPeer_mark (hf : IgnoresPeers f) (mark : Bool) :
    setPeer a (fun x => { x with mismatched := mark }) (f (heardBy a i d)) = f (heardAs a i mark d) := by
  rw [hf.setPeer, setPeer_mark_heardBy]

/-- The comparisons of R55 after a hand-off that leaves the Peer Table: the mark, and no fault. -/
theorem judgeIndex_marks (hf : IgnoresPeers f) (hrun : runsApart i (f (heardBy a i d)) = false)
    (harmed : indexDiffers i (f (heardBy a i d)) = true → (f (heardBy a i d)).stc.state ≠ .armed) :
    judgeIndex a i (f (heardBy a i d)) = f (heardAs a i (indexDiffers i (f (heardBy a i d))) d) := by
  have hapart : ¬(runsApart i (f (heardBy a i d)) || (indexDiffers i (f (heardBy a i d)) &&
      decide ((f (heardBy a i d)).stc.state = .armed))) = true := by
    simpa [hrun] using harmed
  rw [← setPeer_mark hf]
  exact if_neg hapart

/-- The comparisons of R55 that find an INDEX_MISMATCH: the mark, then the fault. -/
theorem judgeIndex_faults (hf : IgnoresPeers f)
    (hapart : runsApart i (f (heardBy a i d)) = true ∨
      (indexDiffers i (f (heardBy a i d)) = true ∧ (f (heardBy a i d)).stc.state = .armed)) :
    judgeIndex a i (f (heardBy a i d)) =
      fault (apartFault a (f (heardBy a i d))) (f (heardAs a i (indexDiffers i (f (heardBy a i d))) d)) := by
  have hapart' : (runsApart i (f (heardBy a i d)) || (indexDiffers i (f (heardBy a i d)) &&
      decide ((f (heardBy a i d)).stc.state = .armed))) = true := by
    simpa using hapart
  rw [← setPeer_mark hf]
  exact if_pos hapart'

end

/-! ### The hand-offs that do nothing (R54, R86, R122, R162) -/

section

variable {e : PeerEntry} {i : StatusItems} {d : Station}

theorem handActivity_counted (h : ¬(e.head = true ∧ d.stc.frameRole = true ∧ (d.stc.state = .run ∨ d.stc.state = .armed) ∧
    noActiveHead d = true)) : handActivity e d = d := by
  unfold handActivity
  split
  next hhead =>
    by_cases hjudged : d.stc.state = .run ∨ d.stc.state = .armed
    · refine headCheck_of_counted ?_
      by_contra hno
      rw [not_or, Bool.not_eq_false, Bool.not_eq_false] at hno
      exact h ⟨hhead, hno.1, hjudged, hno.2⟩
    · rw [not_or] at hjudged
      exact headCheck_still hjudged.1 hjudged.2
  next => rfl

theorem handFrameStitch_still (h : d.stc.headRole = true ∧ d.stc.frameRole = false ∧ e.frame = true ∧ i.walking = false →
    d.ssq.walk = none) : handFrameStitch e i d = d := by
  unfold handFrameStitch
  split
  next hfollows =>
    simp only [Bool.and_eq_true, Bool.not_eq_true', and_assoc] at hfollows
    rw [h hfollows]
  next => rfl

theorem handPeerRest_still (h : d.stc.state ≠ .armed) : handPeerRest i d = d := if_neg (by simp [h])

theorem judgePeerHalt_still (h : d.stc.state ≠ .run ∨ i.state ≠ .halting) : judgePeerHalt i d = d := if_neg (by tauto)

/-- A peer at rest off top, in ARMED, is what begins the sequence of R122. -/
theorem handPeerRest_armed (h : d.stc.state = .armed) : handPeerRest i d =
    if d.stc.frameRole = true ∧ d.sht.atRest = true ∧ d.sht.onTop = true ∧ d.pins.driveReady = true ∧
      d.sgv.reposition = none ∧ i.state = .armed ∧ i.atRest = true ∧ i.onTop = false then creeps d else d := by
  refine if_congr ?_ rfl rfl
  simp only [h, restOnTop, sequenceFree, Bool.and_eq_true, decide_eq_true_eq, Bool.not_eq_true', Option.isNone_iff_eq_none]
  tauto

end

end Sys2Proof.StationStates

/-! ## STATUS_RECEIVED: the hand-offs by station state -/

namespace Sys2Proof.StationStates

open Sys2Proof Sys2Proof.Machine Sys2Proof.StitchCycle

/-! ### Address clash (R24, R50) -/

/-- The record is kept through the entry to JOINING, and the lock empties the slot (R24, R47). -/
theorem addressClash_eq (d : Station) : addressClash d =
    ((recorded (plainRecord .addressClash d.stc.addr d) (toJoining true d)).setStc
      { (recorded (plainRecord .addressClash d.stc.addr d) (toJoining true d)).stc with lock := .addressClash }).setSli
      { (toJoining true d).sli with slotPending := false, sending := none, causeAgain := false } := by
  rw [← addRecord_eq]
  unfold addressClash
  simp

theorem toJoining_stc (clash : Bool) (d : Station) : (toJoining clash d).stc = joinStc clash d.now d.stc := by simp [toJoining]

theorem addressClash_stc (d : Station) :
    (addressClash d).stc = { (recorded (plainRecord .addressClash d.stc.addr d) d).stc with
      state := .joining, lock := .addressClash, roster := none, timing := none, motion := none, thread := none
      joinTimer := none, former := .none, armTimer := none, haltReason := none, activity := .active } := by
  rw [addressClash_eq, Station.setSli_stc, Station.setStc_stc, recorded, toJoining_stc]
  rfl

/-- The blocks of a station that has met its own address on the line (R24). -/
theorem addressClash_blocks (d : Station) :
    (addressClash d).sli.slotPending = false ∧ (addressClash d).sli.sending = none ∧ (addressClash d).prt = [] ∧
    (addressClash d).pgs = PageStore.empty ∧ (addressClash d).ssq = Sequencer.reset ∧
    (addressClash d).sgv = joinSgv d.sgv ∧ (addressClash d).hsc = joinHsc d.hsc := by
  rw [addressClash_eq]
  simp [toJoining, recorded]

/-- A muted station's slot stays as it was at the end of a command (R47). -/
theorem finish_sli_of_clash {b a : Station} (h : a.stc.lock = .addressClash) : (finish b a).sli = a.sli := by
  have hmuted : (causeStatus a).sli = a.sli := by rw [causeStatus_sli_eq, if_pos (.inl h)]
  rw [finish_eq, hmuted, ite_self]

/-- The line is pulled low at the end of every command that leaves the station in JOINING (R10). -/
theorem finish_drive_of_joining {b a : Station} (h : a.stc.state = .joining) : (finish b a).gtu.drive = .low := by
  have hwaits : gateWaits a = none := gateWaits_of_not_act (by simp [guardsAct, h])
  have hdrive : (gateAfter a).drive = wantedLevel a := if_pos hwaits
  rw [finish_eq]
  exact hdrive.trans (by rw [wantedLevel, h])

/-! ### The end of a walk on the frame station's Status (R86, R88) -/

section

variable {e : PeerEntry} {i : StatusItems} {k : Walk} {d : Station}

theorem handFrameStitch_follows (h : d.stc.headRole = true ∧ d.stc.frameRole = false ∧ e.frame = true ∧ i.walking = false)
    (hwalk : d.ssq.walk = some k) : handFrameStitch e i d = headWalkEnd k i d := by
  obtain ⟨hhead, hframe, hpeer, hwalking⟩ := h
  unfold handFrameStitch
  rw [if_pos (by simp [hhead, hframe, hpeer, hwalking]), hwalk]

/-- The frame station shows a stitch of the walk that is not its end: the cut (R88). -/
theorem headWalkEnd_eq : headWalkEnd k i d =
    if (i.state = .halted ∨ i.state = .done) ∧ min k.start k.target ≤ i.stitch ∧ i.stitch ≤ max k.start k.target ∧
      i.stitch ≠ d.ssq.stitch then copyStitch k i.stitch d else walkOver d := by
  refine if_congr ?_ rfl rfl
  simp only [inWalk, Bool.and_eq_true, decide_eq_true_eq, and_assoc]

/-- The stitch copied by a head-only station: the Stitch Sequencer and the Page Store, and the settle judged anew (R87, R88). -/
theorem copyStitch_fields (n : Nat) (h : d.stc.frameRole = false) :
    (copyStitch k n d).stc = d.stc ∧ (copyStitch k n d).pnc = d.pnc ∧
    (copyStitch k n d).pgs = d.pgs.moveTo (motion d).retention d.ssq.stitch n ∧
    (copyStitch k n d).ssq = { d.ssq with
      stitch := n
      px := d.ssq.px + (if d.ssq.stitch ≤ n then d.pgs.displacement d.ssq.stitch (n - d.ssq.stitch)
        else (-(d.pgs.displacement n (d.ssq.stitch - n)).1, -(d.pgs.displacement n (d.ssq.stitch - n)).2)).1
      py := d.ssq.py + (if d.ssq.stitch ≤ n then d.pgs.displacement d.ssq.stitch (n - d.ssq.stitch)
        else (-(d.pgs.displacement n (d.ssq.stitch - n)).1, -(d.pgs.displacement n (d.ssq.stitch - n)).2)).2
      walk := none
      slot := if decide (k.dir = .back) then d.ssq.slot else k.slot
      mark := if decide (k.dir = .back) then d.ssq.mark else k.mark
      report := { d.ssq.report with actual := if k.start ≤ n then n - k.start else k.start - n, outcome := .walkCut } } := by
  have hframe : (walkOver (cutReport k n (moveStitch n d))).stc.frameRole = false := by simp [h]
  have hafter : ∀ x : Station, x.stc.frameRole = false →
      (afterStitchChange x).stc = x.stc ∧ (afterStitchChange x).pnc = x.pnc ∧ (afterStitchChange x).pgs = x.pgs ∧
        (afterStitchChange x).ssq = x.ssq := by
    intro x hx
    have hstill : ∀ y : Station, y.stc.frameRole = false → recomputeFinding y = y := fun y hy => if_neg (by simp [hy])
    unfold afterStitchChange
    split
    · rw [hstill _ (by simpa using hx)]
      simp
    · rw [hstill _ hx]
      exact ⟨rfl, rfl, rfl, rfl⟩
  obtain ⟨hstc, hpnc, hpgs, hssq⟩ := hafter _ hframe
  unfold copyStitch
  rw [hstc, hpnc, hpgs, hssq]
  unfold walkOver cutReport moveStitch
  cases k.dir <;> simp

end

/-! ### The hand-offs in their order (R52) -/

section

variable {a : Nat} {e : PeerEntry} {i : StatusItems} {d : Station} {f g : Station → Station} {m : Bool}

theorem hearPeer_judged (ha : e.addr = a)
    (hhands : handPeerRest i (handFrameStitch e i (handActivity e (heardBy a i d))) = f (heardBy a i d))
    (hhalt : judgePeerHalt i (f (heardBy a i d)) = g (heardBy a i d)) :
    hearPeer e i d = judgeIndex a i (g (heardBy a i d)) := by
  subst ha
  rw [← hhalt, ← hhands]
  rfl

/-- Hand-offs that leave the station neither in RUN nor in ARMED: no fault follows, the mark alone is judged (R55). -/
theorem hearPeer_marks (ha : e.addr = a) (hf : IgnoresPeers f)
    (hhands : handPeerRest i (handFrameStitch e i (handActivity e (heardBy a i d))) = f (heardBy a i d))
    (hrun : (f (heardBy a i d)).stc.state ≠ .run) (harmed : (f (heardBy a i d)).stc.state ≠ .armed)
    (hm : indexDiffers i (f (heardBy a i d)) = m) : hearPeer e i d = f (heardAs a i m d) := by
  have hapart : runsApart i (f (heardBy a i d)) = false := Bool.eq_false_iff.2 fun h => hrun ((runsApart_iff _ _).1 h).1
  rw [hearPeer_judged ha hhands (judgePeerHalt_still (.inl hrun)), judgeIndex_marks hf hapart fun _ => harmed, hm]

/-- The last ACTIVE head gone (R162): the halt or the return to the former state comes before every other hand-off (log entry 52). -/
theorem hearPeer_headless (ha : e.addr = a) (hf : IgnoresPeers f) (hhead : e.head = true)
    (hcheck : headCheck (heardBy a i d) = f (heardBy a i d)) (hframe : (f (heardBy a i d)).stc.frameRole = true)
    (hrun : (f (heardBy a i d)).stc.state ≠ .run) (harmed : (f (heardBy a i d)).stc.state ≠ .armed)
    (hm : indexDiffers i (f (heardBy a i d)) = m) : hearPeer e i d = f (heardAs a i m d) := by
  refine hearPeer_marks ha hf ?_ hrun harmed hm
  rw [handActivity, if_pos hhead, hcheck, handFrameStitch_still (by simp [hframe]), handPeerRest_still harmed]

/-- Without a count to lose or a walk to end the first hand-offs do nothing (R86, R162). -/
theorem handed_quiet
    (hcount : ¬(e.head = true ∧ d.stc.frameRole = true ∧ (d.stc.state = .run ∨ d.stc.state = .armed) ∧
      noActiveHead (heardAs a i false d) = true))
    (hwalk : d.stc.headRole = true ∧ d.stc.frameRole = false ∧ e.frame = true ∧ i.walking = false → d.ssq.walk = none) :
    handFrameStitch e i (handActivity e (heardBy a i d)) = heardBy a i d := by
  rw [noActiveHead_heardAs] at hcount
  rw [handActivity_counted hcount, handFrameStitch_still (d := heardBy a i d) hwalk]

/-- The mark of a station at rest whose Stitch Sequencer is as it was (R55). -/
theorem indexDiffers_at_rest {x : Station} (hrest : restState x.stc.state = true) (hssq : x.ssq = d.ssq) :
    indexDiffers i x = decide (d.ssq.walk = none ∧
      (i.state = .ready ∨ i.state = .armed ∨ i.state = .halted ∨ i.state = .done) ∧ i.walking = false ∧
      i.stitch ≠ d.ssq.stitch) := by
  rw [Bool.eq_iff_iff, indexDiffers_iff hrest, hssq, decide_eq_true_iff]

end

theorem crept_ssq (d : Station) : (crept d).ssq = d.ssq := by
  unfold crept
  split <;> rfl

theorem stops_ssq (reason : HaltReason) (d : Station) : (stops reason d).ssq = d.ssq := by
  change (crept _).ssq = _
  rw [crept_ssq, pendingStarted_frame]
  rfl

theorem stops_left (reason : HaltReason) (d : Station) :
    (stops reason d).stc.state = .halted ∨ (stops reason d).stc.state = .done := by
  rw [stops_state]
  split
  · exact .inr rfl
  · exact .inl rfl

theorem stops_frameRole (reason : HaltReason) (d : Station) : (stops reason d).stc.frameRole = d.stc.frameRole := by
  change (crept _).stc.frameRole = _
  rw [crept_stc, pendingStarted_frame]
  rfl

end Sys2Proof.StationStates

/-! ## STATUS_RECEIVED: the obligation -/

namespace Sys2Proof.StationStates

open Sys2Proof Sys2Proof.Machine Sys2Proof.StitchCycle

theorem takeStatus_of_entry {src : Addr} {p : Payload} {d : Station} {e : PeerEntry} {i : StatusItems} (hsrc : src ≠ 0)
    (hclash : ¬(src.toNat = d.stc.addr ∧ d.stc.lock = .none)) (hentry : peerOf d src.toNat = some e)
    (hitems : decodeStatus p = some i) : takeStatus src p d = hearPeer e i d := by
  have hzero : src.toNat ≠ 0 := fun h => hsrc (BitVec.toNat_inj (x := src) (y := 0) |>.1 h)
  rw [takeStatus, if_neg hzero, if_neg hclash, hentry, hitems]

/-- A source without an entry, or a payload that is no Status, changes nothing (R52, log entry 27). -/
theorem takeStatus_of_none {src : Addr} {p : Payload} {d : Station}
    (hclash : ¬(src.toNat = d.stc.addr ∧ d.stc.lock = .none)) (h : peerOf d src.toNat = none ∨ decodeStatus p = none) :
    takeStatus src p d = d := by
  rw [takeStatus, if_neg hclash]
  split
  · rfl
  · split
    next hentry hitems => rcases h with h | h <;> simp_all
    next => rfl

section

variable {a : Nat} {e : PeerEntry} {i : StatusItems} {d : Station}

/-- A peer in RUN more than one stitch away is a fault, and leaves no mark: the mark is of stations at rest (R55). -/
theorem hearPeer_runsApart (ha : e.addr = a)
    (hhands : handFrameStitch e i (handActivity e (heardBy a i d)) = heardBy a i d) (hrun : d.stc.state = .run)
    (hpeer : i.state = .run) (hwalk : d.ssq.walk = none) (hwalking : i.walking = false)
    (hfar : d.ssq.stitch + 1 < i.stitch ∨ i.stitch + 1 < d.ssq.stitch) :
    hearPeer e i d = fault (apartFault a d) (heardAs a i false d) := by
  have hapart : runsApart i (heardBy a i d) = true := (runsApart_iff _ _).2 ⟨hrun, hpeer, hwalk, hwalking, hfar⟩
  have hmark : indexDiffers i (heardBy a i d) = false := indexDiffers_of_turning (by simp [hrun, restState])
  have hjudged := judgeIndex_faults (f := id) IgnoresPeers.id (.inl hapart)
  simp only [id, hmark] at hjudged
  rw [hearPeer_judged (f := id) (g := id) ha ?_ (judgePeerHalt_still (.inr (by simp [hpeer])))]
  · exact hjudged
  · rw [hhands, handPeerRest_still (by simp [hrun])]
    rfl

/-- With neither a peer in HALTING nor one too far away a station in RUN goes on (R54, R55). -/
theorem hearPeer_runs (ha : e.addr = a)
    (hhands : handFrameStitch e i (handActivity e (heardBy a i d)) = heardBy a i d) (hrun : d.stc.state = .run)
    (hpeer : i.state ≠ .halting)
    (hnear : ¬(i.state = .run ∧ d.ssq.walk = none ∧ i.walking = false ∧
      (d.ssq.stitch + 1 < i.stitch ∨ i.stitch + 1 < d.ssq.stitch))) :
    hearPeer e i d = heardAs a i false d := by
  have hapart : runsApart i (heardBy a i d) = false := Bool.eq_false_iff.2 fun h => hnear ((runsApart_iff _ _).1 h).2
  have hmark : indexDiffers i (heardBy a i d) = false := indexDiffers_of_turning (by simp [hrun, restState])
  have hjudged := judgeIndex_marks (f := id) IgnoresPeers.id hapart fun _ => by simp [hrun]
  simp only [id, hmark] at hjudged
  rw [hearPeer_judged (f := id) (g := id) ha ?_ (judgePeerHalt_still (.inr hpeer))]
  · exact hjudged
  · rw [hhands, handPeerRest_still (by simp [hrun])]
    rfl

/-- A peer in HALTING halts a station in RUN, and its stitch number is compared no more (R54, R55). -/
theorem hearPeer_peerHalt {f : Station → Station} (ha : e.addr = a) (hf : IgnoresPeers f)
    (hhands : handFrameStitch e i (handActivity e (heardBy a i d)) = heardBy a i d) (hrun : d.stc.state = .run)
    (hpeer : i.state = .halting) (hcause : enterHalting .peerHalt (heardBy a i d) = f (heardBy a i d))
    (hleft : (f (heardBy a i d)).stc.state ≠ .run) : hearPeer e i d = f (heardAs a i false d) := by
  have hapart : runsApart i (f (heardBy a i d)) = false := Bool.eq_false_iff.2 fun h => hleft ((runsApart_iff _ _).1 h).1
  have hmark : indexDiffers i (f (heardBy a i d)) = false := by simp [indexDiffers, comparedAtRest, hpeer, restState]
  have hhalt : judgePeerHalt i (heardBy a i d) = f (heardBy a i d) := by
    rw [judgePeerHalt, if_pos (by simp [hrun, hpeer]), haltCause_run (by simp [hrun]), hcause]
  rw [hearPeer_judged (f := id) ha ?_ hhalt, judgeIndex_marks hf hapart (by simp [hmark]), hmark]
  rw [hhands, handPeerRest_still (by simp [hrun])]
  rfl

/-- In ARMED the sequence for the peer's rest begins first, and a stitch number that differs is a fault (R55, R122). -/
theorem hearPeer_armed {f : Station → Station} {m : Bool} (ha : e.addr = a) (hf : IgnoresPeers f)
    (hhands : handFrameStitch e i (handActivity e (heardBy a i d)) = heardBy a i d)
    (hrest : handPeerRest i (heardBy a i d) = f (heardBy a i d)) (harmed : (f (heardBy a i d)).stc.state = .armed)
    (hm : indexDiffers i (f (heardBy a i d)) = m) :
    hearPeer e i d = if m then fault (apartFault a (f (heardBy a i d))) (f (heardAs a i true d)) else f (heardAs a i false d) := by
  have hhalt : judgePeerHalt i (f (heardBy a i d)) = f (heardBy a i d) := judgePeerHalt_still (.inl (by simp [harmed]))
  rw [hearPeer_judged ha (by rw [hhands, hrest]) hhalt]
  cases m with
  | true => rw [judgeIndex_faults hf (.inr ⟨hm, harmed⟩), hm, if_pos rfl]
  | false =>
    have hapart : runsApart i (f (heardBy a i d)) = false :=
      Bool.eq_false_iff.2 fun h => absurd ((runsApart_iff _ _).1 h).1 (by simp [harmed])
    rw [judgeIndex_marks hf hapart (by simp [hm]), hm, if_neg nofun]

/-- The cut copied from the frame station leaves the stitch numbers equal (R55, R88). -/
theorem hearPeer_copies {k : Walk} (ha : e.addr = a) (hstate : d.stc.state = .halted)
    (hfollows : d.stc.headRole = true ∧ d.stc.frameRole = false ∧ e.frame = true ∧ i.walking = false)
    (hwalk : d.ssq.walk = some k)
    (hshown : (i.state = .halted ∨ i.state = .done) ∧ min k.start k.target ≤ i.stitch ∧ i.stitch ≤ max k.start k.target ∧
      i.stitch ≠ d.ssq.stitch) :
    hearPeer e i d = setPeer a (fun x => { x with mismatched := false }) (copyStitch k i.stitch (heardBy a i d)) := by
  obtain ⟨hstc, -, -, hssq⟩ := copyStitch_fields (k := k) (d := heardBy a i d) i.stitch hfollows.2.1
  have hhalted : (copyStitch k i.stitch (heardBy a i d)).stc.state = .halted := by rw [hstc]; exact hstate
  have hhands : handFrameStitch e i (handActivity e (heardBy a i d)) = copyStitch k i.stitch (heardBy a i d) := by
    rw [handActivity_counted (by simp [hfollows]), handFrameStitch_follows (d := heardBy a i d) hfollows hwalk, headWalkEnd_eq,
      if_pos (by exact hshown)]
  have hmark : indexDiffers i (copyStitch k i.stitch (heardBy a i d)) = false := by simp [indexDiffers, hssq]
  have hapart : runsApart i (copyStitch k i.stitch (heardBy a i d)) = false :=
    Bool.eq_false_iff.2 fun h => absurd ((runsApart_iff _ _).1 h).1 (by simp [hhalted])
  rw [hearPeer_judged (f := copyStitch k i.stitch) (g := copyStitch k i.stitch) ha
    (by rw [hhands, handPeerRest_still (by simp [hhalted])]) (judgePeerHalt_still (.inl (by simp [hhalted]))), ← hmark]
  refine if_neg ?_
  change ¬(runsApart i _ || (indexDiffers i _ && _)) = true
  simp [hapart, hmark]

end

theorem returnsToHalted_kept (d : Station) :
    (returnsToHalted d).ssq = d.ssq ∧ (returnsToHalted d).stc.frameRole = d.stc.frameRole := by
  change (crept _).ssq = _ ∧ (crept _).stc.frameRole = _
  rw [crept_ssq, crept_stc]
  exact ⟨rfl, rfl⟩

/-- Settles O53: the transmitter's address and entry, then the hand-offs by what the station finds. -/
theorem statusFromPeerIsJudged : Obligations.StatusFromPeerIsJudged := by
  intro src p s hlive d c
  have hexec : exec c s = .next (closed s (takeStatus src p d)) := exec_live hlive nofun nofun
  refine ⟨fun hsrc => ?own, fun _ hclash hnone => ?noEntry, fun hsrc haddr hlock => ?clash, fun _ hclash hitems => ?noStatus,
    fun e i hsrc hclash hentry hitems => ?peer⟩
  case own => rw [hexec, takeStatus, if_pos (by rw [hsrc]; rfl)]
  case noEntry =>
    have hno : peerOf d src.toNat = none := List.find?_eq_none.2 fun e he => by simpa using hnone e he
    rw [hexec, takeStatus_of_none hclash (.inl hno)]
  case noStatus => rw [hexec, takeStatus_of_none hclash (.inr hitems)]
  case clash =>
    have hzero : src.toNat ≠ 0 := fun h => hsrc (BitVec.toNat_inj (x := src) (y := 0) |>.1 h)
    rw [takeStatus, if_neg hzero, if_pos ⟨haddr, hlock⟩] at hexec
    have hstc := addressClash_stc d
    obtain ⟨hslot, hsending, hprt, hpgs, hssq, hsgv, hhsc⟩ := addressClash_blocks d
    have hkept := holdIfUnfit_of_no_decision (d := addressClash d) (by rw [hhsc]; rfl)
    refine ⟨closed s (addressClash d), hexec, rfl, ?_⟩
    simp only [closed, finish_frame, finish_sli_of_clash (congrArg StationControl.lock hstc),
      finish_drive_of_joining (congrArg StationControl.state hstc), hslot, hsending, hprt, hpgs, hssq, hsgv, hkept, hhsc]
    refine ⟨hstc, trivial, trivial, trivial, rfl, empty_free, rfl, trivial, rfl, rfl, rfl, ?_⟩
    simp
  have haddr : e.addr = src.toNat := by simpa using List.find?_some hentry
  rw [takeStatus_of_entry hsrc hclash hentry hitems] at hexec
  have hgoes : ∀ x, hearPeer e i d = x → exec c s = .next (closed s x) := fun x hx => by rw [hexec, hx]
  intro heard rests apart differs headless follows offTop
  have hdiffers : ∀ (on : Prop) [Decidable on] (x : Station), restState x.stc.state = true → x.ssq = d.ssq →
      (on ↔ d.ssq.walk = none) → indexDiffers i x = differs on := by
    intro on _ x hrest hssq hon
    rw [indexDiffers_at_rest hrest hssq]
    exact decide_eq_decide.2 (and_congr hon.symm Iff.rfl)
  refine ⟨?_, ?_, ?_, ?_, ?_, ?_⟩
  · rintro ⟨hhead, hframe, -, hnone⟩ hrun hrest
    have hnone' : noActiveHead (heardBy src.toNat i d) = true := (noActiveHead_heardAs _ _ false _).symm.trans hnone
    refine hgoes _ (hearPeer_headless haddr (IgnoresPeers.halts .noActiveHead) hhead ?_ hframe nofun nofun ?_)
    · rw [headCheck_run (by exact hframe) hnone' (by exact hrun), enterHalting_turning (by exact hrun) (by exact hrest)]
    · exact indexDiffers_of_turning rfl
  · rintro ⟨hhead, hframe, -, hnone⟩ hrun hrest
    have hnone' : noActiveHead (heardBy src.toNat i d) = true := (noActiveHead_heardAs _ _ false _).symm.trans hnone
    have hleft := stops_left .noActiveHead (heardBy src.toNat i d)
    refine hgoes _ (hearPeer_headless haddr (IgnoresPeers.stops .noActiveHead) hhead ?_ ?_ ?_ ?_ ?_)
    · rw [headCheck_run (by exact hframe) hnone' (by exact hrun), enterHalting_atRest (by exact hrun) (by exact hrest) rfl]
    · exact (stops_frameRole _ _).trans hframe
    · rcases hleft with h | h <;> simp [h]
    · rcases hleft with h | h <;> simp [h]
    · exact hdiffers _ _ (by rcases hleft with h | h <;> rw [h] <;> rfl) (stops_ssq _ _) Iff.rfl
  · rintro ⟨hhead, hframe, -, hnone⟩ harmed hformer hwalk
    have hnone' : noActiveHead (heardBy src.toNat i d) = true := (noActiveHead_heardAs _ _ false _).symm.trans hnone
    refine hgoes _ (hearPeer_headless haddr IgnoresPeers.returnsToReady hhead ?_ hframe nofun nofun ?_)
    · rw [headCheck_armed (by exact hframe) hnone' (by exact harmed), returnToFormer_ready (by exact harmed) (by exact hformer)]
    · exact hdiffers _ _ rfl rfl (by simp [hwalk])
  · rintro ⟨hhead, hframe, -, hnone⟩ harmed hformer hwalk
    have hnone' : noActiveHead (heardBy src.toNat i d) = true := (noActiveHead_heardAs _ _ false _).symm.trans hnone
    have hstate := returnsToHalted_state (heardBy src.toNat i d)
    refine hgoes _ (hearPeer_headless haddr IgnoresPeers.returnsToHalted hhead ?_ ?_ ?_ ?_ ?_)
    · rw [headCheck_armed (by exact hframe) hnone' (by exact harmed), returnToFormer_halted (by exact harmed) (by exact hformer)]
    · exact (returnsToHalted_kept _).2.trans hframe
    · simp [hstate]
    · simp [hstate]
    · exact hdiffers _ _ (by rw [hstate]; rfl) (returnsToHalted_kept _).1 (by simp [hwalk])
  · intro k hfollows hstate hwalk n shown sum back
    refine ⟨fun hno => ?_, fun hshown => ?_⟩
    · refine hgoes _ (hearPeer_marks (f := walkOver) haddr IgnoresPeers.walkOver ?_ (by simp [hstate]) (by simp [hstate]) ?_)
      · rw [handActivity_counted (by simp [hstate]), handFrameStitch_follows (d := heardBy _ i d) hfollows hwalk, headWalkEnd_eq,
          if_neg (by exact hno), handPeerRest_still (by simp [hstate])]
      · refine (indexDiffers_at_rest (d := walkOver d) (by simp [hstate, restState]) rfl).trans (decide_eq_decide.2 ?_)
        exact and_congr (by simp [walkOver]) Iff.rfl
    · obtain ⟨hstc, hpnc, hpgs, hssq⟩ := copyStitch_fields (k := k) (d := heardBy src.toNat i d) n hfollows.2.1
      rw [hearPeer_copies haddr hstate hfollows hwalk hshown] at hexec
      refine ⟨_, hexec, rfl, ?_⟩
      simp only [closed, finish_frame, setPeer_frame]
      refine ⟨?_, hpgs, hstc, hpnc, hssq⟩
      have hprt : (copyStitch k n (heardBy src.toNat i d)).prt = (heardBy src.toNat i d).prt := by simp
      change List.map _ (copyStitch k n (heardBy src.toNat i d)).prt = _
      rw [hprt]
      exact congrArg Station.prt (setPeer_mark_heardBy src.toNat i false d)
  · intro hcount hwalk
    have hhands := handed_quiet (a := src.toNat) (by exact hcount) (by exact hwalk)
    refine ⟨?_, ?_, ?_, ?_, ?_, ?_, ?_, ?_⟩
    · intro hstate
      refine hgoes _ (hearPeer_marks (f := id) haddr IgnoresPeers.id ?_ ?_ ?_ (indexDiffers_of_turning ?_))
      · rw [hhands, handPeerRest_still (by rcases hstate with h | h <;> simp [h])]
        rfl
      all_goals rcases hstate with h | h <;> simp [h, restState]
    · exact fun hrun hrest hpeer => hgoes _ (hearPeer_peerHalt haddr (IgnoresPeers.halts .peerHalt) hhands hrun hpeer
        (enterHalting_turning (by exact hrun) (by exact hrest)) nofun)
    · intro hrun hrest hpeer
      refine hgoes _ (hearPeer_peerHalt haddr (IgnoresPeers.stops .peerHalt) hhands hrun hpeer
        (enterHalting_atRest (by exact hrun) (by exact hrest) rfl) ?_)
      rcases stops_left .peerHalt (heardBy src.toNat i d) with h | h <;> simp [h]
    · exact fun hrun hpeer hnone hwalking hfar => hgoes _ (hearPeer_runsApart haddr hhands hrun hpeer hnone hwalking hfar)
    · exact fun hrun hpeer hnear => hgoes _ (hearPeer_runs haddr hhands hrun hpeer hnear)
    · intro hstate
      refine hgoes _ (hearPeer_marks (f := id) haddr IgnoresPeers.id ?_ ?_ ?_ (hdiffers _ _ ?_ rfl Iff.rfl))
      · rw [hhands, handPeerRest_still (by rcases hstate with h | h | h <;> simp [h])]
        rfl
      all_goals rcases hstate with h | h | h <;> simp [h, restState]
    · intro harmed hnone hoff
      have hrest : handPeerRest i (heardBy src.toNat i d) = heardBy src.toNat i d := by
        rw [handPeerRest_armed (by exact harmed), if_neg (by exact hoff)]
      have hm := hdiffers True (heardBy src.toNat i d) (by simp [harmed, restState]) rfl (by simp [hnone])
      have hheard := hearPeer_armed (f := id) haddr IgnoresPeers.id hhands hrest harmed hm
      exact ⟨fun h => hgoes _ (hheard.trans (if_pos h)), fun h => hgoes _ (hheard.trans (if_neg (by simp [h])))⟩
    · intro harmed hnone htop
      have hrest : handPeerRest i (heardBy src.toNat i d) = creeps (heardBy src.toNat i d) := by
        rw [handPeerRest_armed (by exact harmed), if_pos (by exact htop)]
      have hm := hdiffers True (creeps (heardBy src.toNat i d)) (by simp [creeps, harmed, restState]) rfl (by simp [hnone])
      have hheard := hearPeer_armed haddr IgnoresPeers.creeps hhands hrest harmed hm
      exact ⟨fun h => hgoes _ (hheard.trans (if_pos h)), fun h => hgoes _ (hheard.trans (if_neg (by simp [h])))⟩

end Sys2Proof.StationStates

/-! ## START: the refusals, and what each block finds at an entry to ARMED -/

namespace Sys2Proof.StationStates

open Sys2Proof Sys2Proof.Machine Sys2Proof.StitchCycle

/-! ### The first row that fails (R31) -/

/-- The answer of a table whose rows are tried from a number on: the reason of the first row that fails. -/
def firstFailing {α : Type} (row : Nat → Bool) : Nat → List α → Option α
  | _, [] => none
  | n, x :: xs => if row n then some x else firstFailing row (n + 1) xs

theorem firstFailing_of_first {α : Type} {row : Nat → Bool} {i : Nat} {x : α} (hrow : row i = true)
    (hfirst : ∀ j, j < i → row j = false) (l : List α) (n : Nat) (hn : n ≤ i) (hx : l[i - n]? = some x) :
    firstFailing row n l = some x := by
  induction l generalizing n with
  | nil => simp at hx
  | cons y ys ih =>
    rw [firstFailing]
    by_cases h : n = i
    · subst h
      rw [if_pos hrow]
      simpa using hx
    · have hlt : n < i := by omega
      rw [if_neg (by simp [hfirst n hlt])]
      refine ih (n + 1) hlt ?_
      rwa [show i - n = i - (n + 1) + 1 by omega, List.getElem?_cons_succ] at hx

theorem row_of_firstFailing_none {α : Type} {row : Nat → Bool} {l : List α} {n : Nat} (h : firstFailing row n l = none) (k : Nat)
    (hk : k < l.length) : row (n + k) = false := by
  induction l generalizing n k with
  | nil => simp at hk
  | cons y ys ih =>
    rw [firstFailing] at h
    split at h
    · cases h
    next hrow =>
      cases k with
      | zero => simpa using hrow
      | succ k =>
        have hnext := ih h k (by simpa using hk)
        rwa [show n + 1 + k = n + (k + 1) by omega] at hnext

/-- The table of R31: row by row, what makes a Start fail. -/
def startRow (d : Station) : Nat → Bool
  | 1 => d.ssq.walk.isSome || (d.stc.frameRole && d.pnc.go.isSome)
  | 2 => d.pgs.header.isNone || atDesignEnd d
  | 3 => !d.stc.faults.isEmpty && !(decide (d.stc.activity = .withdrawn) && !d.stc.frameRole)
  | 4 => d.prt.any (fun e => e.lost)
  | 5 => d.prt.any (fun e => e.mismatched)
  | 6 => d.stc.frameRole && !(d.pnc.homed && d.pnc.inPlace)
  | 7 => d.stc.frameRole && extentsOutside d
  | 8 => d.stc.frameRole && !d.pins.driveReady
  | 9 => d.stc.frameRole && noActiveHead d
  | _ => false

/-- The reasons of the rows of R31. -/
abbrev startReasons : List RefusalReason :=
  [.busy, .noDesign, .faulted, .peerMissing, .indexMismatch, .notPlaced, .field, .drive, .noActiveHead]

theorem startRefusal_eq (d : Station) : startRefusal d = firstFailing (startRow d) 1 startReasons := rfl

/-- What a Start that passes its table leaves nothing to find in: the peers, the drive, the count of ACTIVE heads (R31). -/
theorem startRefusal_none {d : Station} (h : startRefusal d = none) :
    (∀ e ∈ d.prt, e.lost = false) ∧ (d.stc.frameRole = true → d.pins.driveReady = true) ∧
      (d.stc.frameRole = true → noActiveHead d = false) := by
  rw [startRefusal_eq] at h
  have hlost : d.prt.any (fun e => e.lost) = false := row_of_firstFailing_none h 3 (by decide)
  have hdrive : (d.stc.frameRole && !d.pins.driveReady) = false := row_of_firstFailing_none h 7 (by decide)
  have hcount : (d.stc.frameRole && noActiveHead d) = false := row_of_firstFailing_none h 8 (by decide)
  refine ⟨by simpa using hlost, fun hf => by simpa [hf] using hdrive, fun hf => by simpa [hf] using hcount⟩

/-! ### The lowest lost address (R53) -/

/-- The lower of an address found so far and the address of one more entry. -/
def lowerAddr (m : Option Nat) (e : PeerEntry) : Option Nat :=
  match m with
  | none => some e.addr
  | some a => some (min a e.addr)

theorem foldl_lowerAddr {l : List PeerEntry} {a m : Nat} (hmem : m = a ∨ ∃ e ∈ l, e.addr = a) (hm : a ≤ m)
    (hle : ∀ e ∈ l, a ≤ e.addr) : l.foldl lowerAddr (some m) = some a := by
  induction l generalizing m with
  | nil =>
    rcases hmem with rfl | ⟨e, he, -⟩
    · rfl
    · cases he
  | cons x l ih =>
    have hx : a ≤ x.addr := hle x (by simp)
    refine ih (m := min m x.addr) ?_ (by omega) fun e he => hle e (by simp [he])
    rcases hmem with rfl | ⟨e, he, rfl⟩
    · exact .inl (by omega)
    · rcases List.mem_cons.1 he with rfl | he
      · exact .inl (by omega)
      · exact .inr ⟨e, he, rfl⟩

theorem lowestLost_of_least {d : Station} {a : Nat} (hlost : ∃ e ∈ d.prt, e.lost = true ∧ e.addr = a)
    (hleast : ∀ e ∈ d.prt, e.lost = true → a ≤ e.addr) : lowestLost d = some a := by
  have hmem : ∃ e ∈ d.prt.filter (·.lost), e.addr = a := by
    obtain ⟨e, he, hl, ha⟩ := hlost
    exact ⟨e, List.mem_filter.2 ⟨he, hl⟩, ha⟩
  have hle : ∀ e ∈ d.prt.filter (·.lost), a ≤ e.addr := fun e he =>
    hleast e (List.mem_filter.1 he).1 (List.mem_filter.1 he).2
  change (d.prt.filter (·.lost)).foldl lowerAddr none = some a
  generalize d.prt.filter (·.lost) = l at hmem hle
  cases l with
  | nil => obtain ⟨e, he, -⟩ := hmem; cases he
  | cons x l =>
    refine foldl_lowerAddr (m := x.addr) ?_ (hle x (by simp)) fun e he => hle e (by simp [he])
    obtain ⟨e, he, ha⟩ := hmem
    rcases List.mem_cons.1 he with rfl | he
    · exact .inl ha
    · exact .inr ⟨e, he, ha⟩

/-! ### Back from the entry to ARMED (R33) -/

/-- A station in ARMED that returns to its former state (R33). -/
def turnsBack (d : Station) : Station := if d.stc.former = .ready then returnsToReady d else returnsToHalted d

theorem turnsBack_not_armed (d : Station) : (turnsBack d).stc.state ≠ .armed := by
  unfold turnsBack
  split
  · exact nofun
  · rw [returnsToHalted_state]
    decide

theorem armedFault_turnsBack {fr : FaultRecord} {d : Station} (h : d.stc.state = .armed) :
    armedFault fr d = turnsBack (recorded fr d) := by
  rw [armedFault, if_pos h, addRecord_eq, turnsBack]
  split
  next hformer => exact returnToFormer_ready h hformer
  next hformer => exact returnToFormer_halted h hformer

/-- A head fault at an entry to ARMED, under HALT (R161). -/
theorem armedHeadFault_halt {fr : FaultRecord} {d : Station} (h : d.stc.state = .armed) (hpolicy : (thread d).withdraw = false) :
    armedHeadFault fr d = turnsBack (recorded fr d) := by
  rw [armedHeadFault, if_neg (by simp [hpolicy]), armedFault_turnsBack h]

/-- A head fault at an entry to ARMED, under WITHDRAW, with a head still counted (R161, R162). -/
theorem armedHeadFault_withdraws {fr : FaultRecord} {d : Station} (hpolicy : (thread d).withdraw = true)
    (hactive : d.stc.activity = .active) (hcount : d.stc.frameRole = true → noActiveHead (withdraws fr d) = false) :
    armedHeadFault fr d = withdraws fr d := by
  rw [armedHeadFault, if_pos hpolicy, if_pos hactive, withdrawHead_addRecord, armedHeadCheck_quiet (by exact hcount)]

/-! ### What the case of an ACTIVE head finds (R136) -/

section

variable {d : Station}

/-- An ACTIVE head's case at an entry to ARMED, before it is judged (R136). -/
def caseCleared (d : Station) : Station := d.setNcc { d.ncc with stopped := .none, stepWaiting := false }

theorem arms_of_head (former : Former) (h : d.stc.headRole = true ∧ d.stc.activity = .active) :
    arms former d = caseCleared (armedEntry former d) := by
  unfold arms
  rw [if_pos h]
  rfl

theorem armCase_noNeedle (h : d.stc.headRole = true ∧ d.stc.activity = .active) (hwanted : wantedNeedle d = 0) :
    armCase d = armedHeadFault { kind := .noNeedle, stitch := d.ssq.stitch, needle := none, value := some d.ssq.slot }
      (caseCleared d) := by
  rw [armCase, if_pos (by simp [h])]
  exact if_pos hwanted

theorem armCase_needleOut (h : d.stc.headRole = true ∧ d.stc.activity = .active) (hwanted : wantedNeedle d ≠ 0)
    (hservice : inService d (wantedNeedle d) = false) :
    armCase d = armedHeadFault
      { kind := .needleOut, stitch := d.ssq.stitch, needle := some (wantedNeedle d), value := some d.ssq.slot }
      (caseCleared d) := by
  have hout : (!inService d (wantedNeedle d)) = true := by simp [hservice]
  rw [armCase, if_pos (by simp [h])]
  exact (if_neg (by exact hwanted)).trans (if_pos hout)

theorem armCase_lost (h : d.stc.headRole = true ∧ d.stc.activity = .active) (hwanted : wantedNeedle d ≠ 0)
    (hservice : inService d (wantedNeedle d) = true) (hstep : d.ncc.step = none) (hcurrent : currentNeedle d = 0) :
    armCase d = armedHeadFault
      { kind := .caseLost, stitch := d.ssq.stitch, needle := none
        value := some (if d.pins.caseCode ≤ 12 then d.pins.caseCode else 0) } (caseCleared d) := by
  have hin : ¬(!inService d (wantedNeedle d)) = true := by simp [hservice]
  have hlost : (d.ncc.step.isNone && decide (currentNeedle d = 0)) = true := by simp [hstep, hcurrent]
  rw [armCase, if_pos (by simp [h])]
  exact (if_neg (by exact hwanted)).trans ((if_neg hin).trans (if_pos hlost))

theorem armCase_tries (h : d.stc.headRole = true ∧ d.stc.activity = .active) (hwanted : wantedNeedle d ≠ 0)
    (hservice : inService d (wantedNeedle d) = true) (hcurrent : currentNeedle d ≠ 0) :
    armCase d = tryStep (caseCleared d) := by
  have hin : ¬(!inService d (wantedNeedle d)) = true := by simp [hservice]
  have hlatched : ¬(d.ncc.step.isNone && decide (currentNeedle d = 0)) = true := by simp [hcurrent]
  rw [armCase, if_pos (by simp [h])]
  exact (if_neg (by exact hwanted)).trans ((if_neg hin).trans (if_neg hlatched))

end

/-! ### The blocks after the case (R95, R120, R122, R162) -/

section

variable {d e : Station}

/-- The blocks that judge an entry to ARMED after the case (R32, log entry 13). -/
def afterCase (d : Station) : Station := whileArmed armedHeadCheck (whileArmed armDrive (whileArmed armField d))

theorem enterArmed_afterCase {former : Former} (h : d.stc.state ≠ .armed) (hnone : d.sgv.reposition = none)
    (hpeers : ∀ x ∈ d.prt, x.lost = false) (hcase : armCase (armedEntry former d) = e) : enterArmed former d = afterCase e := by
  have hpeers' : armPeers (armedEntry former d) = armedEntry former d := armPeers_of_none_lost hpeers
  rw [enterArmed_steps former h hnone, whileArmed_of_armed (f := armPeers) (by rfl), hpeers',
    whileArmed_of_armed (f := armCase) (by rfl), hcase]
  rfl

/-- A station that a block has turned back is handed to no later block (log entry 13). -/
theorem afterCase_turnsBack : afterCase (turnsBack d) = turnsBack d := by
  have h := turnsBack_not_armed d
  rw [afterCase, whileArmed_of_not h, whileArmed_of_not h, whileArmed_of_not h]

/-- With no finding, the drive ready and a head counted, what is left is the first creep of a shaft off top (R122). -/
theorem afterCase_crept (h : d.stc.state = .armed) (hfinding : d.pnc.finding = none)
    (hdrive : d.stc.frameRole = true → d.pins.driveReady = true) (hcount : d.stc.frameRole = true → noActiveHead d = false) :
    afterCase d = crept d := by
  have hfield : armField d = d := by rw [armField, hfinding]
  have hgoverned : armDrive d = crept d := by
    rw [armDrive, tryReposition_crept, if_neg]
    cases hf : d.stc.frameRole with
    | false => simp
    | true => simp [hdrive hf]
  have hcount' : noActiveHead (crept d) = noActiveHead d := by
    unfold crept
    split <;> rfl
  have hcheck : armedHeadCheck (crept d) = crept d := armedHeadCheck_quiet (by rw [crept_stc, hcount']; exact hcount)
  rw [afterCase, whileArmed_of_armed h, hfield, whileArmed_of_armed h, hgoverned,
    whileArmed_of_armed (by rw [crept_stc]; exact h), hcheck]

theorem afterCase_finding {a : Axis} (h : d.stc.state = .armed) (hfinding : d.pnc.finding = some a) :
    afterCase d = turnsBack (recorded (fieldFault a d) (d.setPnc { d.pnc with deferred := false })) := by
  have hfield : armField d = turnsBack (recorded (fieldFault a d) (d.setPnc { d.pnc with deferred := false })) := by
    rw [armField, hfinding]
    exact armedFault_turnsBack h
  rw [afterCase, whileArmed_of_armed h, hfield]
  have hback := turnsBack_not_armed (recorded (fieldFault a d) (d.setPnc { d.pnc with deferred := false }))
  rw [whileArmed_of_not hback, whileArmed_of_not hback]

theorem crept_of_top (h : d.stc.frameRole = true → restOnTop d = true) : crept d = d :=
  crept_of_not_due fun ⟨hframe, _, _, _, hoff, _⟩ => by
    have htop := h hframe
    simp [restOnTop, hoff] at htop

end

end Sys2Proof.StationStates

/-! ## START: the entry to ARMED, from a Start and from a rest in HALTING -/

namespace Sys2Proof.StationStates

open Sys2Proof Sys2Proof.Machine Sys2Proof.StitchCycle

/-! ### A Start that passes its table (R32) -/

/-- A Start reaches its owner in READY, HALTED and DONE alone (R45). -/
theorem state_of_start_taken {src : Addr} {p : Payload} {d : Station} (h : Taken (.start src p) d) :
    d.stc.state = .ready ∨ d.stc.state = .halted ∨ d.stc.state = .done := by
  have htaken : noticeTaken d .start (p.length == 1) src p = true := h
  have hacc := acceptance_of_taken htaken
  cases hs : d.stc.state <;> simp [acceptance, acceptTable, hs] at hacc ⊢

theorem formerOf_eq (st : StationState) : formerOf st = if st = .ready then .ready else .halted := by cases st <;> rfl

theorem turnsBack_eq {d : Station} {st : StationState} (h : d.stc.former = formerOf st) :
    turnsBack d = if st = .ready then returnsToReady d else returnsToHalted d := by
  refine if_congr ?_ rfl rfl
  rw [h, formerOf_eq]
  split <;> simp [*]

section

variable {d : Station} {former : Former}

/-- A case latched on a wanted needle in service leaves the entry as it is (R136). -/
theorem enterArmed_placed (h : d.stc.state ≠ .armed) (hnone : d.sgv.reposition = none) (hpeers : ∀ e ∈ d.prt, e.lost = false)
    (hplaced : d.stc.headRole = true → d.stc.activity = .active →
      wantedNeedle d ≠ 0 ∧ inService d (wantedNeedle d) = true ∧ currentNeedle d = wantedNeedle d) :
    enterArmed former d = afterCase (arms former d) :=
  enterArmed_afterCase h hnone hpeers (armCase_quiet (d := armedEntry former d) hplaced)

/-- A sequence in progress goes on through the entry to ARMED, its creep with it (R119, R123). -/
theorem enterArmed_sequence (h : d.stc.state ≠ .armed) (hsome : d.sgv.reposition ≠ none) (hpeers : ∀ e ∈ d.prt, e.lost = false)
    (hplaced : d.stc.headRole = true → d.stc.activity = .active →
      wantedNeedle d ≠ 0 ∧ inService d (wantedNeedle d) = true ∧ currentNeedle d = wantedNeedle d)
    (hfinding : d.pnc.finding = none) (hdrive : d.stc.frameRole = true → d.pins.driveReady = true)
    (hcount : d.stc.frameRole = true → noActiveHead d = false) :
    enterArmed former d = { arms former d with sgv := { d.sgv with givenUp := false } } := by
  have henter := enterState_setStc (st := .armed) (d := d)
    (c := { d.stc with former := former, haltReason := none, armTimer := some d.now }) h rfl rfl
  have hentry : ∀ e : Station, e = { d with
      stc := { d.stc with state := .armed, former := former, haltReason := none, armTimer := some d.now }
      sli := (causeStatus d).sli } →
      (let f := e.setSgv { e.sgv with givenUp := false }
      if f.sgv.reposition.isSome then f else governorStop f) =
        (armedEntry former d).setSgv { d.sgv with givenUp := false } := by
    rintro e rfl
    exact if_pos (Option.isSome_iff_ne_none.2 hsome)
  have hpeers' : armPeers ((armedEntry former d).setSgv { d.sgv with givenUp := false }) =
      (armedEntry former d).setSgv { d.sgv with givenUp := false } := armPeers_of_none_lost hpeers
  have hcase : armCase ((armedEntry former d).setSgv { d.sgv with givenUp := false }) =
      { arms former d with sgv := { d.sgv with givenUp := false } } :=
    armCase_quiet (d := (armedEntry former d).setSgv { d.sgv with givenUp := false }) hplaced
  have hsteps : enterArmed former d = afterCase (whileArmed armCase (whileArmed armPeers
      ((armedEntry former d).setSgv { d.sgv with givenUp := false }))) :=
    congrArg (fun e => afterCase (whileArmed armCase (whileArmed armPeers e))) (hentry _ henter)
  rw [hsteps, whileArmed_of_armed (f := armPeers) (by rfl), hpeers', whileArmed_of_armed (f := armCase) (by rfl), hcase,
    afterCase_crept (by rfl) (by exact hfinding) (by exact hdrive) (by exact hcount)]
  exact crept_of_not_due fun ⟨_, _, _, hnone, _⟩ => hsome hnone

/-- A head fault found by the case, by the fault policy (R136, R161). -/
theorem enterArmed_caseFault {fr : FaultRecord} (h : d.stc.state ≠ .armed) (hnone : d.sgv.reposition = none)
    (hpeers : ∀ e ∈ d.prt, e.lost = false)
    (hcase : armCase (armedEntry former d) = armedHeadFault fr (arms former d)) :
    ((thread d).withdraw = false → enterArmed former d = turnsBack (recorded fr (arms former d))) ∧
    ((thread d).withdraw = true → d.stc.activity = .active → d.pnc.finding = none →
      (d.stc.frameRole = true → restOnTop d = true) → (d.stc.frameRole = true → d.pins.driveReady = true) →
      (d.stc.frameRole = true → noActiveHead (withdraws fr (arms former d)) = false) →
      enterArmed former d = withdraws fr (arms former d)) := by
  rw [enterArmed_afterCase h hnone hpeers hcase]
  refine ⟨fun hpolicy => ?_, fun hpolicy hactive hfinding htop hdrive hcount => ?_⟩
  · rw [armedHeadFault_halt (d := arms former d) rfl hpolicy, afterCase_turnsBack]
  · rw [armedHeadFault_withdraws (d := arms former d) hpolicy hactive hcount,
      afterCase_crept (by rfl) (by exact hfinding) (by exact hdrive) (by exact hcount), crept_of_top (by exact htop)]

/-- The case off its wanted needle, latched on another: the step is tried (R130, R136). -/
theorem enterArmed_tries (h : d.stc.state ≠ .armed) (hnone : d.sgv.reposition = none) (hpeers : ∀ e ∈ d.prt, e.lost = false)
    (hdue : StepDue (arms former d)) : enterArmed former d = afterCase (tryStep (arms former d)) := by
  obtain ⟨hhead, -, hactive, -, -, hwanted, hservice, hcurrent, -⟩ := hdue
  have hacts : d.stc.headRole = true ∧ d.stc.activity = .active := ⟨hhead, hactive⟩
  rw [arms_of_head former hacts] at hwanted hservice hcurrent ⊢
  exact enterArmed_afterCase h hnone hpeers (armCase_tries (d := armedEntry former d) hacts hwanted hservice hcurrent)

end

/-! ### A block turns the arming at a rest back (R36, R53, R120) -/

theorem pendingStarted_recorded (fr : FaultRecord) (d : Station) : pendingStarted (recorded fr d) = recorded fr (pendingStarted d) := by
  have hcongr : pendingStarted (recorded fr d) = (recorded fr d).setPnc (pendingStarted d).pnc := pendingStarted_congr rfl rfl rfl
  rw [hcongr, pendingStarted_frame d]
  rfl

theorem pendingStarted_armedEntry (former : Former) (d : Station) :
    pendingStarted (armedEntry former d) = armedEntry former (pendingStarted d) := by
  have hcongr : pendingStarted (armedEntry former d) = (armedEntry former d).setPnc (pendingStarted d).pnc :=
    pendingStarted_congr rfl rfl rfl
  have hsli : (causeStatus ((d).setPnc (pendingStarted d).pnc)).sli = (causeStatus d).sli := causeStatus_sli_congr rfl rfl rfl
  rw [hcongr, pendingStarted_frame d]
  change _ = armedEntry former (d.setPnc (pendingStarted d).pnc)
  unfold armedEntry
  rw [hsli]
  rfl

theorem pendingStarted_returnsToHalted (d : Station) : pendingStarted (returnsToHalted d) = returnsToHalted (pendingStarted d) := by
  have hmotion : motion (returnsToHalted d) = motion d := by
    change motion (crept _) = _
    rw [motion, crept_stc]
    rfl
  have hcongr : pendingStarted (returnsToHalted d) = (returnsToHalted d).setPnc (pendingStarted d).pnc :=
    pendingStarted_congr (crept_pnc _) (crept_now _) hmotion
  rw [hcongr, ← returnsToHalted_setPnc, pendingStarted_frame d]
  rfl

/-- A station turned back to HALTED by a fault of the arming at its rest has its pending move started and its creep begun (R33, R98). -/
theorem comeToRest_turnsBack {d e : Station} (h : d.sht.atRest = false) (hstate : d.stc.state = .halting) (harm : ArmsAgain d)
    (hnone : d.sgv.reposition = none) (hdeferred : e.pnc.deferred = false)
    (hback : enterArmed .halted (rested d) = returnsToHalted e) : comeToRest d = returnsToHalted (pendingStarted e) := by
  have hpnc : (returnsToHalted e).pnc = e.pnc := crept_pnc _
  rw [comeToRest_halting h hstate, hnone, leaveHalting_arms harm, hback]
  change blocksAtRest false _ = _
  rw [blocksAtRest_stopped (.inl (returnsToHalted_state _)) (by rw [hpnc]; exact hdeferred), pendingStarted_returnsToHalted]
  exact crept_crept _

theorem enterArmed_peerLost {d : Station} {a : Nat} (h : d.stc.state ≠ .armed) (hnone : d.sgv.reposition = none)
    (hlost : lowestLost d = some a) : enterArmed .halted d = returnsToHalted (recorded
      { kind := .peerLost, stitch := d.ssq.stitch, needle := none, value := some a } (armedEntry .halted d)) := by
  have hlost' : lowestLost (armedEntry .halted d) = some a := hlost
  have hpeers : armPeers (armedEntry .halted d) = turnsBack (recorded
      { kind := .peerLost, stitch := d.ssq.stitch, needle := none, value := some a } (armedEntry .halted d)) := by
    rw [armPeers, hlost']
    exact armedFault_turnsBack rfl
  have hback := fun fr => turnsBack_not_armed (recorded fr (armedEntry .halted d))
  have hsteps : enterArmed .halted d = afterCase (whileArmed armCase (whileArmed armPeers (armedEntry .halted d))) :=
    enterArmed_steps .halted h hnone
  rw [hsteps, whileArmed_of_armed (f := armPeers) (by rfl), hpeers, whileArmed_of_not (hback _), afterCase_turnsBack]
  rfl

theorem enterArmed_driveLow {d : Station} (h : d.stc.state ≠ .armed) (hnone : d.sgv.reposition = none)
    (hpeers : ∀ e ∈ d.prt, e.lost = false) (hfinding : d.pnc.finding = none) (hframe : d.stc.frameRole = true)
    (hlow : d.pins.driveReady = false)
    (hplaced : d.stc.headRole = true → d.stc.activity = .active →
      wantedNeedle d ≠ 0 ∧ inService d (wantedNeedle d) = true ∧ currentNeedle d = wantedNeedle d) :
    enterArmed .halted d = returnsToHalted (recorded
      { kind := .drive, stitch := d.ssq.stitch, needle := none, value := some 0 } (arms .halted d)) := by
  have hfinding' : (arms .halted d).pnc.finding = none := hfinding
  have hfield : armField (arms .halted d) = arms .halted d := by rw [armField, hfinding']
  have hdrive : armDrive (arms .halted d) = turnsBack (recorded
      { kind := .drive, stitch := d.ssq.stitch, needle := none, value := some 0 } (arms .halted d)) := by
    have hfalls : ((arms .halted d).stc.frameRole && !(arms .halted d).pins.driveReady) = true := by
      change (d.stc.frameRole && !d.pins.driveReady) = true
      simp [hframe, hlow]
    rw [armDrive, if_pos hfalls]
    exact armedFault_turnsBack rfl
  have hback := fun fr => turnsBack_not_armed (recorded fr (arms .halted d))
  rw [enterArmed_placed h hnone hpeers hplaced, afterCase, whileArmed_of_armed (f := armField) (by rfl), hfield,
    whileArmed_of_armed (f := armDrive) (by rfl), hdrive, whileArmed_of_not (hback _)]
  rfl

end Sys2Proof.StationStates

/-! ## START: the obligation -/

namespace Sys2Proof.StationStates

open Sys2Proof Sys2Proof.Machine Sys2Proof.StitchCycle

/-- Settles O41: the table of a Start, then each block's part of the entry to ARMED, in a Start and at a rest. -/
theorem startRefusedOrArms : Obligations.StartRefusedOrArms := by
  refine ⟨?start, ?rest⟩
  case start =>
    intro src p s hlive htaken d c row armed back undeferred head placed onTop waiting found
    have hstate : d.stc.state = .ready ∨ d.stc.state = .halted ∨ d.stc.state = .done := state_of_start_taken htaken
    have hunarmed : d.stc.state ≠ .armed := by rcases hstate with h | h | h <;> simp [h]
    have hexec : exec c s = .next (closed s (startOwner d)) := exec_notice hlive rfl rfl htaken
    have hgoes : ∀ x, startRefusal d = none → enterArmed (formerOf d.stc.state) d = x → exec c s = .next (closed s x) := by
      intro x hnone hx
      rw [hexec, startOwner, hnone, ← hx]
    have harmed : arms (formerOf d.stc.state) d = armed := by rw [formerOf_eq]
    have hback : ∀ e : Station, e.stc.former = formerOf d.stc.state → turnsBack e = back e := fun e he => turnsBack_eq he
    refine ⟨fun i why hrow hfirst hwhy => ?refused, fun hnone hq => ?quiet, fun a hnone hfinding hq => ?finding,
      fun hnone hsome hplaced hfinding => ?sequence, fun hnone hrep hhead => ?head, fun hnone hplaced hfinding hdue => ?creep⟩
    case refused =>
      have hpos : 1 ≤ i := by
        rcases i with _ | i
        · cases hrow
        · omega
      have hrefusal : startRefusal d = some why := firstFailing_of_first (row := row) hrow hfirst startReasons 1 hpos hwhy
      rw [hexec, startOwner, hrefusal]
      exact congrArg (fun e => Host.Outcome.next (closed s e)) (refuse_eq _ _ _)
    case quiet => exact hgoes _ hnone ((enterArmed_quiet _ hunarmed hq).trans harmed)
    case finding =>
      obtain ⟨hpeers, hplaced, hrep, -, -⟩ := hq
      refine hgoes _ hnone ?_
      rw [enterArmed_placed hunarmed hrep hpeers hplaced, afterCase_finding (a := a) (by rfl) (by exact hfinding), hback _ rfl, harmed]
      rfl
    case sequence =>
      obtain ⟨hpeers, hdrive, hcount⟩ := startRefusal_none hnone
      refine hgoes _ hnone ?_
      rw [enterArmed_sequence hunarmed hsome hpeers (fun hh ha => hplaced ⟨hh, ha⟩) hfinding hdrive hcount, harmed]
    case creep =>
      obtain ⟨hpeers, hdrive, hcount⟩ := startRefusal_none hnone
      obtain ⟨-, -, -, hrep, -⟩ := id hdue
      refine hgoes _ hnone ?_
      rw [enterArmed_placed hunarmed hrep hpeers (fun hh ha => hplaced ⟨hh, ha⟩), harmed,
        afterCase_crept (d := armed) rfl hfinding hdrive hcount]
      exact if_pos hdue
    case head =>
      obtain ⟨hpeers, hdrive, hcount⟩ := startRefusal_none hnone
      have hfound : ∀ fr, armCase (armedEntry (formerOf d.stc.state) d) =
          armedHeadFault fr (caseCleared (armedEntry (formerOf d.stc.state) d)) → found fr := by
        intro fr hcase
        rw [← arms_of_head _ hhead] at hcase
        obtain ⟨hhalt, hwithdraw⟩ := enterArmed_caseFault hunarmed hrep hpeers hcase
        rw [hback _ rfl] at hhalt
        rw [harmed] at hhalt hwithdraw
        exact ⟨fun hpolicy => hgoes _ hnone (hhalt hpolicy), fun hpolicy hfinding htop hleft =>
          hgoes _ hnone (hwithdraw hpolicy hhead.2 hfinding htop hdrive hleft)⟩
      refine ⟨fun hwanted => hfound _ (armCase_noNeedle (d := armedEntry _ d) hhead hwanted), fun hwanted hservice =>
        hfound _ (armCase_needleOut (d := armedEntry _ d) hhead hwanted hservice), fun hwanted hservice hstep hcurrent =>
        hfound _ (armCase_lost (d := armedEntry _ d) hhead hwanted hservice hstep hcurrent), fun hfinding hdue => ?_⟩
      have htries := enterArmed_tries (former := formerOf d.stc.state) hunarmed hrep hpeers (by rw [harmed]; exact hdue)
      rw [harmed] at htries
      refine ⟨fun htop => hgoes _ hnone ?_, fun htop hframe => hgoes _ hnone ?_, fun hcreep => hgoes _ hnone ?_⟩
      · rw [htries, tryStep_steps hdue htop, afterCase_crept (d := steps armed) rfl hfinding hdrive hcount]
        exact crept_of_top fun _ => htop
      · rw [htries, tryStep_waits hdue htop, afterCase_crept (d := waiting armed) rfl hfinding hdrive hcount]
        exact crept_of_top fun hf => absurd (hframe.symm.trans hf) nofun
      · have hoff : restOnTop armed = false := by
          obtain ⟨-, -, -, -, hoff, -⟩ := id hcreep
          simp [restOnTop, hoff]
        rw [htries, tryStep_waits hdue hoff, afterCase_crept (d := waiting armed) rfl hfinding hdrive hcount]
        exact if_pos hcreep
  case rest =>
    intro s hlive d m armed hstate hturn hend hreason hpause hfaults hrep hdeferred
    have harm : ArmsAgain d := ⟨hend, hreason, hpause, hfaults⟩
    have hexec : exec .restReached s = .next (closed s (comeToRest d)) := exec_live hlive nofun nofun
    have hunarmed : (rested d).stc.state ≠ .armed := by
      change d.stc.state ≠ .armed
      simp [hstate]
    obtain ⟨p, hp⟩ : ∃ p, pendingStarted (rested d) = (rested d).setPnc p := ⟨_, pendingStarted_frame _⟩
    refine ⟨fun a hlost hleast => ?_, fun hpeers hframe hlow hfinding hplaced => ?_⟩
    · have hback := enterArmed_peerLost (d := rested d) hunarmed hrep (lowestLost_of_least (d := rested d) hlost hleast)
      rw [hexec, comeToRest_turnsBack hturn hstate harm hrep (by exact hdeferred) hback, pendingStarted_recorded,
        pendingStarted_armedEntry]
      simp only [armed, m, hp]
      rfl
    · have hback := enterArmed_driveLow (d := rested d) hunarmed hrep hpeers hfinding hframe hlow hplaced
      rw [hexec, comeToRest_turnsBack hturn hstate harm hrep (by exact hdeferred) hback, pendingStarted_recorded,
        arms_pendingStarted]
      rfl

end Sys2Proof.StationStates

/-! ## The line: bits, inserted bits, frames -/

namespace Sys2Proof.StationLink

open Sys2Proof Sys2Proof.Machine

/-! ### Numbers and bytes as bits (R171) -/

@[simp] theorem length_bitsMsb (w n : Nat) : (bitsMsb w n).length = w := by
  induction w with
  | zero => rfl
  | succ w ih => simp [bitsMsb, ih]

theorem foldl_bitsMsb (w n acc : Nat) :
    (bitsMsb w n).foldl (fun acc b => 2 * acc + b.toNat) acc = acc * 2 ^ w + n % 2 ^ w := by
  induction w generalizing acc with
  | zero => simp [bitsMsb, Nat.mod_one]
  | succ w ih =>
    rw [bitsMsb, List.foldl_cons, ih, Nat.toNat_testBit, Nat.mod_pow_succ]
    ring

/-- A number of `w` bits is read back modulo 2^w. -/
theorem natOfBits_bitsMsb (w n : Nat) : natOfBits (bitsMsb w n) = n % 2 ^ w := by
  rw [natOfBits, foldl_bitsMsb, Nat.zero_mul, Nat.zero_add]

theorem natOfBits_bitsMsb_of_lt {w n : Nat} (h : n < 2 ^ w) : natOfBits (bitsMsb w n) = n := by
  rw [natOfBits_bitsMsb, Nat.mod_eq_of_lt h]

@[simp] theorem payloadBits_cons (b : Byte) (p : Payload) : payloadBits (b :: p) = bitsMsb 8 b.toNat ++ payloadBits p := rfl

@[simp] theorem length_payloadBits (p : Payload) : (payloadBits p).length = 8 * p.length := by
  induction p with
  | nil => rfl
  | cons b p ih =>
    simp only [payloadBits_cons, List.length_append, length_bitsMsb, ih, List.length_cons]
    omega

/-- The bytes of a payload are read back from its bits, whatever follows them. -/
theorem bytesOfBits_payloadBits (p : Payload) (rest : List Bool) : bytesOfBits p.length (payloadBits p ++ rest) = p := by
  induction p with
  | nil => rfl
  | cons b p ih =>
    rw [payloadBits_cons, List.append_assoc, List.length_cons, bytesOfBits, List.take_left' (length_bitsMsb 8 _),
      List.drop_left' (length_bitsMsb 8 _), ih, natOfBits_bitsMsb_of_lt b.isLt, BitVec.ofNat_toNat, BitVec.setWidth_eq]

/-! ### The notice's fields (R41) -/

theorem length_covered (n : Notice) : n.covered.length = 17 + 8 * n.payload.length := by
  simp only [Notice.covered, List.length_append, length_bitsMsb, length_payloadBits]
  omega

/-- The bits after the arbitration field, and after the length. -/
theorem covered_drop (n : Notice) (rest : List Bool) :
    (n.covered ++ rest).drop 6 = bitsMsb 5 n.src ++ (bitsMsb 6 n.payload.length ++ (payloadBits n.payload ++ rest)) ∧
    (n.covered ++ rest).drop 11 = bitsMsb 6 n.payload.length ++ (payloadBits n.payload ++ rest) ∧
    (n.covered ++ rest).drop 17 = payloadBits n.payload ++ rest := by
  have hsrc : (n.covered ++ rest).drop 6 = bitsMsb 5 n.src ++ (bitsMsb 6 n.payload.length ++ (payloadBits n.payload ++ rest)) := by
    simp only [Notice.covered, List.append_assoc]
    exact List.drop_left' (length_bitsMsb 6 _)
  have hlen : (n.covered ++ rest).drop 11 = bitsMsb 6 n.payload.length ++ (payloadBits n.payload ++ rest) := by
    rw [← List.drop_drop (i := 5) (j := 6), hsrc]
    exact List.drop_left' (length_bitsMsb 5 _)
  refine ⟨hsrc, hlen, ?_⟩
  rw [← List.drop_drop (i := 6) (j := 11), hlen]
  exact List.drop_left' (length_bitsMsb 6 _)

/-- What the receiver's checks make of a notice's bits with a CRC of its own: the length field holds six bits, so that a payload
of 64 bytes or more fails by the count of the bits (R41). -/
theorem readBody_covered (n : Notice) {crc : Nat} (hkind : n.kind < 64) (hsrc : n.src < 32) (hcrc : crc < 2 ^ 16) :
    readBody (n.covered ++ bitsMsb 16 crc) =
      if crc = (crc16 n.covered).toNat ∧ n.payload.length ≤ 56 then some n else none := by
  obtain ⟨hdrop6, hdrop11, hdrop17⟩ := covered_drop n (bitsMsb 16 crc)
  have hlen : natOfBits (((n.covered ++ bitsMsb 16 crc).drop 11).take 6) = n.payload.length % 64 := by
    rw [hdrop11, List.take_left' (length_bitsMsb 6 _), natOfBits_bitsMsb]
    rfl
  have htotal : (n.covered ++ bitsMsb 16 crc).length = 33 + 8 * n.payload.length := by
    rw [List.length_append, length_covered, length_bitsMsb]
    omega
  have hkind' : natOfBits ((n.covered ++ bitsMsb 16 crc).take 6) = n.kind := by
    rw [Notice.covered, List.append_assoc, List.take_left' (length_bitsMsb 6 _), natOfBits_bitsMsb_of_lt hkind]
  have hsrc' : natOfBits (((n.covered ++ bitsMsb 16 crc).drop 6).take 5) = n.src := by
    rw [hdrop6, List.take_left' (length_bitsMsb 5 _), natOfBits_bitsMsb_of_lt hsrc]
  simp only [readBody, hlen, htotal, Config.maxPayload]
  by_cases hfits : n.payload.length ≤ 56
  · have hmod : n.payload.length % 64 = n.payload.length := Nat.mod_eq_of_lt (by omega)
    rw [hmod, if_neg (not_not.2 rfl), if_neg (Nat.not_lt.2 hfits), List.take_left' (length_covered n),
      List.drop_left' (length_covered n), natOfBits_bitsMsb_of_lt hcrc, hkind', hsrc', hdrop17, bytesOfBits_payloadBits]
    simp only [hfits, and_true, ne_eq, ite_not]
  · rw [if_neg (show ¬(crc = (crc16 n.covered).toNat ∧ n.payload.length ≤ 56) from fun h => hfits h.2)]
    by_cases hshort : n.payload.length < 64
    · have hmod : n.payload.length % 64 = n.payload.length := Nat.mod_eq_of_lt hshort
      rw [hmod, if_neg (not_not.2 rfl), if_pos (Nat.not_le.1 hfits)]
    · exact if_pos (by omega)

/-! ### Inserted bits (R40) -/

/-- The receiver takes out the bits that the transmitter put in. -/
theorem unstuffFrom_stuffFrom {cnt : Nat} (hcnt : cnt < 4) (prev : Bool) (bits : List Bool) :
    unstuffFrom prev cnt (stuffFrom prev cnt bits) = some bits := by
  induction bits generalizing prev cnt with
  | nil => simp [stuffFrom, unstuffFrom, hcnt.ne]
  | cons b bits ih =>
    unfold stuffFrom
    by_cases hfour : (if b = prev then cnt + 1 else 1) = 4
    · simp [hfour, unstuffFrom, hcnt.ne, ih (cnt := 1) (by omega) (!b)]
    · have hrun : (if b = prev then cnt + 1 else 1) < 4 := lt_of_le_of_ne (by split <;> omega) hfour
      simp [hfour, unstuffFrom, hcnt.ne, ih hrun b]

/-- Bits that fail after a bit, at whatever length of run it stands, fail with that bit before them. -/
theorem unstuffFrom_cons_none {cnt : Nat} (hcnt : cnt ≤ 4) (prev b : Bool) {bits : List Bool}
    (h : ∀ c, 1 ≤ c → c ≤ 4 → unstuffFrom b c bits = none) : unstuffFrom prev cnt (b :: bits) = none := by
  unfold unstuffFrom
  split
  · split
    · rfl
    · exact h 1 le_rfl (by omega)
  next hne => rw [h _ (by split <;> omega) (by split <;> omega), Option.map_none]

/-- A run that goes on to a fifth bit is a framing error. -/
theorem unstuffFrom_replicate {cnt k : Nat} (hcnt : cnt ≤ 4) (hfive : 5 ≤ cnt + k) (b : Bool) (z : List Bool) :
    unstuffFrom b cnt (List.replicate k b ++ z) = none := by
  induction k generalizing cnt with
  | zero => omega
  | succ k ih =>
    rw [List.replicate_succ, List.cons_append, unstuffFrom]
    split
    · exact if_pos rfl
    next hne => rw [if_pos rfl, ih (by omega) (by omega), Option.map_none]

/-- Five equal bits are a framing error, wherever they stand. -/
theorem unstuffFrom_five {cnt : Nat} (hcnt : cnt ≤ 4) (prev b : Bool) (a z : List Bool) :
    unstuffFrom prev cnt (a ++ [b, b, b, b, b] ++ z) = none := by
  induction a generalizing prev cnt with
  | nil => exact unstuffFrom_cons_none hcnt prev b fun c hone hfour =>
      unstuffFrom_replicate (k := 4) hfour (by omega) b z
  | cons x a ih => exact unstuffFrom_cons_none hcnt prev x fun c _ hfour => ih hfour x

/-- No bits the transmitter sends, after fewer than four equal ones, hold a run of five: the receiver would take it for a framing
error, and it reads them back. -/
theorem not_fiveEqual_stuffFrom {cnt : Nat} (hcnt : cnt < 4) (prev : Bool) (bits : List Bool) :
    ¬FiveEqual (stuffFrom prev cnt bits) := by
  rintro ⟨a, z, b, hfive⟩
  have hread := unstuffFrom_stuffFrom hcnt prev bits
  rw [hfive, unstuffFrom_five hcnt.le] at hread
  cases hread

/-! ### Frames -/

/-- The receiver cuts the end field off and takes the inserted bits out. -/
theorem receiveFrame_frame (n : Notice) : receiveFrame n.frame = readBody (n.covered ++ bitsMsb 16 (crc16 n.covered).toNat) := by
  have hend : n.frame.length - 10 = (stuffFrom true 0 n.body).length := by simp [Notice.frame, endField]
  rw [receiveFrame, hend, Notice.frame, List.drop_left, List.take_left, if_neg (not_not.2 rfl),
    unstuffFrom_stuffFrom (by omega)]
  rfl

/-- Settles O15: the inserted bits come out again, and the notice has its own CRC. -/
theorem frameRoundTrip : Obligations.FrameRoundTrip := by
  intro n hkind hsrc hlen
  rw [receiveFrame_frame, readBody_covered n hkind hsrc (crc16 n.covered).isLt]
  exact if_pos ⟨rfl, hlen⟩

/-- Settles O16: inserted bits are judged by the receiver, the CRC and the length by its checks. -/
theorem stuffedBitsAndCrc : Obligations.StuffedBitsAndCrc :=
  ⟨fun n => not_fiveEqual_stuffFrom (by omega) true n.body, fun n _ hkind hsrc hcrc => readBody_covered n hkind hsrc hcrc⟩

end Sys2Proof.StationLink

/-! ## PEER_LOST and the transmit slot -/

namespace Sys2Proof.StationLink

open Sys2Proof Sys2Proof.Machine Sys2Proof.StitchCycle Sys2Proof.StationStates

/-! ### PEER_LOST (R53, R87, R88) -/

/-- The Peer Table with the entry of an address lost, and no longer mismatched at rest (R53). -/
def peerGone (a : Nat) (d : Station) : Station :=
  { d with prt := d.prt.map (fun x => if x.addr = a then { x with lost := true, mismatched := false } else x) }

theorem ageRunsOut_none {a : Addr} {d : Station} (h : ∀ e ∈ d.prt, e.addr ≠ a.toNat) : ageRunsOut a d = d := by
  have hnone : peerOf d a.toNat = none := List.find?_eq_none.2 fun e he => by simpa using h e he
  rw [ageRunsOut, hnone]

/-- An entry that is lost is not lost a second time (R53). -/
theorem ageRunsOut_lost {a : Addr} {d : Station} {e : PeerEntry} (he : peerOf d a.toNat = some e) (hlost : e.lost = true) :
    ageRunsOut a d = d := by
  rw [ageRunsOut, he]
  exact if_pos hlost

theorem ageRunsOut_heard {a : Addr} {d : Station} {e : PeerEntry} (he : peerOf d a.toNat = some e) (hlost : e.lost = false) :
    ageRunsOut a d = losePeer e d := by
  rw [ageRunsOut, he]
  exact if_neg (by simp [hlost])

section

variable {e : PeerEntry} {d : Station}

theorem losePeer_turning (h : d.stc.state = .run ∨ d.stc.state = .armed) :
    losePeer e d = fault (plainRecord .peerLost e.addr d) (peerGone e.addr d) := by
  unfold losePeer
  rcases h with h | h <;> simp only [setPeer_frame, h] <;> rfl

theorem losePeer_still
    (h : d.stc.state = .joining ∨ d.stc.state = .ready ∨ d.stc.state = .halting ∨ d.stc.state = .done) :
    losePeer e d = peerGone e.addr d := by
  unfold losePeer
  rcases h with h | h | h | h <;> simp only [setPeer_frame, h] <;> rfl

/-- A walk in HALTED is cut, or over where a head-only station loses the frame station; without a walk there is nothing to cut
(R53, R88). -/
theorem walkLosesPeer_eq :
    walkLosesPeer e d = { d with
      ssq := { d.ssq with
        walk := if d.stc.frameRole = false ∧ e.frame = true then none
          else d.ssq.walk.map (fun k => { k with cutPending := true }) } } := by
  have hover : (d.ssq.walk.isSome && !d.stc.frameRole && e.frame) = true ↔
      d.ssq.walk.isSome = true ∧ d.stc.frameRole = false ∧ e.frame = true := by simp [and_assoc]
  unfold walkLosesPeer
  cases hwalk : d.ssq.walk with
  | none =>
    rw [if_neg (by simp), cutWalk_eq, hwalk]
    simp
  | some k =>
    rw [hwalk] at hover
    by_cases h : d.stc.frameRole = false ∧ e.frame = true
    · rw [if_pos (hover.2 ⟨rfl, h⟩), if_pos h]
      rfl
    · rw [if_neg fun hc => h (hover.1 hc).2, if_neg h, cutWalk_eq, hwalk]

theorem losePeer_halted (h : d.stc.state = .halted) : losePeer e d = walkLosesPeer e (peerGone e.addr d) := by
  unfold losePeer
  simp only [setPeer_frame, h]
  rfl

end

/-- Settles O54: the entry found, then the station state in which it is lost. -/
theorem peerLostByState : Obligations.PeerLostByState := by
  intro a s hlive d gone
  have hexec : exec (.peerLost a) s = .next (closed s (ageRunsOut a d)) := exec_live hlive nofun nofun
  rw [hexec]
  refine ⟨fun hnone => by rw [ageRunsOut_none hnone], fun e he => ?_⟩
  have haddr : e.addr = a.toNat := by simpa using List.find?_some he
  have hgone : peerGone e.addr d = gone := by rw [haddr]; rfl
  refine ⟨fun hlost => by rw [ageRunsOut_lost he hlost], fun hlost hstate => ?_, fun hlost hstate => ?_, fun hlost hstate => ?_⟩
  · rw [ageRunsOut_heard he hlost, losePeer_turning hstate, hgone, plainRecord, haddr]
  · rw [ageRunsOut_heard he hlost, losePeer_halted hstate, hgone, walkLosesPeer_eq]
  · rw [ageRunsOut_heard he hlost, losePeer_still hstate, hgone]

/-! ### The transmit slot (R42, R47 to R49) -/

/-- What a Status cause does to the slot; a muted station's stays empty (R47, R48). -/
theorem causeStatus_setsSlot (d : Station) :
    causeStatus d = { d with
      sli := if muted d then d.sli
        else if d.sli.sending.isSome then { d.sli with causeAgain := true } else { d.sli with slotPending := true } } := by
  rw [← causeStatus_sli, causeStatus_eq]

/-- An attempt of a station with a Status pending and none on the line puts the present items on it (R47, R49). -/
theorem attemptStatus_begins {d : Station} (hpending : d.sli.slotPending = true) (hidle : d.sli.sending = none)
    (hmuted : muted d = false) :
    attemptStatus d = { d with sli := { d.sli with sending := some (statusNotice d), causeAgain := false } } :=
  if_pos (by simp [hpending, hidle, hmuted])

theorem attemptStatus_idle {d : Station} (h : d.sli.slotPending = false ∨ d.sli.sending ≠ none ∨ muted d = true) :
    attemptStatus d = d := by
  refine if_neg fun hbegins => ?_
  simp only [Bool.and_eq_true, Bool.not_eq_true', Option.isNone_iff_eq_none] at hbegins
  obtain ⟨⟨hpending, hidle⟩, hmuted⟩ := hbegins
  simp [hpending, hidle, hmuted] at h

theorem statusIsSent_ends {d : Station} (h : d.sli.sending ≠ none) : statusIsSent d = { d with sli :=
    { slotPending := d.sli.causeAgain, sending := none, causeAgain := false, intervalFrom := d.now } } :=
  if_pos (Option.isSome_iff_ne_none.2 h)

theorem statusIsSent_idle {d : Station} (h : d.sli.sending = none) : statusIsSent d = d := if_neg (by simp [h])

/-- Settles O55: each event of the slot, by what stands in it. -/
theorem transmitSlot : Obligations.TransmitSlot := by
  intro bits s hlive d caused
  have hinterval : exec .statusInterval s = .next (closed s (causeStatus d)) := exec_live hlive nofun nofun
  have hattempt : exec .statusAttempt s = .next (closed s (attemptStatus d)) := exec_live hlive nofun nofun
  have hsent : exec .statusSent s = .next (closed s (statusIsSent d)) := exec_live hlive nofun nofun
  refine ⟨exec_live hlive nofun nofun, ?_, fun hpending hidle hmuted => ?_, fun hnot => ?_, exec_live hlive nofun nofun,
    fun hsending => ?_, fun hidle => ?_⟩
  · rw [hinterval, causeStatus_setsSlot]
  · rw [hattempt, attemptStatus_begins hpending hidle hmuted]
    rfl
  · rw [hattempt, attemptStatus_idle hnot]
  · rw [hsent, statusIsSent_ends hsending]
  · rw [hsent, statusIsSent_idle hidle]

end Sys2Proof.StationLink

/-! ## Console notices: the checks before the owner -/

namespace Sys2Proof.StationLink

open Sys2Proof Sys2Proof.Machine Sys2Proof.StitchCycle Sys2Proof.StationStates

/-! ### The acceptance table (R45) -/

/-- The rows of R45 for an unlocked station, a column per station state in the order of the codes of 12.4; `page` is what READY
answers a Design Page. -/
def acceptanceRow (page : Acceptance) : NoticeKind → List Acceptance
  | .stop => [.noEffect, .noEffect, .accepted, .accepted, .accepted, .accepted, .accepted]
  | .stationReset => [.accepted, .accepted, .accepted, .accepted, .accepted, .accepted, .accepted]
  | .start => [.refusedState, .checked, .noEffect, .noEffect, .refusedState, .checked, .checked]
  | .back => [.refusedState, .refusedState, .refusedState, .refusedState, .refusedState, .checked, .checked]
  | .forward => [.refusedState, .refusedState, .refusedState, .refusedState, .refusedState, .checked, .refusedState]
  | .headSelect => [.refusedState, .accepted, .refusedState, .refusedState, .refusedState, .accepted, .accepted]
  | .faultClear => [.accepted, .accepted, .refusedState, .refusedState, .refusedState, .accepted, .accepted]
  | .pantographGo => [.refusedState, .checked, .refusedState, .refusedState, .refusedState, .checked, .checked]
  | .needleMap => [.refusedState, .accepted, .refusedState, .refusedState, .refusedState, .accepted, .accepted]
  | .configure => [.checked, .refusedState, .refusedState, .refusedState, .refusedState, .refusedState, .refusedState]
  | .designOpen => [.refusedState, .accepted, .refusedState, .refusedState, .refusedState, .accepted, .accepted]
  | .designPage => [.ignored, page, .checked, .checked, .checked, .checked, .ignored]
  | .status => []

theorem acceptTable_eq_row (designOpen : Bool) (kind : NoticeKind) (st : StationState) :
    acceptTable designOpen kind st =
      (acceptanceRow (if designOpen then .checked else .ignored) kind).getD st.code .ignored := by
  cases kind <;> cases st <;> rfl

/-- R45, with the three changes for a locked station. -/
theorem acceptance_eq (d : Station) (kind : NoticeKind) :
    acceptance d kind =
      if d.stc.lock ≠ .none ∧ kind = .stationReset then .ignored
      else if d.stc.lock ≠ .none ∧ (kind = .configure ∨ kind = .faultClear) then .refusedState
      else (acceptanceRow (if d.pgs.header = none then .ignored else .checked) kind).getD d.stc.state.code .ignored := by
  have hpage : (if d.pgs.header = none then Acceptance.ignored else .checked) =
      if d.pgs.header.isSome then .checked else .ignored := by cases d.pgs.header <;> rfl
  rw [hpage]
  unfold acceptance
  by_cases hlock : d.stc.lock = .none
  · simp [hlock, acceptTable_eq_row]
  · cases kind with
    | stationReset | configure | faultClear => simp [hlock]
    | _ => simp [hlock, acceptTable_eq_row]

/-! ### The checks in their order (R43, R44, R46) -/

/-- What a notice must be to be judged at all: the console's, with a payload, naming this station, in its role (R43, R44). -/
theorem noticeReaches_iff (d : Station) (kind : NoticeKind) (src : Addr) (p : Payload) :
    noticeReaches d kind src p = true ↔
      src.toNat = 0 ∧ p ≠ [] ∧ (targetOf p = 0 ∨ targetOf p = d.stc.addr) ∧
        (kind = .pantographGo → d.stc.frameRole = true) ∧ (kind = .headSelect ∨ kind = .needleMap → d.stc.headRole = true) := by
  have hrole : roleFits d kind = true ↔
      (kind = .pantographGo → d.stc.frameRole = true) ∧ (kind = .headSelect ∨ kind = .needleMap → d.stc.headRole = true) := by
    cases kind <;> simp [roleFits]
  rw [noticeReaches, Bool.and_eq_true, decide_eq_true_eq, hrole]
  simp only [and_assoc]

theorem broadcastOnly_iff (kind : NoticeKind) : broadcastOnly kind = true ↔
    kind = .stop ∨ kind = .start ∨ kind = .back ∨ kind = .forward ∨ kind = .designOpen ∨ kind = .designPage ∨
      kind = .needleMap := by
  cases kind <;> simp [broadcastOnly]

/-- A refusal is the last one, and a Status cause (R46, R48). -/
theorem refused_eq (kind : NoticeKind) (why : RefusalReason) (d : Station) :
    refused kind why d = { d with
      stc := { d.stc with lastRefusal := some (kind, why) }
      sli := if muted d then d.sli
        else if d.sli.sending.isSome then { d.sli with causeAgain := true } else { d.sli with slotPending := true } } := by
  rw [refused, causeStatus_sli]

section

variable {kind : NoticeKind} {lenOk : Bool} {src : Addr} {p : Payload} {owner : Station → Station} {d : Station}

theorem takeNotice_astray (h : noticeReaches d kind src p = false) : takeNotice kind lenOk src p owner d = d := by
  rw [takeNotice, h]
  rfl

theorem takeNotice_format (h : noticeReaches d kind src p = true) :
    takeNotice kind false src p owner d = refused kind .format d := by
  rw [takeNotice, h, ← refuse_eq]
  rfl

theorem takeNotice_range (h : noticeReaches d kind src p = true) (hbroadcast : broadcastOnly kind = true)
    (htarget : targetOf p ≠ 0) : takeNotice kind true src p owner d = refused kind .range d := by
  rw [takeNotice, h, hbroadcast, ← refuse_eq]
  simp [htarget]

theorem noticeTaken_of_judged (h : noticeReaches d kind src p = true)
    (hrange : ¬(broadcastOnly kind = true ∧ targetOf p ≠ 0))
    (hacc : acceptance d kind = .accepted ∨ acceptance d kind = .checked) : noticeTaken d kind true src p = true := by
  have hpass : broadcastOnly kind = false ∨ targetOf p = 0 :=
    (not_and_or.1 hrange).imp Bool.eq_false_iff.2 not_not.1
  simp [noticeTaken, h, hpass, hacc]

/-- A notice past the first four checks that the acceptance table refuses (R44, check 5). -/
theorem takeNotice_state (h : noticeReaches d kind src p = true) (hrange : ¬(broadcastOnly kind = true ∧ targetOf p ≠ 0))
    (hacc : acceptance d kind = .refusedState) : takeNotice kind true src p owner d = refused kind .state d := by
  have hpass : (broadcastOnly kind && decide (targetOf p ≠ 0)) = false := by simpa using hrange
  rw [takeNotice, h, hpass, hacc, ← refuse_eq]
  rfl

/-- A notice past the first four checks that the acceptance table takes without effect, or ignores (R44, check 5). -/
theorem takeNotice_idle (h : noticeReaches d kind src p = true) (hrange : ¬(broadcastOnly kind = true ∧ targetOf p ≠ 0))
    (hacc : acceptance d kind = .noEffect ∨ acceptance d kind = .ignored) : takeNotice kind true src p owner d = d := by
  have hpass : (broadcastOnly kind && decide (targetOf p ≠ 0)) = false := by simpa using hrange
  rw [takeNotice, h, hpass]
  rcases hacc with hacc | hacc <;> rw [hacc] <;> rfl

end

/-- A console notice is its owner's effect behind the checks, at the input levels it brings. -/
theorem effect_notice {c : Instr} {kind : NoticeKind} {lenOk : Bool} {src : Addr} {p : Payload}
    (h : noticeOf c = some (kind, lenOk, src, p)) :
    ∃ owner, ∀ d : Station, effect c d = takeNotice kind lenOk src p owner { d with pins := levelsAfter c d.pins } := by
  cases c with
  | stop | stationReset | start | back | forward | headSelect | faultClear | pantographGoHome | pantographGoPark
  | pantographGoReturn | pantographGoAbsolute | pantographGoSetOrigin | pantographGoTrace | needleMap | configureRoster
  | configureTiming | configureMotion | configureThread | designOpen | designPage =>
    cases h
    exact ⟨_, fun _ => rfl⟩
  | _ => cases h

/-- Settles O6: the table of R45, then the checks of R44 in their order. -/
theorem noticeChecksBeforeOwner : Obligations.NoticeChecksBeforeOwner := by
  intro c kind lenOk src p s hlive hc d A N C S I page row column entry reaches broadcast e due
  obtain ⟨owner, heffect⟩ := effect_notice hc
  have hexec : exec c s = .next (closed s (takeNotice kind lenOk src p owner e)) := by
    rw [exec_live hlive (by rintro rfl; cases hc) (by rintro a x y rfl; cases hc), heffect]
  have hentry : acceptance d kind = entry := acceptance_eq d kind
  have hreaches : reaches → noticeReaches e kind src p = true := (noticeReaches_iff e kind src p).2
  have hrange : ¬(broadcast ∧ targetOf p ≠ 0) → ¬(broadcastOnly kind = true ∧ targetOf p ≠ 0) :=
    mt (And.imp_left (broadcastOnly_iff kind).1)
  refine ⟨hentry, fun why => refused_eq kind why e, fun hastray => ?_, fun hreach hlen => ?_, fun hreach hlen hb ht => ?_,
    fun hreach hlen hb hS => ?_, fun hreach hlen hb hNI => ?_, fun hreach hlen hb hAC => ?_⟩
  · rw [hexec, takeNotice_astray (Bool.eq_false_iff.2 (mt (noticeReaches_iff e kind src p).1 hastray))]
  · rw [hexec, hlen, takeNotice_format (hreaches hreach)]
  · rw [hexec, hlen, takeNotice_range (hreaches hreach) ((broadcastOnly_iff kind).2 hb) ht]
  · rw [hexec, hlen, takeNotice_state (hreaches hreach) (hrange hb) (hentry.trans hS)]
  · rw [hexec, hlen, takeNotice_idle (hreaches hreach) (hrange hb) (hNI.imp hentry.trans hentry.trans)]
  · have hacc : acceptance d kind = .accepted ∨ acceptance d kind = .checked := hAC.imp hentry.trans hentry.trans
    have htaken := noticeTaken_of_judged (hreaches hreach) (hrange hb) hacc
    rw [Taken, passesChecks, hc, hlen]
    exact htaken

end Sys2Proof.StationLink

/-! ## The page store: crossings, and the run of pages held -/

namespace Sys2Proof.PageRun

open Sys2Proof Sys2Proof.Machine

variable {depth old new r n m k : Nat} {g : PageStore}

/-! ### One crossing (R71 to R73) -/

/-- A forward crossing: the head of the posted queue becomes current, the page before it joins the retained list (R71), and a list
then above the depth returns its oldest slot (R72). -/
theorem crossForward_eq {p : Page} {ps : List Page} (h : g.posted = p :: ps) :
    let kept := g.retained ++ g.current.toList
    let spills := decide (depth < kept.length)
    g.crossForward depth = { g with
      current := some p
      posted := ps
      retained := if spills then kept.tail else kept
      free := g.free ++ (if spills then kept.take 1 else []).map (·.slot) } := by
  intro kept spills
  rw [PageStore.crossForward, h]
  simp only [PageStore.retain]
  by_cases hs : depth < kept.length
  · rw [if_pos hs]
    cases hk : kept with
    | nil => simp [hk] at hs
    | cons o rest =>
      have hspills : spills = true := decide_eq_true hs
      simp only [show g.retained ++ g.current.toList = o :: rest from hk, hspills, if_true, List.tail_cons, List.take_succ_cons,
        List.take_zero, List.map_cons, List.map_nil]
  · have hspills : spills = false := decide_eq_false hs
    rw [if_neg hs]
    simp [hspills, kept]

/-- A backward crossing: the current page heads the posted queue again, and the newest retained page is current (R73). -/
theorem crossBackward_eq {p : Page} (h : g.current = some p) :
    g.crossBackward = { g with
      posted := p :: g.posted
      current := g.retained.getLast?
      retained := g.retained.dropLast } := by
  rw [PageStore.crossBackward, h]

theorem dropLast_append_newest (l : List Page) : l.dropLast ++ l.getLast?.toList = l := by
  cases h : l.getLast? with
  | none => rw [List.getLast?_eq_none_iff.1 h]; rfl
  | some a => exact List.dropLast_append_getLast? a h

/-! ### Crossings in turn (R70) -/

theorem crossTimes_add (f : PageStore → PageStore) (a b : Nat) (g : PageStore) :
    PageStore.crossTimes f (a + b) g = PageStore.crossTimes f b (PageStore.crossTimes f a g) := by
  induction a generalizing g with
  | zero => rw [Nat.zero_add]; rfl
  | succ a ih => rw [Nat.succ_add]; exact ih (f g)

theorem pagesBelow_of_pos (h : 1 ≤ n) : pagesBelow n = (n - 1) / 12 + 1 := by
  rw [pagesBelow, if_neg (by omega)]; rfl

theorem pagesBelow_succ (r : Nat) : pagesBelow (r + 1) = r / 12 + 1 := pagesBelow_of_pos (by omega)

theorem pagesBelow_mono (h : m ≤ n) : pagesBelow m ≤ pagesBelow n := by
  unfold pagesBelow pageOfStitch Config.pageRecords
  split <;> split <;> omega

/-- The pages up to `r` and up to `r + 1` differ where `r` is the last stitch of a page, or 0 (R70). -/
theorem pagesBelow_boundary (r : Nat) : pagesBelow (r + 1) = pagesBelow r + if r % 12 = 0 then 1 else 0 := by
  rw [pagesBelow_succ]
  rcases Nat.eq_zero_or_pos r with rfl | hr
  · rfl
  · rw [pagesBelow_of_pos hr]
    split <;> omega

theorem moveTo_of_le (h : old ≤ new) : g.moveTo depth old new =
    PageStore.crossTimes (PageStore.crossForward depth) (pagesBelow new - pagesBelow old) g := by
  rw [PageStore.moveTo, Nat.sub_eq_zero_of_le (pagesBelow_mono h)]
  rfl

theorem moveTo_of_ge (h : new ≤ old) : g.moveTo depth old new =
    PageStore.crossTimes PageStore.crossBackward (pagesBelow old - pagesBelow new) g := by
  rw [PageStore.moveTo, Nat.sub_eq_zero_of_le (pagesBelow_mono h)]
  rfl

/-- The crossings of R71 to R73, by the place of the stitch number in its page. -/
theorem moveTo_crosses (g : PageStore) (depth r : Nat) :
    (r % 12 = 0 → g.moveTo depth r (r + 1) = g.crossForward depth) ∧
    (r % 12 = 0 → g.moveTo depth (r + 1) r = g.crossBackward) ∧
    (r % 12 ≠ 0 → g.moveTo depth r (r + 1) = g ∧ g.moveTo depth (r + 1) r = g) := by
  rw [moveTo_of_le (Nat.le_succ r), moveTo_of_ge (Nat.le_succ r), pagesBelow_boundary, Nat.add_sub_cancel_left]
  refine ⟨fun h => ?_, fun h => ?_, fun h => ?_⟩
  · rw [if_pos h]; rfl
  · rw [if_pos h]; rfl
  · rw [if_neg h]; exact ⟨rfl, rfl⟩

/-- A longer change makes the crossings on its way in turn (R70). -/
theorem moveTo_trans (hr : r ≤ m) (hn : m ≤ n) :
    g.moveTo depth r n = (g.moveTo depth r m).moveTo depth m n ∧
    g.moveTo depth n r = (g.moveTo depth n m).moveTo depth m r := by
  have hlow := pagesBelow_mono hr
  have hhigh := pagesBelow_mono hn
  rw [moveTo_of_le hr, moveTo_of_le hn, moveTo_of_le (hr.trans hn), moveTo_of_ge hr, moveTo_of_ge hn, moveTo_of_ge (hr.trans hn),
    ← crossTimes_add, ← crossTimes_add]
  constructor <;> congr 1 <;> omega

/-! ### Each slot in one collection (R62) -/

theorem crossForward_slots (depth : Nat) (g : PageStore) : (g.crossForward depth).slots.Perm g.slots := by
  cases hp : g.posted with
  | nil => rw [PageStore.crossForward, hp]
  | cons p ps =>
    rw [crossForward_eq hp]
    have hkept : ∀ (b : Bool) (l : List Page) (a : Nat),
        ((if b then l.tail else l).map (·.slot)).count a + ((if b then l.take 1 else []).map (·.slot)).count a =
          (l.map (·.slot)).count a := by
      intro b l a
      cases b <;> cases l <;> simp [List.count_cons]
    refine List.perm_iff_count.2 fun a => ?_
    have hsplit := hkept (decide (depth < (g.retained ++ g.current.toList).length)) (g.retained ++ g.current.toList) a
    simp only [List.map_append, List.count_append] at hsplit
    simp only [PageStore.slots, hp, List.count_append, List.map_cons, List.count_cons, Option.toList_some, List.map_nil,
      List.count_nil]
    omega

theorem crossBackward_slots (g : PageStore) : g.crossBackward.slots.Perm g.slots := by
  cases hc : g.current with
  | none => rw [PageStore.crossBackward, hc]
  | some p =>
    rw [crossBackward_eq hc]
    refine List.perm_iff_count.2 fun a => ?_
    have hsplit := congrArg (fun l => (l.map (·.slot)).count a) (dropLast_append_newest g.retained)
    simp only [List.map_append, List.count_append] at hsplit
    simp only [PageStore.slots, hc, List.count_append, List.map_cons, List.count_cons, Option.toList_some, List.map_nil,
      List.count_nil]
    omega

theorem crossTimes_slots {f : PageStore → PageStore} (hf : ∀ g, (f g).slots.Perm g.slots) (n : Nat)
    (g : PageStore) : (PageStore.crossTimes f n g).slots.Perm g.slots := by
  induction n generalizing g with
  | zero => exact .refl _
  | succ n ih => exact (ih (f g)).trans (hf g)

/-- A change of the stitch number puts the slots in other collections, each in one (R62, R70). -/
theorem moveTo_slots (depth old new : Nat) (g : PageStore) : (g.moveTo depth old new).slots.Perm g.slots :=
  (crossTimes_slots crossBackward_slots _ _).trans (crossTimes_slots (crossForward_slots depth) _ _)

theorem accept_slots (k : Nat) (rs : List StitchRecord) (g : PageStore) : (g.accept k rs).slots.Perm g.slots := by
  cases hf : g.free with
  | nil => rw [PageStore.accept, hf]
  | cons slot rest =>
    rw [PageStore.accept, hf]
    refine List.perm_iff_count.2 fun a => ?_
    simp only [PageStore.slots, hf, List.count_append, List.map_append, List.map_cons, List.count_cons, List.map_nil,
      List.count_nil]
    omega

end Sys2Proof.PageRun

/-! ## The run of pages held -/

namespace Sys2Proof.PageRun

open Sys2Proof Sys2Proof.Machine

variable {depth r n m k : Nat} {g : PageStore}

/-- The number of the oldest page held, in a store that is one run of pages below the next wanted page. -/
def base (g : PageStore) : Nat := g.nextWanted - g.pages.length

/-- The pages of the design up to and with the current page. -/
def reached (g : PageStore) : Nat := base g + (g.retained.length + g.current.toList.length)

/-- The page of stitch `n` is held with its record, and for stitch 0 no page has gone back to the free list (R63, R72). -/
def Covers (g : PageStore) (n : Nat) : Prop :=
  (n = 0 → g.pages.length = g.nextWanted) ∧
    (1 ≤ n → ∃ p ∈ g.pages, p.number = (n - 1) / 12 ∧ (n - 1) % 12 < p.records.length)

/-- The pages held are one run of consecutive pages below the next wanted page, each full but for the design's last, with at most
`depth` of them retained, and none without a current page (R61, R70 to R72). -/
structure HeldRun (depth : Nat) (g : PageStore) : Prop where
  count : g.pages.length ≤ g.nextWanted
  numbers : g.pages.map (·.number) = List.range' (base g) g.pages.length
  filled : ∀ p ∈ g.pages, 1 ≤ p.records.length ∧ p.records.length ≤ 12 ∧
    (p.records.length = 12 ∨ ∃ h ∈ g.header, h.pages = p.number + 1)
  within : ∀ h ∈ g.header, g.nextWanted ≤ h.pages
  retains : g.retained.length ≤ depth
  packed : g.current = none → g.retained = []

/-! ### Pages by their place in the run -/

theorem HeldRun.number (h : HeldRun depth g) {i : Nat} (hi : i < g.pages.length) : g.pages[i].number = base g + i := by
  have hget : (g.pages.map (·.number))[i]'(by simpa using hi) = (List.range' (base g) g.pages.length)[i]'(by simpa using hi) := by
    simp only [h.numbers]
  simpa using hget

/-- A page of the run is known by its number. -/
theorem HeldRun.page_eq (h : HeldRun depth g) {i : Nat} {p : Page} (hp : p ∈ g.pages) (hi : i < g.pages.length)
    (hnumber : p.number = base g + i) : g.pages[i] = p := by
  obtain ⟨j, hj, rfl⟩ := List.getElem_of_mem hp
  have hji : j = i := by
    have := h.number hj
    omega
  simp only [hji]

theorem HeldRun.number_bounds (h : HeldRun depth g) {p : Page} (hp : p ∈ g.pages) :
    base g ≤ p.number ∧ p.number < g.nextWanted := by
  obtain ⟨i, hi, rfl⟩ := List.getElem_of_mem hp
  have hn := h.number hi
  have hc := h.count
  rw [base] at hn ⊢
  omega

/-- Every page but the design's last has 12 records (R61). -/
theorem HeldRun.full (h : HeldRun depth g) {p : Page} (hp : p ∈ g.pages) (hlast : p.number + 1 < g.nextWanted) :
    p.records.length = 12 := by
  obtain ⟨-, -, hfull | ⟨hd, hmem, hpages⟩⟩ := h.filled p hp
  · exact hfull
  · have := h.within hd hmem
    omega

/-- The page of a stitch held stands in the run at its number, counted from the oldest page. -/
theorem HeldRun.covers_pos (h : HeldRun depth g) (hn : 1 ≤ n) (hc : Covers g n) :
    base g ≤ (n - 1) / 12 ∧ (n - 1) / 12 < g.nextWanted := by
  obtain ⟨p, hp, hnumber, -⟩ := hc.2 hn
  exact hnumber ▸ h.number_bounds hp

theorem Covers.base_zero (hc : Covers g 0) : base g = 0 := by
  rw [base, hc.1 rfl, Nat.sub_self]

/-- Between two stitches held every stitch is. -/
theorem HeldRun.covers_between (h : HeldRun depth g) {a b : Nat} (ha : Covers g a) (hb : Covers g b) (han : a ≤ n) (hnb : n ≤ b) :
    Covers g n := by
  refine ⟨fun h0 => ha.1 (by omega), fun hn => ?_⟩
  obtain ⟨q, hq, hqn, hqr⟩ := hb.2 (by omega)
  have hlow : base g ≤ (n - 1) / 12 := by
    rcases Nat.eq_zero_or_pos a with rfl | hapos
    · rw [ha.base_zero]; omega
    · have := (h.covers_pos hapos ha).1
      omega
  by_cases hsame : (n - 1) / 12 = q.number
  · exact ⟨q, hq, hsame.symm, by omega⟩
  · have hbound := h.number_bounds hq
    have hc := h.count
    have hi : (n - 1) / 12 - base g < g.pages.length := by
      rw [base] at *
      omega
    have hnumber : g.pages[(n - 1) / 12 - base g].number = (n - 1) / 12 := by
      rw [h.number hi]
      omega
    refine ⟨_, List.getElem_mem hi, hnumber, ?_⟩
    rw [h.full (List.getElem_mem hi) (by omega)]
    omega

/-- The last stitch of a page held is held. -/
theorem HeldRun.covers_lastStitch (h : HeldRun depth g) {p : Page} (hp : p ∈ g.pages) : Covers g p.lastStitch := by
  obtain ⟨hlow, hhigh, -⟩ := h.filled p hp
  rw [Page.lastStitch, Config.pageRecords]
  exact ⟨fun h0 => by omega, fun _ => ⟨p, hp, by omega, by omega⟩⟩

/-- The first stitch of a page held is held. -/
theorem HeldRun.covers_firstStitch (h : HeldRun depth g) {p : Page} (hp : p ∈ g.pages) : Covers g (12 * p.number + 1) := by
  obtain ⟨hlow, -⟩ := h.filled p hp
  exact ⟨fun h0 => by omega, fun _ => ⟨p, hp, by omega, by omega⟩⟩

/-- A record read is one of a page held (R74). -/
theorem covers_of_read {x : StitchRecord} (h : g.read n = some x) : Covers g n := by
  unfold PageStore.read at h
  split at h
  next => cases h
  next h0 =>
    refine ⟨fun hz => absurd hz h0, fun _ => ?_⟩
    split at h
    next p hfind =>
      refine ⟨p, ?_, by simpa [pageOfStitch, Config.pageRecords] using List.find?_some hfind, List.getElem?_eq_some_iff.1 h |>.1⟩
      have hmem := List.mem_of_find?_eq_some hfind
      simp only [PageStore.pages, List.mem_append] at hmem ⊢
      tauto
    next => cases h

/-! ### Crossings keep the run -/

theorem HeldRun.crossBackward (h : HeldRun depth g) {c : Page} (hcur : g.current = some c) :
    HeldRun depth g.crossBackward ∧ g.crossBackward.pages = g.pages ∧ g.crossBackward.nextWanted = g.nextWanted ∧
      reached g.crossBackward + 1 = reached g := by
  rw [crossBackward_eq hcur]
  have hpages : g.retained.dropLast ++ (g.retained.getLast?.toList ++ c :: g.posted) = g.pages := by
    rw [← List.append_assoc, dropLast_append_newest, PageStore.pages, hcur]
    rfl
  have hlength : g.retained.dropLast.length + g.retained.getLast?.toList.length = g.retained.length := by
    rw [← List.length_append, dropLast_append_newest]
  refine ⟨⟨?_, ?_, ?_, h.within, ?_, ?_⟩, hpages, rfl, ?_⟩
  · simpa [PageStore.pages, hpages] using h.count
  · simpa [PageStore.pages, base, hpages] using h.numbers
  · simpa [PageStore.pages, hpages] using h.filled
  · simpa using (Nat.sub_le _ _).trans h.retains
  · intro hnone
    simp [List.getLast?_eq_none_iff.1 hnone]
  · simp only [reached, base, PageStore.pages, hpages, hlength, hcur, Option.toList_some, List.length_singleton]
    rfl

/-- A forward crossing within the depth moves one page of the run on (R71). -/
theorem HeldRun.crossForward_within (h : HeldRun depth g) {p : Page} {ps : List Page} (hposted : g.posted = p :: ps)
    (hroom : (g.retained ++ g.current.toList).length ≤ depth) :
    HeldRun depth (g.crossForward depth) ∧ (g.crossForward depth).pages = g.pages ∧
      reached (g.crossForward depth) = reached g + 1 := by
  have hspills : decide (depth < (g.retained ++ g.current.toList).length) = false := decide_eq_false (by omega)
  rw [crossForward_eq hposted, hspills]
  have hpages : g.retained ++ g.current.toList ++ ((some p).toList ++ ps) = g.pages := by
    simp [PageStore.pages, hposted]
  simp only [Bool.false_eq_true, if_false]
  refine ⟨⟨?_, ?_, ?_, h.within, hroom, nofun⟩, hpages, ?_⟩
  · simpa only [PageStore.pages, hpages] using h.count
  · simpa only [PageStore.pages, base, hpages] using h.numbers
  · simpa only [PageStore.pages, hpages] using h.filled
  · change g.nextWanted - (g.retained ++ g.current.toList ++ ((some p).toList ++ ps)).length +
      ((g.retained ++ g.current.toList).length + 1) = _
    rw [hpages, List.length_append, reached, base]
    omega

/-- A forward crossing beyond the depth gives up the oldest page of the run (R72). -/
theorem HeldRun.crossForward_beyond (h : HeldRun depth g) {p : Page} {ps : List Page} (hposted : g.posted = p :: ps)
    (hfull : depth < (g.retained ++ g.current.toList).length) :
    HeldRun depth (g.crossForward depth) ∧ (∃ o, g.pages = o :: (g.crossForward depth).pages) ∧
      base (g.crossForward depth) = base g + 1 ∧ reached g = base g + depth + 1 ∧
      reached (g.crossForward depth) = reached g + 1 := by
  obtain ⟨o, rest, hkept⟩ : ∃ o rest, g.retained ++ g.current.toList = o :: rest := by
    cases hk : g.retained ++ g.current.toList with
    | nil => simp [hk] at hfull
    | cons o rest => exact ⟨o, rest, rfl⟩
  have hlength : g.retained.length + g.current.toList.length = rest.length + 1 := by
    simpa using congrArg List.length hkept
  have hcurrent : g.current.toList.length ≤ 1 := by cases g.current <;> simp
  have hrest : rest.length = depth := by
    have hretains := h.retains
    have hover : depth < rest.length + 1 := by simpa [hkept] using hfull
    omega
  have hpages : g.pages = o :: (rest ++ ((some p).toList ++ ps)) := by
    rw [PageStore.pages, hposted, ← List.append_assoc, hkept]
    rfl
  rw [crossForward_eq hposted, decide_eq_true hfull]
  simp only [if_true, hkept, List.tail_cons]
  have hcount := h.count
  have hnumbers := h.numbers
  have hfilled := h.filled
  rw [hpages] at hcount hnumbers hfilled
  have hbase : base g = g.nextWanted - (rest ++ ((some p).toList ++ ps)).length - 1 := by
    rw [base, hpages, List.length_cons]
    omega
  simp only [List.length_cons] at hcount hnumbers
  refine ⟨⟨?_, ?_, ?_, h.within, hrest.le, nofun⟩, ⟨o, hpages⟩, ?_, ?_, ?_⟩
  · simp only [PageStore.pages]
    omega
  · simp only [PageStore.pages, base]
    rw [List.map_cons, List.range'_succ] at hnumbers
    rw [(List.cons.inj hnumbers).2, hbase]
    congr 1
    omega
  · exact fun q hq => hfilled q (List.mem_cons_of_mem _ hq)
  · change g.nextWanted - (rest ++ ((some p).toList ++ ps)).length = _
    omega
  · rw [reached, hlength]
    omega
  · change g.nextWanted - (rest ++ ((some p).toList ++ ps)).length + (rest.length + 1) = _
    rw [reached, hlength]
    omega

theorem crossForward_nextWanted (depth : Nat) (g : PageStore) : (g.crossForward depth).nextWanted = g.nextWanted := by
  cases hp : g.posted with
  | nil => rw [PageStore.crossForward, hp]
  | cons p ps => rw [crossForward_eq hp]

/-- One forward crossing: the run stays, one page further, and gives up no page that lies within the depth of it. -/
theorem HeldRun.crossForward (h : HeldRun depth g) (hposted : g.posted ≠ []) :
    HeldRun depth (g.crossForward depth) ∧ reached (g.crossForward depth) = reached g + 1 ∧
      ∀ m, Covers g m → reached g < max (pagesBelow m) 1 + depth → Covers (g.crossForward depth) m := by
  obtain ⟨p, ps, hp⟩ := List.exists_cons_of_ne_nil hposted
  have hnext := crossForward_nextWanted depth g
  by_cases hroom : (g.retained ++ g.current.toList).length ≤ depth
  · obtain ⟨hrun, hpages, hreached⟩ := h.crossForward_within hp hroom
    refine ⟨hrun, hreached, fun m hm _ => ?_⟩
    rwa [Covers, hpages, hnext]
  · obtain ⟨hrun, ⟨o, hpages⟩, hbase, hspilt, hreached⟩ := h.crossForward_beyond hp (by omega)
    refine ⟨hrun, hreached, fun m hm hdepth => ⟨fun h0 => ?_, fun hpos => ?_⟩⟩
    · subst h0
      have h0 := hm.base_zero
      have hnone : pagesBelow 0 = 0 := rfl
      omega
    · obtain ⟨q, hq, hnumber, hrecord⟩ := hm.2 hpos
      refine ⟨q, ?_, hnumber, hrecord⟩
      rw [hpages, List.mem_cons] at hq
      rcases hq with rfl | hq
      · have hfirst : q.number = base g := by
          have := h.number (i := 0) (by rw [hpages]; simp)
          simpa [hpages] using this
        rw [pagesBelow_of_pos hpos] at hdepth
        omega
      · exact hq

/-! ### Crossings in turn, and the stitch number -/

theorem HeldRun.crossForward_times (h : HeldRun depth g) (hk : reached g + k ≤ g.nextWanted) :
    HeldRun depth (PageStore.crossTimes (PageStore.crossForward depth) k g) ∧
      reached (PageStore.crossTimes (PageStore.crossForward depth) k g) = reached g + k ∧
      ∀ m, Covers g m → reached g + k ≤ max (pagesBelow m) 1 + depth →
        Covers (PageStore.crossTimes (PageStore.crossForward depth) k g) m := by
  induction k generalizing g with
  | zero => exact ⟨h, rfl, fun m hm _ => hm⟩
  | succ k ih =>
    have hposted : g.posted ≠ [] := by
      intro hnil
      have hcount := h.count
      have hlength : g.pages.length = g.retained.length + g.current.toList.length := by simp [PageStore.pages, hnil]
      rw [reached, base] at hk
      omega
    obtain ⟨hrun, hreached, hcovers⟩ := h.crossForward hposted
    obtain ⟨hrun', hreached', hcovers'⟩ := ih hrun (by rw [crossForward_nextWanted]; omega)
    exact ⟨hrun', by rw [PageStore.crossTimes]; omega, fun m hm hdepth =>
      hcovers' m (hcovers m hm (by omega)) (by omega)⟩

theorem HeldRun.crossBackward_times (h : HeldRun depth g) (hk : base g + k ≤ reached g) :
    HeldRun depth (PageStore.crossTimes PageStore.crossBackward k g) ∧
      reached (PageStore.crossTimes PageStore.crossBackward k g) + k = reached g ∧
      ∀ m, Covers g m → Covers (PageStore.crossTimes PageStore.crossBackward k g) m := by
  induction k generalizing g with
  | zero => exact ⟨h, rfl, fun m hm => hm⟩
  | succ k ih =>
    obtain ⟨c, hcurrent⟩ : ∃ c, g.current = some c := by
      cases hc : g.current with
      | some c => exact ⟨c, rfl⟩
      | none =>
        rw [reached, h.packed hc, hc] at hk
        simp at hk
    obtain ⟨hrun, hpages, hnext, hreached⟩ := h.crossBackward hcurrent
    have hbase : base g.crossBackward = base g := by rw [base, base, hpages, hnext]
    obtain ⟨hrun', hreached', hcovers'⟩ := ih hrun (by omega)
    refine ⟨hrun', by rw [PageStore.crossTimes]; omega, fun m hm => hcovers' m ?_⟩
    rwa [Covers, hpages, hnext]

/-- The pages held follow stitch `r`: the current page is the one that holds record r, and none is at stitch 0 (R70 to R73). -/
structure Follows (depth : Nat) (g : PageStore) (r : Nat) : Prop where
  run : HeldRun depth g
  place : reached g = pagesBelow r
  covers : Covers g r

/-- A change of the stitch number to one that is held keeps the pages following it, and keeps every stitch held that lies within the
depth of it (R70 to R73). -/
theorem Follows.moveTo (h : Follows depth g r) (hn : Covers g n) :
    Follows depth (g.moveTo depth r n) n ∧
      ∀ m, Covers g m → pagesBelow n ≤ max (pagesBelow m) 1 + depth → Covers (g.moveTo depth r n) m := by
  obtain ⟨hrun, hplace, hr⟩ := h
  rcases Nat.le_total r n with hle | hge
  · have hmono := pagesBelow_mono hle
    have hbound : pagesBelow n ≤ g.nextWanted := by
      rcases Nat.eq_zero_or_pos n with rfl | hpos
      · exact Nat.zero_le _
      · rw [pagesBelow_of_pos hpos]
        exact (hrun.covers_pos hpos hn).2
    obtain ⟨hrun', hreached, hcovers⟩ := hrun.crossForward_times (k := pagesBelow n - pagesBelow r) (by omega)
    rw [moveTo_of_le hle]
    exact ⟨⟨hrun', by omega, hcovers n hn (by omega)⟩, fun m hm hdepth => hcovers m hm (by omega)⟩
  · have hmono := pagesBelow_mono hge
    have hbound : base g ≤ pagesBelow n := by
      rcases Nat.eq_zero_or_pos n with rfl | hpos
      · rw [hn.base_zero]
        exact Nat.zero_le _
      · rw [pagesBelow_of_pos hpos]
        exact (hrun.covers_pos hpos hn).1.trans (Nat.le_succ _)
    obtain ⟨hrun', hreached, hcovers⟩ := hrun.crossBackward_times (k := pagesBelow r - pagesBelow n) (by omega)
    rw [moveTo_of_ge hge]
    exact ⟨⟨hrun', by omega, hcovers n hn⟩, fun m hm _ => hcovers m hm⟩

/-- The current page of a store that follows stitch `r` holds its record; none is current at stitch 0 (R71, R73). -/
theorem Follows.current_pos (h : Follows depth g r) (hr : 1 ≤ r) :
    ∃ c, g.current = some c ∧ c.number = (r - 1) / 12 ∧ (r - 1) % 12 < c.records.length := by
  obtain ⟨hrun, hplace, hcovers⟩ := h
  obtain ⟨p, hp, hnumber, hrecord⟩ := hcovers.2 hr
  rw [pagesBelow_of_pos hr, reached] at hplace
  cases hc : g.current with
  | none =>
    have hlow := (hrun.number_bounds hp).1
    rw [hrun.packed hc, hc] at hplace
    simp only [List.length_nil, Option.toList_none] at hplace
    omega
  | some c =>
    have hi : g.retained.length < g.pages.length := by simp [PageStore.pages, hc]
    have hget : g.pages[g.retained.length] = c := by simp [PageStore.pages, hc]
    have hcp : g.pages[g.retained.length] = p := by
      refine hrun.page_eq hp hi ?_
      rw [hc] at hplace
      simp only [Option.toList_some, List.length_singleton] at hplace
      omega
    exact ⟨c, rfl, by rw [← hget, hcp, hnumber], by rw [← hget, hcp]; exact hrecord⟩

theorem Follows.at_zero (h : Follows depth g 0) : g.current = none ∧ g.retained = [] ∧ g.pages.length = g.nextWanted := by
  obtain ⟨hrun, hplace, hcovers⟩ := h
  have hzero : g.retained.length + g.current.toList.length = 0 := by
    rw [reached, hcovers.base_zero, pagesBelow] at hplace
    simpa using hplace
  refine ⟨?_, List.length_eq_zero_iff.1 (by omega), hcovers.1 rfl⟩
  cases hc : g.current with
  | none => rfl
  | some c => simp [hc] at hzero

/-- With no page held no stitch is but stitch 0, and a change of the stitch number is none. -/
theorem Follows.moveTo_of_nil (h : Follows depth g r) (hn : Covers g n) (hnil : g.pages = []) : g.moveTo depth r n = g := by
  have hzero : ∀ m, Covers g m → m = 0 := fun m hm => by
    by_contra hpos
    obtain ⟨p, hp, -⟩ := hm.2 (by omega)
    simp [hnil] at hp
  rw [hzero r h.covers, hzero n hn, moveTo_of_le (Nat.le_refl 0), Nat.sub_self]
  rfl

/-! ### The law of the pages held, in these terms -/

/-- The walk stitch lies between the walk's start and its target, which is stitch `r` (R84, R85). -/
def Spans (k : Walk) (r : Nat) : Prop :=
  k.target = r ∧ ((k.dir = .back ∧ r ≤ k.stitch ∧ k.stitch ≤ k.start) ∨ (k.dir = .forward ∧ k.start ≤ k.stitch ∧ k.stitch ≤ r))

theorem pageLaw_iff (d : Station) : PageLaw d ↔
    Follows (motion d).retention d.pgs d.ssq.stitch ∧
    ((d.pgs.header = none ∨ d.stc.state = .joining) → d.pgs.pages = []) ∧
    ∀ k, d.ssq.walk = some k → d.stc.state = .halted ∧ Spans k d.ssq.stitch ∧ Covers d.pgs k.start := by
  constructor
  · rintro ⟨hcount, hnumbers, hfilled, hwithin, hnone, hretains, hzero, hpos, hwalk⟩
    have hpacked : d.pgs.current = none → d.pgs.retained = [] := fun hc => by
      rcases Nat.eq_zero_or_pos d.ssq.stitch with h0 | h1
      · exact (hzero h0).2.1
      · obtain ⟨c, hc', -⟩ := hpos h1
        cases hc.symm.trans hc'
    have hrun : HeldRun (motion d).retention d.pgs := ⟨hcount, hnumbers, hfilled, hwithin, hretains, hpacked⟩
    refine ⟨⟨hrun, ?_, ?_⟩, hnone, ?_⟩
    · rcases Nat.eq_zero_or_pos d.ssq.stitch with h0 | h1
      · obtain ⟨hcurrent, hretained, hlength⟩ := hzero h0
        rw [reached, base, hlength, hcurrent, hretained, h0]
        simp [pagesBelow]
      · obtain ⟨c, hc, hnumber, -⟩ := hpos h1
        have hc' : d.pgs.current = some c := hc
        have hi : d.pgs.retained.length < d.pgs.pages.length := by simp [PageStore.pages, hc']
        have hget : d.pgs.pages[d.pgs.retained.length] = c := by simp [PageStore.pages, hc']
        have hplace := hrun.number hi
        rw [hget] at hplace
        rw [reached, pagesBelow_of_pos h1, hc', Option.toList_some, List.length_singleton]
        omega
    · refine ⟨fun h0 => (hzero h0).2.2, fun h1 => ?_⟩
      obtain ⟨c, hc, hrest⟩ := hpos h1
      have hc' : d.pgs.current = some c := hc
      exact ⟨c, by simp [PageStore.pages, hc'], hrest⟩
    · intro k hk
      obtain ⟨hstate, htarget, hbetween, hstart⟩ := hwalk k hk
      exact ⟨hstate, ⟨htarget, hbetween⟩, hstart⟩
  · rintro ⟨hfollows, hnone, hwalk⟩
    have hrun := hfollows.run
    refine ⟨hrun.count, hrun.numbers, hrun.filled, hrun.within, hnone, hrun.retains, fun h0 => ?_, fun h1 => ?_, fun k hk => ?_⟩
    · exact (h0 ▸ hfollows : Follows _ _ 0).at_zero
    · obtain ⟨c, hc, hrest⟩ := hfollows.current_pos h1
      exact ⟨c, hc, hrest⟩
    · obtain ⟨hstate, ⟨htarget, hbetween⟩, hstart⟩ := hwalk k hk
      exact ⟨hstate, htarget, hbetween, hstart⟩

end Sys2Proof.PageRun

/-! ## DESIGN_PAGE -/

namespace Sys2Proof.PageRun

open Sys2Proof Sys2Proof.Machine Sys2Proof.StitchCycle Sys2Proof.StationStates

variable {d e : Station} {h : Header} {k : Nat} {rs : List StitchRecord}

/-! ### The checks of a page (R61) -/

theorem recordFits_iff (r : StitchRecord) : recordFits r = true ↔
    (r.kind = .sew ∨ r.kind = .jump → r.dx ≠ -128 ∧ r.dy ≠ -128) ∧
    (r.kind = .trim ∨ r.kind = .colorStop ∨ r.kind = .endRecord → r.dx = 0 ∧ r.dy = 0) ∧
    (r.kind = .colorStop → 1 ≤ r.aux ∧ r.aux ≤ 64) := by
  have hslots : Config.colourSlots = 64 := rfl
  cases hkind : r.kind <;> simp [recordFits, hkind, and_assoc, ← hslots]

theorem pageFits_iff (h : Header) (k : Nat) (rs : List StitchRecord) : pageFits h k rs = true ↔
    rs.length = (if k + 1 = h.pages then h.stitches - 12 * (h.pages - 1) else 12) ∧ (∀ r ∈ rs, recordFits r = true) ∧
    (∀ r ∈ rs.dropLast, r.kind ≠ .endRecord) ∧ (rs.getLast?.map (·.kind) = some .endRecord ↔ k + 1 = h.pages) := by
  simp only [pageFits, Bool.and_eq_true, decide_eq_true_eq, List.all_eq_true, bne_iff_ne, and_assoc]
  rfl

/-! ### The owner's part (R64 to R68) -/

theorem takePage_of_turn (hk : k < h.pages) (hturn : k = d.pgs.nextWanted) (hfree : d.pgs.free ≠ [])
    (rs : Option (List StitchRecord)) : takePage h k rs d = checkPage h k rs d := by
  rw [takePage, if_neg (by omega), if_neg (by omega), if_neg (by omega), if_neg (by simpa using hfree)]

/-- The next-target finding of a store whose design, origin and field are `d`'s (R95). -/
theorem findingNow_eq (hheader : e.pgs.header = d.pgs.header) (horigin : e.pnc.originX = d.pnc.originX ∧ e.pnc.originY = d.pnc.originY)
    (hmotion : e.stc.motion = d.stc.motion) : findingNow e = nextFinding d e.pgs e.ssq.stitch e.ssq.px e.ssq.py := by
  have htarget := targetOfPos_congr hheader horigin.1 horigin.2
  have hfield : motion e = motion d := by rw [motion, motion, hmotion]
  unfold findingNow nextFinding
  cases e.pgs.read (e.ssq.stitch + 1) with
  | none => rfl
  | some r => simp only [htarget, outsideField, hfield]

/-- A finding formed again, by role, by what stood, and by the state (R95). -/
theorem recomputeFinding_cases (d : Station) :
    let b := { d with pnc := { d.pnc with finding := findingNow d } }
    (d.stc.frameRole = false → recomputeFinding d = d) ∧
    (d.stc.frameRole = true → (d.pnc.finding ≠ none ∨ findingNow d = none) → recomputeFinding d = b) ∧
    (∀ axis, d.stc.frameRole = true → d.pnc.finding = none → findingNow d = some axis →
      (d.stc.state = .run → d.gtu.committed = true → recomputeFinding d = { b with pnc := { b.pnc with deferred := true } }) ∧
      ((d.stc.state = .armed ∨ (d.stc.state = .run ∧ d.gtu.committed = false)) →
        recomputeFinding d = fault (fieldFault axis d) b) ∧
      (d.stc.state ≠ .armed → d.stc.state ≠ .run → recomputeFinding d = b)) := by
  intro b
  refine ⟨fun hrole => by simp [recomputeFinding, hrole], fun hrole hquiet => ?_, fun axis hrole hold hnew => ?_⟩
  · rw [recomputeFinding, if_pos hrole]
    cases hold : d.pnc.finding with
    | some a => rfl
    | none =>
      have hnew := hquiet.resolve_left (not_not.2 hold)
      simp only [hnew, b]
      rfl
  · rw [recomputeFinding, if_pos hrole]
    simp only [hold, hnew]
    refine ⟨fun hrun hcommitted => ?_, fun hacts => ?_, fun harmed hrun => ?_⟩
    · simp [hrun, hcommitted, b, hnew, Station.setPnc]
    · rcases hacts with harmed | ⟨hrun, hcommitted⟩
      · simp [harmed, b, hnew, Station.setPnc, fieldRecord, fieldFault]
      · simp [hrun, hcommitted, b, hnew, Station.setPnc, fieldRecord, fieldFault]
    · simp [harmed, hrun, b, hnew, Station.setPnc]

/-- Settles O52: the tests of R64 to R68 in their order, and the finding of the store with the new page. -/
theorem designPageTakenInTurn : Obligations.DesignPageTakenInTurn := by
  intro src p h s hlive htaken hheader d k c recordFits' fits
  have hfits : ∀ rs, pageFits h k rs = true ↔ fits rs := fun rs => by
    simp only [pageFits_iff, recordFits_iff]
    exact Iff.rfl
  have howner : exec c s = .next (closed s (takePage h k (pageRecordsOf p) d)) := by
    rw [exec_notice (owner := designPageOwner p) hlive rfl rfl htaken, designPageOwner, hheader]
    rfl
  rw [howner]
  refine ⟨fun hbeyond => ?_, fun hk hbelow => ?_, fun hk habove => ?_, fun hk hturn hfull => ?_, fun hk hturn hfree hnone => ?_,
    fun rs hk hturn hfree hrs hno => ?_, fun slot rest rs hk hturn hfree hrs hyes => ?_⟩
  · rw [takePage, if_pos hbeyond, refuse_eq]
  · rw [takePage, if_neg (by omega), if_pos hbelow]
  · rw [takePage, if_neg (by omega), if_neg (by omega), if_pos habove]
    rfl
  · rw [takePage, if_neg (by omega), if_neg (by omega), if_neg (by omega), if_pos (by simp [hfull])]
  · rw [takePage_of_turn hk hturn hfree, hnone, checkPage, refuse_eq]
  · rw [takePage_of_turn hk hturn hfree, hrs, checkPage, if_neg (mt (hfits rs).1 hno), refuse_eq]
  · intro a found b
    have haccepted : takePage h k (pageRecordsOf p) d = recomputeFinding a := by
      rw [takePage_of_turn hk hturn (by simp [hfree]), hrs, checkPage, if_pos ((hfits rs).2 hyes), PageStore.accept, hfree]
      rfl
    have hfound : findingNow a = found := findingNow_eq (d := d) rfl ⟨rfl, rfl⟩ rfl
    have hcases := recomputeFinding_cases a
    rw [hfound] at hcases
    obtain ⟨hhead, hquiet, harises⟩ := hcases
    rw [haccepted]
    refine ⟨fun hrole => ?_, fun hrole hf => ?_, fun axis hrole hold hnew => ?_⟩
    · rw [hhead hrole]
    · rw [hquiet hrole hf]
    · obtain ⟨hdefers, hacts, hstill⟩ := harises axis hrole hold hnew
      refine ⟨fun hrun hcommitted => ?_, fun hstate => ?_, fun harmed hrun => ?_⟩
      · rw [hdefers hrun hcommitted]
      · rw [hacts hstate]
        rfl
      · rw [hstill harmed hrun]

end Sys2Proof.PageRun

/-! ## The lowest, highest and limit stitches -/

namespace Sys2Proof.PageRun

open Sys2Proof Sys2Proof.Machine

variable {depth r n b : Nat} {g : PageStore}

/-! ### The records held ahead, in the order of their stitches (R63, R74) -/

/-- The current page and the posted queue, the pages from which records are taken (4.3). -/
def ahead (g : PageStore) : List Page := g.current.toList ++ g.posted

theorem mem_numbered {p : Page} {e : Nat × StitchRecord} (h : e ∈ p.numbered) :
    ∃ i, p.records[i]? = some e.2 ∧ e.1 = 12 * p.number + 1 + i := by
  obtain ⟨⟨x, i⟩, hmem, rfl⟩ := List.mem_map.1 h
  exact ⟨i, List.mk_mem_zipIdx_iff_getElem?.1 hmem, rfl⟩

theorem numbered_stitches (p : Page) : p.numbered.map (·.1) = List.range' (12 * p.number + 1) p.records.length := by
  have hmap : p.numbered.map (·.1) = (p.records.zipIdx.map Prod.snd).map (fun i => 12 * p.number + 1 + i) := by
    simp only [Page.numbered, List.map_map]
    rfl
  rw [hmap, List.zipIdx_map_snd, List.map_add_range']

/-- A store that is one run reads each record from the page that holds it. -/
theorem HeldRun.read_numbered (h : HeldRun depth g) {p : Page} (hp : p ∈ g.pages) {e : Nat × StitchRecord} (he : e ∈ p.numbered) :
    g.read e.1 = some e.2 := by
  obtain ⟨i, hi, hn⟩ := mem_numbered he
  have hlength := (h.filled p hp).2.1
  have hrange : i < p.records.length := (List.getElem?_eq_some_iff.1 hi).1
  have hpage : pageOfStitch e.1 = p.number := by rw [pageOfStitch, Config.pageRecords]; omega
  have hplace : (e.1 - 1) % Config.pageRecords = i := by rw [Config.pageRecords]; omega
  have hmem : p ∈ g.current.toList ++ (g.posted ++ g.retained) := by
    simp only [PageStore.pages, List.mem_append] at hp ⊢
    tauto
  obtain ⟨q, hq⟩ := Option.isSome_iff_exists.1
    ((List.find?_isSome (p := fun q : Page => q.number == pageOfStitch e.1)).2 ⟨p, hmem, by simp [hpage]⟩)
  have hqp : q = p := by
    have hqmem : q ∈ g.pages := by
      have := List.mem_of_find?_eq_some hq
      simp only [PageStore.pages, List.mem_append] at this ⊢
      tauto
    have hqn : q.number = p.number := by simpa [hpage] using List.find?_some hq
    obtain ⟨j, hj, rfl⟩ := List.getElem_of_mem hqmem
    exact h.page_eq hp hj (by rw [← hqn, h.number hj])
  rw [PageStore.read, if_neg (by omega), hq, hqp]
  simp only [hplace, hi]

/-- The stitches of consecutive pages, all full but the last, are one run up to the last stitch of the last page. -/
theorem numbered_run {ps : List Page} {z : Page} (hnumbers : ps.map (·.number) = List.range' b ps.length)
    (hfull : ∀ p ∈ ps, p.number + 1 < b + ps.length → p.records.length = 12) (hz : ps.getLast? = some z) :
    (ps.flatMap Page.numbered).map (·.1) = List.range' (12 * b + 1) (z.lastStitch - 12 * b) ∧ 12 * b ≤ z.lastStitch := by
  induction ps generalizing b with
  | nil => cases hz
  | cons p ps ih =>
    obtain ⟨hp, hrest⟩ : p.number = b ∧ ps.map (·.number) = List.range' (b + 1) ps.length := by
      rw [List.map_cons, List.length_cons, List.range'_succ] at hnumbers
      exact List.cons.inj hnumbers
    rw [List.flatMap_cons, List.map_append, numbered_stitches, hp]
    cases ps with
    | nil =>
      cases hz
      simp [Page.lastStitch, Config.pageRecords, hp]
    | cons q qs =>
      obtain ⟨hmap, hlow⟩ := ih hrest (fun x hx hlt => hfull x (List.mem_cons_of_mem _ hx) (by simp only [List.length_cons] at hlt ⊢; omega))
        (by rwa [List.getLast?_cons_cons] at hz)
      have hlength : p.records.length = 12 := hfull p List.mem_cons_self (by simp only [List.length_cons]; omega)
      have hstart : 12 * (b + 1) + 1 = 12 * b + 1 + 12 := by omega
      have hcount : z.lastStitch - 12 * b = 12 + (z.lastStitch - 12 * (b + 1)) := by omega
      rw [hmap, hlength, hstart, List.range'_append_1, hcount]
      exact ⟨rfl, by omega⟩

/-- The pages ahead begin at the current page, or at page 0. -/
theorem Follows.ahead_numbers (h : Follows depth g r) :
    (ahead g).map (·.number) = List.range' (base g + g.retained.length) (ahead g).length ∧
      base g + g.retained.length + (ahead g).length = g.nextWanted ∧ 12 * (base g + g.retained.length) ≤ r := by
  obtain ⟨hrun, hplace, -⟩ := id h
  have hpages : g.pages = g.retained ++ ahead g := rfl
  have hcount := hrun.count
  refine ⟨?_, ?_, ?_⟩
  · have hdrop := congrArg (List.drop g.retained.length) hrun.numbers
    rw [← List.map_drop, List.drop_range', hpages, List.drop_left, List.length_append] at hdrop
    simpa using hdrop
  · rw [base]
    rw [hpages, List.length_append] at hcount ⊢
    omega
  · rw [reached] at hplace
    rcases Nat.eq_zero_or_pos r with rfl | hr
    · simp only [pagesBelow, if_true] at hplace
      omega
    · obtain ⟨c, hc, -⟩ := h.current_pos hr
      rw [pagesBelow_of_pos hr, hc, Option.toList_some, List.length_singleton] at hplace
      omega

/-- The stitches held ahead are one run, from the first of the current page, or from 1, to the highest held. -/
theorem Follows.ahead_stitches (h : Follows depth g r) {z : Page} (hz : (ahead g).getLast? = some z) :
    ∃ a, a ≤ r ∧ r ≤ z.lastStitch ∧
      ((ahead g).flatMap Page.numbered).map (·.1) = List.range' (a + 1) (z.lastStitch - a) := by
  obtain ⟨hnumbers, hend, hlow⟩ := h.ahead_numbers
  have hmem : ∀ p ∈ ahead g, p ∈ g.pages := fun p hp => List.mem_append_right _ hp
  obtain ⟨hmap, hstart⟩ := numbered_run hnumbers (fun p hp hlt => h.run.full (hmem p hp) (by omega)) hz
  refine ⟨_, hlow, ?_, hmap⟩
  rcases Nat.eq_zero_or_pos r with rfl | hr
  · exact Nat.zero_le _
  · obtain ⟨c, hc, hnumber, hrecord⟩ := h.current_pos hr
    have hr' : r ∈ ((ahead g).flatMap Page.numbered).map (·.1) := by
      rw [List.map_flatMap]
      refine List.mem_flatMap.2 ⟨c, by simp [ahead, hc], ?_⟩
      rw [numbered_stitches, List.mem_range'_1]
      omega
    rw [hmap, List.mem_range'_1] at hr'
    omega

/-! ### The first COLOR_STOP or END ahead (R83) -/

/-- Stitch `n` is held with a COLOR_STOP or END record. -/
def stopsAt (g : PageStore) (n : Nat) : Bool := decide (∃ x ∈ g.read n, x.kind = .colorStop ∨ x.kind = .endRecord)

/-- In a run of stitches from at or below `r`, the first above `r` with a property is the first of those from `r + 1` on. -/
theorem find_above (P : Nat → Bool) {a top : Nat} (ha : a ≤ r) (htop : r ≤ top) :
    (List.range' (a + 1) (top - a)).find? (fun n => decide (r < n) && P n) = (List.range' (r + 1) (top - r)).find? P := by
  have hsplit : List.range' (a + 1) (top - a) = List.range' (a + 1) (r - a) ++ List.range' (r + 1) (top - r) := by
    have hmid : r + 1 = a + 1 + (r - a) := by omega
    rw [hmid, List.range'_append_1]
    congr 1
    omega
  have hbelow : (List.range' (a + 1) (r - a)).find? (fun n => decide (r < n) && P n) = none := by
    refine List.find?_eq_none.2 fun n hn => ?_
    have := List.mem_range'_1.1 hn
    simp only [Bool.and_eq_true, decide_eq_true_eq, not_and]
    omega
  rw [hsplit, List.find?_append, hbelow, Option.none_or]
  refine List.find?_congr fun n hn => ?_
  have := List.mem_range'_1.1 hn
  rw [decide_eq_true (by omega), Bool.true_and]

theorem Follows.firstStop_eq (h : Follows depth g r) {z : Page} (hz : (ahead g).getLast? = some z) :
    g.firstStop r = (List.range' (r + 1) (z.lastStitch - r)).find? (stopsAt g) := by
  obtain ⟨a, ha, htop, hmap⟩ := h.ahead_stitches hz
  rw [← find_above (stopsAt g) ha htop, ← hmap, List.find?_map, PageStore.firstStop]
  congr 1
  refine List.find?_congr fun e he => ?_
  obtain ⟨p, hp, hep⟩ := List.mem_flatMap.1 he
  have hread := h.run.read_numbered (List.mem_append_right _ hp) hep
  rw [Function.comp_apply, stopsAt, hread, ← Bool.decide_and]
  simp

end Sys2Proof.PageRun

/-! ## BACK and FORWARD that begin no walk -/

namespace Sys2Proof.PageRun

open Sys2Proof Sys2Proof.Machine Sys2Proof.StitchCycle Sys2Proof.StationStates

variable {depth r n : Nat} {g : PageStore} {d : Station}

/-! ### The three stitches that bound a walk (R63, R83) -/

theorem highest_eq (g : PageStore) : g.highest = ((ahead g).getLast?.map Page.lastStitch).getD 0 := by
  rw [PageStore.highest, ahead]
  cases (g.current.toList ++ g.posted).getLast? <;> rfl

/-- The number of the page from which a Forward counts its depth: the current page, or page 0 (R83). -/
def currentNumber (g : PageStore) : Nat := (g.current.map (·.number)).getD 0

theorem Follows.firstStop_highest (h : Follows depth g r) :
    g.firstStop r = ((List.range (g.highest - r)).find? (fun j => stopsAt g (r + 1 + j))).map (r + 1 + ·) := by
  have hrange : ((List.range (g.highest - r)).find? (fun j => stopsAt g (r + 1 + j))).map (r + 1 + ·) =
      (List.range' (r + 1) (g.highest - r)).find? (stopsAt g) := by
    rw [List.range'_eq_map_range, List.find?_map]
    rfl
  rw [hrange, highest_eq]
  cases hz : (ahead g).getLast? with
  | some z => exact h.firstStop_eq hz
  | none =>
    have hnil : g.current.toList ++ g.posted = [] := List.getLast?_eq_none_iff.1 hz
    simp [PageStore.firstStop, hnil]

theorem forwardLimit_eq (d : Station) : forwardLimit d =
    ((d.pgs.firstStop d.ssq.stitch).map (min (min d.pgs.highest (12 * (currentNumber d.pgs + (motion d).retention + 1))))).getD
      (min d.pgs.highest (12 * (currentNumber d.pgs + (motion d).retention + 1))) := by
  have hpage : currentNumber d.pgs = match d.pgs.current with | some c => c.number | none => 0 := by
    rw [currentNumber]
    cases d.pgs.current <;> rfl
  rw [forwardLimit, hpage]
  cases d.pgs.firstStop d.ssq.stitch <;> rfl

/-! ### The owners' parts (R82, R83) -/

theorem walkBusy_iff (d : Station) :
    walkBusy d = true ↔ d.ssq.walk.isSome = true ∨ (d.stc.frameRole = true ∧ d.pnc.go.isSome = true) := by
  rw [walkBusy, Bool.or_eq_true, Bool.and_eq_true]

theorem walkNowhere_eq {dir : WalkDir} (hn : n ≠ 0) (d : Station) : walkNowhere dir n d = { d with
    ssq := { d.ssq with report := { dir := dir, requested := n, actual := 0, outcome := .clamped } } } := by
  rw [walkNowhere, walkReportOf, if_neg (Ne.symm hn)]
  rfl

/-- Settles O42: the two owners' tests in their order; the limit stitch by the run of pages ahead. -/
theorem walkRefusedOrNowhere : Obligations.WalkRefusedOrNowhere := by
  intro src p s hlive d busy low top page far stops limit report
  have hlow : d.pgs.lowest = low := by
    simp only [low, PageStore.lowest, Config.pageRecords]
    cases d.pgs.current with
    | none => rfl
    | some c => cases d.pgs.retained.head? <;> rfl
  have htop : d.pgs.highest = top := by
    simp only [top, highest_eq, ahead, List.getLast?_append]
    cases d.pgs.posted.getLast? <;> cases d.pgs.current <;> rfl
  have hpage : currentNumber d.pgs = page := by
    simp only [page, currentNumber]
    cases d.pgs.current <;> rfl
  have hlimit : PageLaw d → forwardLimit d = limit := fun hlaw => by
    have hfollows := ((pageLaw_iff d).1 hlaw).1
    have hstops : stopsAt d.pgs = stops := rfl
    rw [forwardLimit_eq, hfollows.firstStop_highest, htop, hpage, hstops]
    simp only [limit]
    cases (List.range (top - d.ssq.stitch)).find? (fun j => stops (d.ssq.stitch + 1 + j)) <;> rfl
  refine ⟨hlow, htop, hlimit, fun htaken => ?_, fun htaken => ?_⟩
  · have howner : exec (.back src p) s = .next (closed s (backOwner p d)) := exec_notice hlive rfl rfl htaken
    rw [howner, backOwner]
    refine ⟨fun hbusy => ?_, fun hfree hzero => ?_, fun hfree hcount hclamped => ?_⟩
    · rw [if_pos ((walkBusy_iff d).2 hbusy), refuse_eq]
    · rw [if_neg (mt (walkBusy_iff d).1 hfree), if_pos hzero]
    · have hnone : backCount d (countOf p) = 0 := by
        rw [backCount, hlow]
        omega
      simp only [if_neg (mt (walkBusy_iff d).1 hfree), if_neg hcount, if_pos hnone, walkNowhere_eq hcount]
      rfl
  · have howner : exec (.forward src p) s = .next (closed s (forwardOwner p d)) := exec_notice hlive rfl rfl htaken
    rw [howner, forwardOwner]
    refine ⟨fun hbusy => ?_, fun hfree hzero => ?_, fun hfree hcount hlaw hclamped => ?_⟩
    · rw [if_pos ((walkBusy_iff d).2 hbusy), refuse_eq]
    · rw [if_neg (mt (walkBusy_iff d).1 hfree), if_pos hzero]
    · have hnone : Machine.forwardCount d (countOf p) = 0 := by
        rw [Machine.forwardCount, hlimit hlaw]
        omega
      simp only [if_neg (mt (walkBusy_iff d).1 hfree), if_neg hcount, if_pos hnone, walkNowhere_eq hcount]
      rfl

end Sys2Proof.PageRun

/-! ## What each operation does to the station state -/

namespace Sys2Proof.PageRun

open Sys2Proof Sys2Proof.Machine Sys2Proof.StitchCycle

variable {d : Station}

/-- ARMED, RUN and HALTING: the states that the blocks themselves take a station out of. In the others it waits for the console
(2.1). -/
def engaged : StationState → Bool
  | .armed | .run | .halting => true
  | .joining | .ready | .halted | .done => false

/-- What a block may do to the station state: JOINING is neither entered nor left, and only an engaged station changes its state. -/
abbrev Turns (a b : StationState) : Prop := (b = .joining ↔ a = .joining) ∧ (engaged a = false → b = a)

@[simp] theorem turns_iff (a b : StationState) :
    Turns a b ↔ (b = .joining ↔ a = .joining) ∧ (engaged a = false → b = a) := Iff.rfl

theorem Turns.trans {a b c : StationState} (h : Turns a b) (h' : Turns b c) : Turns a c :=
  ⟨h'.1.trans h.1, fun hidle => by
    have hb := h.2 hidle
    rw [h'.2 (hb ▸ hidle), hb]⟩

/-! ### Entries to a state (R32 to R36) -/

@[simp] theorem addRecord_state (fr : FaultRecord) (d : Station) : (addRecord fr d).stc.state = d.stc.state := by
  rw [addRecord_eq]
  rfl

@[simp] theorem refuse_state (kind : NoticeKind) (why : RefusalReason) (d : Station) :
    (refuse kind why d).stc.state = d.stc.state := by
  rw [refuse_eq]
  rfl

@[simp] theorem withdrawHead_state (d : Station) : (withdrawHead d).stc.state = d.stc.state := by simp [withdrawHead]

@[simp] theorem enterHalted_state (d : Station) : (enterHalted d).stc.state = .halted := by
  simp [enterHalted, enterState_state]

@[simp] theorem returnToFormer_not_joining (d : Station) : (returnToFormer d).stc.state ≠ .joining := by
  unfold returnToFormer
  simp only
  split <;> simp [enterState_state]

@[simp] theorem armedFault_state (fr : FaultRecord) (d : Station) : Turns d.stc.state (armedFault fr d).stc.state := by
  unfold armedFault
  split
  next h => simp [h, engaged]
  next => simp

@[simp] theorem armedHeadCheck_state (d : Station) : Turns d.stc.state (armedHeadCheck d).stc.state := by
  unfold armedHeadCheck
  split
  next h => simp_all [engaged]
  next => simp

@[simp] theorem armedHeadFault_state (fr : FaultRecord) (d : Station) : Turns d.stc.state (armedHeadFault fr d).stc.state := by
  unfold armedHeadFault
  (repeat' split) <;> simp +contextual

theorem whileArmed_not_joining {f : Station → Station} (hf : (f d).stc.state = .joining ↔ d.stc.state = .joining)
    (hd : d.stc.state ≠ .joining) : (whileArmed f d).stc.state ≠ .joining := by
  unfold whileArmed
  split
  · exact mt hf.1 hd
  · exact hd

/-- However the blocks find a station that enters ARMED, it is not in JOINING then (R32, R33). -/
theorem enterArmed_not_joining (former : Former) (d : Station) : (enterArmed former d).stc.state ≠ .joining := by
  have hpeers : ∀ e, (armPeers e).stc.state = .joining ↔ e.stc.state = .joining := fun e => by
    unfold armPeers
    split <;> simp
  have hcase : ∀ e, (armCase e).stc.state = .joining ↔ e.stc.state = .joining := fun e => by
    unfold armCase
    simp only
    (repeat' split) <;> simp
  have hfield : ∀ e, (armField e).stc.state = .joining ↔ e.stc.state = .joining := fun e => by
    unfold armField
    split <;> simp
  have hdrive : ∀ e, (armDrive e).stc.state = .joining ↔ e.stc.state = .joining := fun e => by
    unfold armDrive
    split <;> simp
  unfold enterArmed
  simp only
  refine whileArmed_not_joining (armedHeadCheck_state _).1 (whileArmed_not_joining (hdrive _) (whileArmed_not_joining (hfield _)
    (whileArmed_not_joining (hcase _) (whileArmed_not_joining (hpeers _) ?_))))
  split <;> simp [enterState_state]

@[simp] theorem leaveHalting_not_joining (d : Station) : (leaveHalting d).stc.state ≠ .joining := by
  unfold leaveHalting
  simp only
  (repeat' split)
  · simp [enterState_state]
  · exact enterArmed_not_joining _ _
  · simp

@[simp] theorem enterHalting_not_joining (reason : HaltReason) (d : Station) : (enterHalting reason d).stc.state ≠ .joining := by
  have hleaves : ∀ e : Station, e.stc.state ≠ .joining →
      (if e.sht.atRest then leaveHalting (startPending false e) else e).stc.state ≠ .joining := by
    intro e he
    split
    · exact leaveHalting_not_joining _
    · exact he
  rw [enterHalting]
  exact hleaves _ (by simp [enterState_state])

/-! ### Halt causes, faults, findings (R34 to R37, R95, R161, R162) -/

@[simp] theorem haltCause_state (reason : HaltReason) (d : Station) : Turns d.stc.state (haltCause reason d).stc.state := by
  unfold haltCause
  split
  next h => simp [h, engaged]
  next h => simp [h, engaged]
  next => (repeat' split) <;> simp
  all_goals simp

@[simp] theorem fault_state (fr : FaultRecord) (d : Station) : Turns d.stc.state (fault fr d).stc.state := by
  simp +contextual [fault]

@[simp] theorem headCheck_state (d : Station) : Turns d.stc.state (headCheck d).stc.state := by
  unfold headCheck
  split
  · split
    next h => simp [h, engaged]
    next h => simp [h, engaged]
    all_goals simp
  · simp

@[simp] theorem headFault_state (fr : FaultRecord) (d : Station) : Turns d.stc.state (headFault fr d).stc.state := by
  unfold headFault
  (repeat' split) <;> simp +contextual

@[simp] theorem writeDeferred_state (d : Station) : Turns d.stc.state (writeDeferred d).stc.state := by
  unfold writeDeferred
  (repeat' split) <;> simp +contextual

@[simp] theorem recomputeFinding_state (d : Station) : Turns d.stc.state (recomputeFinding d).stc.state := by
  unfold recomputeFinding
  simp only
  (repeat' split) <;> simp +contextual

/-! ### Re-positioning and rest (R5, R18, R124, R125) -/

@[simp] theorem creepOffTop_state (d : Station) : Turns d.stc.state (creepOffTop d).stc.state := by
  unfold creepOffTop shaftPosition
  (repeat' split) <;> simp +contextual

@[simp] theorem creepAtRest_state (d : Station) : Turns d.stc.state (creepAtRest d).stc.state := by
  unfold creepAtRest
  simp only
  (repeat' split) <;> simp +contextual

@[simp] theorem tryRestCommit_state (d : Station) : Turns d.stc.state (tryRestCommit d).stc.state := by
  unfold tryRestCommit
  split
  next hcond =>
    have harmed : d.stc.state = .armed := by
      simp only [Bool.and_eq_true, decide_eq_true_eq] at hcond
      exact hcond.1.1
    have hpeer : ∀ e : Station, e.stc.state ≠ .joining → (runPeerCheck e).stc.state ≠ .joining := by
      intro e he
      unfold runPeerCheck
      split
      · exact enterHalting_not_joining _ _
      · exact he
    have hhead : ∀ e : Station, e.stc.state ≠ .joining → (runHeadCheck e).stc.state ≠ .joining := by
      intro e he
      unfold runHeadCheck
      split <;> simp [he]
    have hnot : (restCommit d).stc.state ≠ .joining := by
      rw [restCommit_eq harmed]
      exact hhead _ (hpeer _ (by simp [restCommitted]))
    simp [hnot, harmed, engaged]
  next => simp

@[simp] theorem comeToRest_state (d : Station) : Turns d.stc.state (comeToRest d).stc.state := by
  have hpantograph : ∀ e, Turns e.stc.state (pantographAtRest e).stc.state := by
    intro e
    unfold pantographAtRest
    simp only
    split <;> simp +contextual
  have hgovernor : ∀ b e, Turns e.stc.state (governorAtRest b e).stc.state := by
    intro b e
    unfold governorAtRest
    (repeat' split) <;> simp +contextual
  have hcommit : ∀ e, Turns e.stc.state (commitAtRest e).stc.state := by
    intro e
    unfold commitAtRest
    split <;> simp +contextual
  have hrest : ∀ b e, Turns e.stc.state (commitAtRest (governorAtRest b (pantographAtRest (caseAtRest e)))).stc.state := by
    intro b e
    have hcase : (caseAtRest e).stc = e.stc := by simp
    exact hcase ▸ ((hpantograph (caseAtRest e)).trans (hgovernor b _)).trans (hcommit _)
  unfold comeToRest
  split
  · simp
  · by_cases hhalting : d.stc.state = .halting
    · simp [hhalting, engaged, hrest]
    · simp +contextual [hhalting, hrest]

/-! ### The Thread Monitor and the angle events but D (R7, R17, R140 to R148) -/

@[simp] theorem closePenetration_state (d : Station) : Turns d.stc.state (closePenetration d).stc.state := by
  have hbreak : ∀ p e, Turns e.stc.state (threadBreak p e).stc.state := fun p e => by
    unfold threadBreak
    simp +contextual
  have hsample : ∀ p e, Turns e.stc.state (takeSample p e).stc.state := fun p e => by
    unfold takeSample judgeTension tensionFault
    simp only
    (repeat' split) <;> simp +contextual
  unfold closePenetration
  simp only
  (repeat' split) <;> simp +contextual [hbreak, hsample]

@[simp] theorem eventM_state (d : Station) : Turns d.stc.state (eventM d).stc.state := by
  unfold eventM
  (repeat' split) <;> simp +contextual [requestVeto]

@[simp] theorem eventH_state (d : Station) : Turns d.stc.state (eventH d).stc.state := by
  have hveto : ∀ e, Turns e.stc.state (vetoTaken e).stc.state := fun e => by
    unfold vetoTaken
    simp only
    split <;> simp +contextual
  have hsample : ∀ e, Turns e.stc.state (sampleH e).stc.state := fun e => by
    unfold sampleH
    simp only
    (repeat' split) <;> simp +contextual [hveto]
  unfold eventH
  simp +contextual [hsample]

@[simp] theorem stall_state (d : Station) : Turns d.stc.state (stall d).stc.state := by
  unfold stall
  split <;> simp +contextual

/-! ### The Shaft Tracker (R1 to R4) -/

@[simp] theorem encoderFault_state (d : Station) : Turns d.stc.state (encoderFault d).stc.state := by
  unfold encoderFault
  simp +contextual

@[simp] theorem capture_state (d : Station) : Turns d.stc.state (capture d).stc.state := by
  unfold capture takePeriod
  simp only
  (repeat' split) <;> simp +contextual

/-! ### The drive, the needle case, the pantograph (R104, R120, R124, R129 to R133) -/

@[simp] theorem driveReadyFall_state (d : Station) : Turns d.stc.state (driveReadyFall d).stc.state := by
  have hfalls : ∀ e, Turns e.stc.state (driveFalls e).stc.state := fun e => by
    unfold driveFalls
    split <;> simp +contextual
  unfold driveReadyFall
  simp only
  split <;> simp +contextual [hfalls]

@[simp] theorem creepRunsOut_state (d : Station) : Turns d.stc.state (creepRunsOut d).stc.state := by
  unfold creepRunsOut creepEnds
  simp only
  (repeat' split) <;> simp +contextual

@[simp] theorem stopCase_state (why : CaseStopped) (fr : FaultRecord) (d : Station) :
    Turns d.stc.state (stopCase why fr d).stc.state := by
  unfold stopCase
  simp +contextual

@[simp] theorem sensorChange_state (before : Nat) (d : Station) : Turns d.stc.state (sensorChange before d).stc.state := by
  unfold sensorChange sensorInStep sensorAlone
  simp only
  (repeat' split) <;> simp +contextual

@[simp] theorem stepTimeout_state (d : Station) : Turns d.stc.state (stepTimeout d).stc.state := by
  unfold stepTimeout stepRunsOut caseJam
  (repeat' split) <;> simp +contextual

@[simp] theorem homeEvent_state (a : Axis) (f : HomeAxis → HomeAxis) (d : Station) :
    Turns d.stc.state (homeEvent a f d).stc.state := by
  have hfail : ∀ a x e, Turns e.stc.state (homeFail a x e).stc.state := fun a x e => by
    unfold homeFail
    split <;> simp +contextual
  unfold homeEvent homeEnd
  simp only
  (repeat' split) <;> simp +contextual [hfail]

@[simp] theorem setOrigin_state (d : Station) : Turns d.stc.state (setOrigin d).stc.state := by
  unfold setOrigin
  simp +contextual

@[simp] theorem afterStitchChange_state (d : Station) : Turns d.stc.state (afterStitchChange d).stc.state := by
  unfold afterStitchChange
  split <;> simp +contextual

/-! ### Timers, peers, notices (R33, R53 to R55, R160, R166) -/

@[simp] theorem armRunsOut_state (d : Station) : Turns d.stc.state (armRunsOut d).stc.state := by
  unfold armRunsOut
  split
  next h => simp [h, engaged]
  next => simp

@[simp] theorem handActivity_state (x : PeerEntry) (d : Station) : Turns d.stc.state (handActivity x d).stc.state := by
  unfold handActivity
  split <;> simp +contextual

@[simp] theorem judgePeerHalt_state (i : StatusItems) (d : Station) : Turns d.stc.state (judgePeerHalt i d).stc.state := by
  unfold judgePeerHalt
  split <;> simp +contextual

@[simp] theorem judgeIndex_state (a : Nat) (i : StatusItems) (d : Station) : Turns d.stc.state (judgeIndex a i d).stc.state := by
  unfold judgeIndex
  simp only
  split <;> simp +contextual

@[simp] theorem headSelectOwner_state (q : Payload) (d : Station) : Turns d.stc.state (headSelectOwner q d).stc.state := by
  unfold headSelectOwner setActivity
  simp only
  (repeat' split) <;> simp +contextual

@[simp] theorem faultClearOwner_state (q : Payload) (d : Station) : (faultClearOwner q d).stc.state = d.stc.state := by
  unfold faultClearOwner removeOldest
  (repeat' split) <;> simp

@[simp] theorem needleMapOwner_state (q : Payload) (d : Station) : (needleMapOwner q d).stc.state = d.stc.state := by
  unfold needleMapOwner
  split <;> simp

/-! ### The commit at D (R14 to R16) -/

@[simp] theorem commitFrame_state (r : StitchRecord) (d : Station) : Turns d.stc.state (commitFrame r d).stc.state := by
  unfold commitFrame
  split <;> simp +contextual

@[simp] theorem plannedStop_state (r : StitchRecord) (d : Station) : Turns d.stc.state (plannedStop r d).stc.state := by
  unfold plannedStop
  split <;> simp +contextual

@[simp] theorem dwellRun_state (d : Station) : Turns d.stc.state (dwellRun d).stc.state := by
  have hcounts : ∀ hold e, Turns e.stc.state (dwellCounts hold e).stc.state := fun hold e => by
    unfold dwellCounts
    simp only
    split <;> simp +contextual
  rw [dwellRun_eq, demandFalls_eq]
  simp +contextual [hcounts]

end Sys2Proof.PageRun

/-! ## The two laws of the page store: what keeps them -/

namespace Sys2Proof.PageRun

open Sys2Proof Sys2Proof.Machine Sys2Proof.StitchCycle

variable {q p : Prop} {d e : Station} {k : Walk} {n : Nat}

/-- Each slot in one collection, if `q`, and the pages following the stitch number, if `p` (R62, R70 to R73): the two laws of the
page store, followed through a command side by side. -/
structure Keeps (q p : Prop) (d : Station) : Prop where
  slots : q → SlotLaw d
  pages : p → PageLaw d

/-! ### Changes that move no page -/

theorem motion_congr (h : e.stc.motion = d.stc.motion) : motion e = motion d := by rw [motion, motion, h]

/-- A walk stands in HALTED alone (R84). -/
theorem Keeps.walk_none (h : Keeps q p d) (hp : p) (hstate : d.stc.state ≠ .halted) : d.ssq.walk = none := by
  by_contra hwalk
  obtain ⟨k, hk⟩ := Option.ne_none_iff_exists'.1 hwalk
  exact hstate (((pageLaw_iff d).1 (h.pages hp)).2.2 k hk).1

/-- The general case: the pages of `e` are those of a change of stitch number from `d` (R70), and its walk, if it has one, is held. -/
theorem Keeps.moved (h : Keeps q p d) (hpgs : e.pgs = d.pgs.moveTo (motion d).retention d.ssq.stitch n)
    (hsame : e.ssq.stitch = n ∧ e.stc.motion = d.stc.motion ∧ (e.stc.state = .joining ↔ d.stc.state = .joining))
    (hcovers : p → Covers d.pgs n)
    (hwalk : p → ∀ k, e.ssq.walk = some k → e.stc.state = .halted ∧ Spans k n ∧ Covers d.pgs k.start ∧
      pagesBelow n ≤ max (pagesBelow k.start) 1 + (motion d).retention) : Keeps q p e := by
  obtain ⟨hstitch, hmotion, hstate⟩ := hsame
  refine ⟨fun hq => ?_, fun hp => (pageLaw_iff e).2 ?_⟩
  · rw [SlotLaw, hpgs]
    exact (moveTo_slots _ _ _ _).trans (h.slots hq)
  · obtain ⟨hfollows, hnone, -⟩ := (pageLaw_iff d).1 (h.pages hp)
    obtain ⟨hfollows', hkept⟩ := hfollows.moveTo (hcovers hp)
    rw [hpgs, hstitch, motion_congr hmotion, moveTo_header, hstate]
    refine ⟨hfollows', fun hempty => ?_, fun k hk => ?_⟩
    · rw [hfollows.moveTo_of_nil (hcovers hp) (hnone hempty)]
      exact hnone hempty
    · obtain ⟨hhalted, hspans, hstart, hdepth⟩ := hwalk hp k hk
      exact ⟨hhalted, hspans, hkept _ hstart hdepth⟩

theorem moveTo_self (depth r : Nat) (g : PageStore) : g.moveTo depth r r = g := by
  rw [moveTo_of_le (Nat.le_refl r), Nat.sub_self]
  rfl

/-- With the pages and the stitch number as they were, and no walk. -/
theorem Keeps.unwalked (h : Keeps q p d) (hsame : e.pgs = d.pgs ∧ e.ssq.stitch = d.ssq.stitch ∧ e.stc.motion = d.stc.motion)
    (hstate : e.stc.state = .joining ↔ d.stc.state = .joining) (hwalk : p → e.ssq.walk = none) : Keeps q p e := by
  obtain ⟨hpgs, hstitch, hmotion⟩ := hsame
  refine h.moved (hpgs.trans (moveTo_self _ _ _).symm) ⟨hstitch, hmotion, hstate⟩
    (fun hp => ((pageLaw_iff d).1 (h.pages hp)).1.covers) fun hp k hk => ?_
  rw [hwalk hp] at hk
  cases hk

/-- With the pages, the stitch number and the walk as they were, and the state turned by a block at most. -/
theorem Keeps.still (h : Keeps q p d)
    (hsame : e.pgs = d.pgs ∧ e.ssq.stitch = d.ssq.stitch ∧ e.ssq.walk = d.ssq.walk ∧ e.stc.motion = d.stc.motion ∧
      Turns d.stc.state e.stc.state) : Keeps q p e := by
  obtain ⟨hpgs, hstitch, hwalk, hmotion, hjoining, hidle⟩ := hsame
  by_cases hhalted : d.stc.state = .halted
  · have hstate : e.stc.state = d.stc.state := hidle (by rw [hhalted]; rfl)
    refine ⟨fun hq => ?_, fun hp => (pageLaw_iff e).2 ?_⟩
    · rw [SlotLaw, hpgs]
      exact h.slots hq
    · rw [hpgs, hstitch, hwalk, hstate, motion_congr hmotion]
      exact (pageLaw_iff d).1 (h.pages hp)
  · exact h.unwalked ⟨hpgs, hstitch, hmotion⟩ hjoining fun hp => hwalk.trans (h.walk_none hp hhalted)

/-- In JOINING no page is held, and a section may bring any retention depth (R26). -/
theorem Keeps.joining (h : Keeps q p d) (hjoining : d.stc.state = .joining)
    (hsame : e.pgs = d.pgs ∧ e.ssq.stitch = d.ssq.stitch ∧ e.ssq.walk = d.ssq.walk) : Keeps q p e := by
  obtain ⟨hpgs, hstitch, hwalk⟩ := hsame
  refine ⟨fun hq => ?_, fun hp => (pageLaw_iff e).2 ?_⟩
  · rw [SlotLaw, hpgs]
    exact h.slots hq
  · obtain ⟨⟨hrun, hplace, hcovers⟩, hnone, -⟩ := (pageLaw_iff d).1 (h.pages hp)
    have hnil := hnone (.inr hjoining)
    have hretained : d.pgs.retained = [] := (List.append_eq_nil_iff.1 hnil).1
    rw [hpgs, hstitch, hwalk, h.walk_none hp (by rw [hjoining]; decide)]
    exact ⟨⟨⟨hrun.count, hrun.numbers, hrun.filled, hrun.within, by simp [hretained], hrun.packed⟩, hplace, hcovers⟩,
      fun _ => hnil, nofun⟩

/-- A store emptied at stitch 0 (R22, R23, R58). -/
theorem Keeps.fresh {hd : Option Header} (hpgs : e.pgs = { PageStore.empty with header := hd })
    (hssq : e.ssq.stitch = 0 ∧ e.ssq.walk = none) : Keeps q p e := by
  refine ⟨fun _ => ?_, fun _ => (pageLaw_iff e).2 ?_⟩
  · rw [SlotLaw, hpgs]
    simp [PageStore.slots, PageStore.empty, allSlots, Config.pageSlots]
  · rw [hpgs, hssq.1, hssq.2]
    exact ⟨⟨⟨Nat.le_refl 0, rfl, nofun, fun _ _ => Nat.zero_le _, Nat.zero_le _, fun _ => rfl⟩, rfl, fun _ => rfl, nofun⟩,
      fun _ => rfl, nofun⟩

/-! ### A page taken (R68) -/

theorem Follows.accept {depth r : Nat} {g : PageStore} {hd : Header} {rs : List StitchRecord} (h : Follows depth g r)
    (hheader : g.header = some hd) (hturn : g.nextWanted < hd.pages) (hfits : pageFits hd g.nextWanted rs = true)
    (hlength : rs.length ≤ 12) :
    Follows depth (g.accept g.nextWanted rs) r ∧ ∀ m, Covers g m → Covers (g.accept g.nextWanted rs) m := by
  obtain ⟨hrun, hplace, hcovers⟩ := id h
  cases hfree : g.free with
  | nil =>
    rw [PageStore.accept, hfree]
    exact ⟨h, fun _ hm => hm⟩
  | cons slot rest =>
    let page : Page := { slot := slot, number := g.nextWanted, records := rs }
    have hpages : (g.accept g.nextWanted rs).pages = g.pages ++ [page] := by
      rw [PageStore.accept, hfree]
      simp [PageStore.pages, page]
    have hnext : (g.accept g.nextWanted rs).nextWanted = g.nextWanted + 1 := by rw [PageStore.accept, hfree]
    have hheader' : (g.accept g.nextWanted rs).header = g.header := by rw [PageStore.accept, hfree]
    have hkept : (g.accept g.nextWanted rs).current = g.current ∧ (g.accept g.nextWanted rs).retained = g.retained := by
      rw [PageStore.accept, hfree]
      exact ⟨rfl, rfl⟩
    have hcount := hrun.count
    have hbase : base (g.accept g.nextWanted rs) = base g := by
      rw [base, base, hpages, hnext, List.length_append, List.length_singleton]
      omega
    have hcovers' : ∀ m, Covers g m → Covers (g.accept g.nextWanted rs) m := by
      intro m hm
      refine ⟨fun h0 => ?_, fun hpos => ?_⟩
      · rw [hpages, hnext, List.length_append, List.length_singleton, hm.1 h0]
      · obtain ⟨x, hx, hrest⟩ := hm.2 hpos
        exact ⟨x, by rw [hpages]; exact List.mem_append_left _ hx, hrest⟩
    have hfilled : 1 ≤ rs.length ∧ (rs.length = 12 ∨ ∃ x ∈ g.header, x.pages = g.nextWanted + 1) := by
      obtain ⟨hsize, -, -, hend⟩ := (pageFits_iff _ _ _).1 hfits
      by_cases hlast : g.nextWanted + 1 = hd.pages
      · refine ⟨?_, .inr ⟨hd, hheader, hlast.symm⟩⟩
        have hsome := hend.2 hlast
        rcases rs with - | ⟨x, xs⟩
        · cases hsome
        · simp
      · rw [if_neg hlast] at hsize
        exact ⟨by omega, .inl hsize⟩
    refine ⟨⟨⟨?_, ?_, ?_, ?_, ?_, ?_⟩, ?_, hcovers' r hcovers⟩, hcovers'⟩
    · rw [hpages, hnext, List.length_append, List.length_singleton]
      omega
    · have hplace : g.nextWanted = base g + g.pages.length := by rw [base]; omega
      rw [hbase, hpages, List.map_append, hrun.numbers, List.length_append, List.length_singleton, List.range'_concat]
      simp [page, ← hplace]
    · intro x hx
      rw [hpages, List.mem_append, List.mem_singleton] at hx
      rw [hheader']
      rcases hx with hx | rfl
      · exact hrun.filled x hx
      · exact ⟨hfilled.1, hlength, hfilled.2⟩
    · intro x hx
      rw [hheader', hheader] at hx
      cases hx
      omega
    · rw [hkept.2]
      exact hrun.retains
    · rw [hkept.1, hkept.2]
      exact hrun.packed
    · rw [reached, hbase, hkept.1, hkept.2]
      exact hplace

end Sys2Proof.PageRun

/-! ## The laws of the page store through walks -/

namespace Sys2Proof.PageRun

open Sys2Proof Sys2Proof.Machine Sys2Proof.StitchCycle

variable {q p : Prop} {d e : Station} {k : Walk} {n r depth : Nat} {g : PageStore}

/-! ### What a Back or a Forward can reach is held (R63, R82, R83) -/

theorem Follows.covers_lowest (h : Follows depth g r) : Covers g g.lowest := by
  rw [PageStore.lowest]
  cases hc : g.current with
  | none =>
    rcases Nat.eq_zero_or_pos r with rfl | hr
    · exact h.covers
    · obtain ⟨c, hc', -⟩ := h.current_pos hr
      cases hc.symm.trans hc'
  | some c =>
    have holdest : ∃ o rest, g.pages = o :: rest ∧ g.retained.head?.getD c = o := by
      cases hr : g.retained with
      | nil => exact ⟨c, g.posted, by simp [PageStore.pages, hr, hc], rfl⟩
      | cons o rest => exact ⟨o, rest ++ (some c).toList ++ g.posted, by simp [PageStore.pages, hr, hc], rfl⟩
    obtain ⟨o, rest, hpages, ho⟩ := holdest
    have hmem : o ∈ g.pages := by rw [hpages]; exact List.mem_cons_self
    have hnumber : o.number = base g := by
      have hfirst := h.run.number (i := 0) (by rw [hpages]; simp)
      simpa [hpages] using hfirst
    simp only [ho]
    split
    next hzero =>
      have hcount := h.run.count
      rw [hzero, base] at hnumber
      exact ⟨fun _ => by omega, fun hpos => absurd hpos (by decide)⟩
    next => exact h.run.covers_firstStitch hmem

theorem Follows.covers_highest (h : Follows depth g r) (hr : r < g.highest) : Covers g g.highest := by
  rw [highest_eq] at hr ⊢
  cases hz : (ahead g).getLast? with
  | none => rw [hz] at hr; exact absurd hr (Nat.not_lt_zero r)
  | some z => exact h.run.covers_lastStitch (List.mem_append_right _ (List.mem_of_getLast? hz))

theorem Follows.currentNumber_eq (h : Follows depth g r) : currentNumber g + 1 = max (pagesBelow r) 1 := by
  rcases Nat.eq_zero_or_pos r with rfl | hr
  · rw [currentNumber, h.at_zero.1]
    rfl
  · obtain ⟨c, hc, hnumber, -⟩ := h.current_pos hr
    rw [currentNumber, hc, pagesBelow_of_pos hr, Option.map_some, Option.getD_some, hnumber]
    omega

theorem forwardLimit_le (d : Station) :
    forwardLimit d ≤ min d.pgs.highest (12 * (currentNumber d.pgs + (motion d).retention + 1)) := by
  rw [forwardLimit_eq]
  cases d.pgs.firstStop d.ssq.stitch with
  | none => exact Nat.le_refl _
  | some f => exact Nat.min_le_left _ _

theorem Follows.covers_back (h : Follows depth g r) (hlow : g.lowest ≤ n) (hn : n ≤ r) : Covers g n :=
  h.run.covers_between h.covers_lowest h.covers hlow hn

/-- A Forward within its limit reaches a stitch that is held, and the page of its start stays within the depth (R83). -/
theorem Follows.covers_forward (h : Follows (motion d).retention d.pgs d.ssq.stitch) (hr : d.ssq.stitch < n)
    (hn : n ≤ forwardLimit d) :
    Covers d.pgs n ∧ pagesBelow n ≤ max (pagesBelow d.ssq.stitch) 1 + (motion d).retention := by
  have hlimit := forwardLimit_le d
  have hcurrent := h.currentNumber_eq
  refine ⟨h.run.covers_between h.covers (h.covers_highest (by omega)) hr.le (by omega), ?_⟩
  rw [pagesBelow_of_pos (by omega)]
  omega

/-! ### A walk in progress -/

/-- Every stitch from a walk's start to its target is held (R87). -/
theorem covers_walk (h : PageLaw d) (hk : d.ssq.walk = some k) (hn : min k.start k.target ≤ n ∧ n ≤ max k.start k.target) :
    Covers d.pgs n := by
  obtain ⟨hfollows, -, hwalk⟩ := (pageLaw_iff d).1 h
  obtain ⟨-, ⟨htarget, -⟩, hstart⟩ := hwalk k hk
  have htarget' : Covers d.pgs k.target := htarget ▸ hfollows.covers
  rcases Nat.le_total k.start k.target with hle | hge
  · exact hfollows.run.covers_between hstart htarget' (by omega) (by omega)
  · exact hfollows.run.covers_between htarget' hstart (by omega) (by omega)

theorem spans_between {r : Nat} (h : Spans k r) : min k.start k.target ≤ k.stitch ∧ k.stitch ≤ max k.start k.target := by
  obtain ⟨htarget, hbetween⟩ := h
  omega

theorem Keeps.afterStitchChange (h : Keeps q p d) : Keeps q p (afterStitchChange d) := h.still (by simp +contextual)

theorem walkEnds_walk (d : Station) : (walkEnds d).ssq.walk = none := by
  unfold walkEnds
  split <;> rfl

theorem Keeps.walkEnds (h : Keeps q p d) : Keeps q p (walkEnds d) :=
  h.unwalked (by simp) (by simp) fun _ => walkEnds_walk d

theorem Keeps.walkOver (h : Keeps q p d) : Keeps q p (walkOver d) :=
  h.unwalked (by simp) (by simp) fun _ => rfl

/-- A walk ends at stitch `n` of those it passes (R87, R88). -/
theorem Keeps.cutAt (h : Keeps q p d) (hk : d.ssq.walk = some k) (hn : p → min k.start k.target ≤ n ∧ n ≤ max k.start k.target)
    (hpgs : e.pgs = (moveStitch n d).pgs) (hsame : e.ssq.stitch = n ∧ e.stc = d.stc) (hwalk : e.ssq.walk = none) : Keeps q p e := by
  obtain ⟨hstitch, hstc⟩ := hsame
  refine h.moved hpgs ⟨hstitch, by rw [hstc], by rw [hstc]⟩ (fun hp => covers_walk (h.pages hp) hk (hn hp)) fun _ k hk' => ?_
  rw [hwalk] at hk'
  cases hk'

theorem moveStitch_stitch (n : Nat) (d : Station) : (moveStitch n d).ssq.stitch = n := rfl

theorem Keeps.walkCutAt (h : Keeps q p d) (hk : d.ssq.walk = some k) : Keeps q p (walkCutAt k d) := by
  unfold Machine.walkCutAt
  split
  · exact h.walkEnds
  · have hbetween : p → min k.start k.target ≤ k.stitch ∧ k.stitch ≤ max k.start k.target := fun hp =>
      spans_between (((pageLaw_iff d).1 (h.pages hp)).2.2 k hk).2.1
    exact (h.cutAt (n := k.stitch) hk hbetween (by simp) (by simp [moveStitch_stitch]) (walkEnds_walk _)).afterStitchChange

/-- The walk stitch goes on by one toward the target (R85). -/
theorem Keeps.walkStep (h : Keeps q p d) (hk : d.ssq.walk = some k) (hfar : k.stitch ≠ k.target) (x y : Int) :
    Keeps q p (d.setSsq { d.ssq with walk := some { k with stitch := (nextWalkStitch d k).1, px := x, py := y } }) := by
  have hnext : (nextWalkStitch d k).1 = match k.dir with | .back => k.stitch - 1 | .forward => k.stitch + 1 := by
    unfold nextWalkStitch
    cases k.dir with
    | back => cases d.pgs.read k.stitch <;> rfl
    | forward => cases d.pgs.read (k.stitch + 1) <;> rfl
  refine ⟨h.slots, fun hp => (pageLaw_iff _).2 ?_⟩
  obtain ⟨hfollows, hnone, hwalk⟩ := (pageLaw_iff d).1 (h.pages hp)
  obtain ⟨hhalted, ⟨htarget, hbetween⟩, hstart⟩ := hwalk k hk
  refine ⟨hfollows, hnone, fun j hj => ?_⟩
  cases hj
  refine ⟨hhalted, ⟨htarget, ?_⟩, hstart⟩
  rw [hnext]
  simp only [Station.setSsq_ssq]
  rcases hbetween with ⟨hdir, hbetween⟩ | ⟨hdir, hbetween⟩
  · refine .inl ⟨hdir, ?_⟩
    simp only [hdir]
    omega
  · refine .inr ⟨hdir, ?_⟩
    simp only [hdir]
    omega

theorem Keeps.walkAdvance (fuel : Nat) (h : Keeps q p d) (hk : d.ssq.walk = some k) (hfar : k.stitch ≠ k.target) :
    Keeps q p (walkAdvance fuel k d) := by
  induction fuel generalizing k d with
  | zero => exact h
  | succ fuel ih =>
    rw [Machine.walkAdvance]
    simp only
    split
    · exact Keeps.walkCutAt (d := fault _ d) (h.still (by simp +contextual)) (by simpa using hk)
    · have hstep := h.walkStep hk hfar (nextWalkStitch d k).2.1 (nextWalkStitch d k).2.2
      (repeat' split)
      · exact h.still (by simp +contextual)
      · exact Keeps.walkEnds (hstep.still (by simp +contextual))
      next hmore => exact ih (hstep.still (by simp +contextual)) (by simp +contextual) hmore
      · exact hstep.still (by simp +contextual)

theorem Keeps.walkMoveDone (h : Keeps q p d) : Keeps q p (walkMoveDone d) := by
  unfold Machine.walkMoveDone
  split
  next k hk =>
    split
    · exact h.walkEnds
    next hfar =>
      split
      · exact h.walkCutAt hk
      · exact h.walkAdvance _ hk hfar
  next => exact h

theorem Keeps.completeMove (h : Keeps q p d) : Keeps q p (completeMove d) := by
  unfold Machine.completeMove
  split
  · exact h
  · simp only
    split
    · exact h.still (by simp +contextual)
    · exact Keeps.walkMoveDone (h.still (by simp +contextual))
    · exact Keeps.walkMoveDone (h.still (by simp +contextual))

/-! ### A walk begins (R84) -/

/-- The record of a walk that begins (R84). -/
def walkFrom (dir : WalkDir) (n : Nat) (d : Station) : Walk :=
  { dir := dir, start := d.ssq.stitch, target := n, stitch := d.ssq.stitch, px := d.ssq.px, py := d.ssq.py, slot := d.ssq.slot
    mark := d.ssq.mark, cutPending := false }

theorem walkRecordMade_eq (dir : WalkDir) (n : Nat) (d : Station) :
    (walkRecordMade dir n d).pgs = (moveStitch n d).pgs ∧ (walkRecordMade dir n d).ssq.stitch = n ∧
      (walkRecordMade dir n d).ssq.walk = some (walkFrom dir n d) := by
  unfold walkRecordMade
  cases dir with
  | back => exact ⟨rfl, rfl, rfl⟩
  | forward =>
    cases d.pgs.read n with
    | none => exact ⟨rfl, rfl, rfl⟩
    | some r =>
      simp only
      split <;> exact ⟨rfl, rfl, rfl⟩

theorem Keeps.walkFirstMove (h : Keeps q p d) (hfar : ∀ k, d.ssq.walk = some k → k.stitch ≠ k.target) :
    Keeps q p (walkFirstMove d) := by
  unfold Machine.walkFirstMove
  split
  · have hplace : Keeps q p (d.setPnc { d.pnc with inPlace := false }) := h.still (by simp +contextual)
    simp only
    split
    next k hk =>
      split
      · exact hplace.walkAdvance _ hk (hfar k hk)
      · exact hplace.walkOver
    next => exact hplace
  · exact h

/-- A walk from a stitch to another that is held, its start still held there (R83, R84). -/
theorem Keeps.walkBegin (h : Keeps q p d) {dir : WalkDir} (hstate : d.stc.state = .halted ∨ d.stc.state = .done)
    (hcovers : p → Covers d.pgs n ∧ pagesBelow n ≤ max (pagesBelow d.ssq.stitch) 1 + (motion d).retention)
    (hdir : (dir = .back ∧ n < d.ssq.stitch) ∨ (dir = .forward ∧ d.ssq.stitch < n)) (asked actual : Nat) :
    Keeps q p (walkBegin dir asked actual n d) := by
  obtain ⟨hpgs, hstitch, hwalk⟩ := walkRecordMade_eq dir n d
  have hbegun : ∀ e : Station, e.pgs = (walkRecordMade dir n d).pgs → e.ssq.stitch = (walkRecordMade dir n d).ssq.stitch →
      e.ssq.walk = (walkRecordMade dir n d).ssq.walk → e.stc.motion = d.stc.motion → e.stc.state = .halted →
      Keeps q p (Machine.walkFirstMove (Machine.afterStitchChange (causeStatus e))) := by
    intro e hepgs hestitch hewalk hemotion hestate
    have hjoining : e.stc.state = .joining ↔ d.stc.state = .joining := by
      rcases hstate with hs | hs <;> simp [hestate, hs]
    have hkeeps : Keeps q p e := by
      refine h.moved (hepgs.trans hpgs) ⟨hestitch.trans hstitch, hemotion, hjoining⟩ (fun hp => (hcovers hp).1) fun hp k hk => ?_
      rw [hewalk, hwalk] at hk
      cases hk
      refine ⟨hestate, ⟨rfl, ?_⟩, ((pageLaw_iff d).1 (h.pages hp)).1.covers, (hcovers hp).2⟩
      rcases hdir with ⟨hdir, hlt⟩ | ⟨hdir, hlt⟩
      · exact .inl ⟨hdir, hlt.le, Nat.le_refl _⟩
      · exact .inr ⟨hdir, Nat.le_refl _, hlt.le⟩
    have hcaused : Keeps q p (causeStatus e) := hkeeps.still (by simp)
    refine Keeps.walkFirstMove hcaused.afterStitchChange fun k hk => ?_
    have hk' : (walkRecordMade dir n d).ssq.walk = some k := by simpa [hewalk] using hk
    rw [hwalk] at hk'
    cases hk'
    change d.ssq.stitch ≠ n
    omega
  unfold Machine.walkBegin
  simp only
  rcases hstate with hs | hs
  · rw [if_neg (by simp [hs])]
    exact hbegun _ (by simp) (by simp) (by simp) (by simp) (by simp [hs])
  · rw [if_pos (by simp [hs])]
    exact hbegun _ (by simp) (by simp) (by simp) (by simp) (by simp)

theorem Keeps.backOwner (h : Keeps q p d) (hstate : d.stc.state = .halted ∨ d.stc.state = .done) (x : Payload) :
    Keeps q p (backOwner x d) := by
  unfold Machine.backOwner
  simp only
  split
  · exact h.still (by simp +contextual)
  · split
    · exact h
    · split
      · exact h.still (by simp [walkNowhere])
      next hsome =>
        have hcount : backCount d (countOf x) ≤ d.ssq.stitch - d.pgs.lowest := by
          rw [backCount]
          omega
        refine h.walkBegin hstate (fun hp => ?_) (.inl ⟨rfl, by omega⟩) _ _
        have hmono := pagesBelow_mono (Nat.sub_le d.ssq.stitch (backCount d (countOf x)))
        exact ⟨((pageLaw_iff d).1 (h.pages hp)).1.covers_back (by omega) (Nat.sub_le _ _), by omega⟩

theorem Keeps.forwardOwner (h : Keeps q p d) (hstate : d.stc.state = .halted ∨ d.stc.state = .done) (x : Payload) :
    Keeps q p (forwardOwner x d) := by
  unfold Machine.forwardOwner
  simp only
  split
  · exact h.still (by simp +contextual)
  · split
    · exact h
    · split
      · exact h.still (by simp [walkNowhere])
      next hsome =>
        have hcount : Machine.forwardCount d (countOf x) ≤ forwardLimit d - d.ssq.stitch := Nat.min_le_right _ _
        exact h.walkBegin hstate
          (fun hp => ((pageLaw_iff d).1 (h.pages hp)).1.covers_forward (by omega) (by omega)) (.inr ⟨rfl, by omega⟩) _ _

end Sys2Proof.PageRun

/-! ## The laws of the page store through every command -/

namespace Sys2Proof.PageRun

open Sys2Proof Sys2Proof.Machine Sys2Proof.StitchCycle Sys2Proof.StationStates

variable {q p : Prop} {d e : Station}

/-! ### The commit at D, and the events of a revolution (R7, R14, R77) -/

/-- The committed stitch is held, for its record is read, and no walk stands in RUN or HALTING (R77). -/
theorem Keeps.commit (h : Keeps q p d) (hstate : d.stc.state ≠ .halted) : Keeps q p (commit d) := by
  have hopens : Keeps q p (commitOpens d) := h.still (by simp [commitOpens])
  cases hread : d.pgs.read (d.ssq.stitch + 1) with
  | some r =>
    have hstitch : Keeps q p (commitStitch r (commitOpens d)) := by
      refine hopens.moved (n := d.ssq.stitch + 1) rfl ⟨rfl, rfl, Iff.rfl⟩ (fun _ => covers_of_read hread) fun hp k hk => ?_
      rw [show (commitStitch r (commitOpens d)).ssq.walk = d.ssq.walk from rfl, h.walk_none hp hstate] at hk
      cases hk
    have hframe : Keeps q p (commitFrame r (commitStitch r (commitOpens d))) := hstitch.still (by simp +contextual)
    have hhead : Keeps q p (commitHead (d.ssq.stitch + 1) (some r) (commitFrame r (commitStitch r (commitOpens d)))) :=
      hframe.still (by simp)
    rw [commit_of_record hread]
    exact hhead.still (by simp +contextual)
  | none =>
    have hfault : Keeps q p (fault (plainRecord .indexMismatch d.stc.addr d) (commitOpens d)) := hopens.still (by simp +contextual)
    rw [commit_of_no_record hread]
    exact hfault.still (by simp)

theorem Keeps.eventD (h : Keeps q p d) : Keeps q p (eventD d) := by
  unfold Machine.eventD
  split
  next hrun =>
    split
    · exact h.commit (by rw [hrun]; decide)
    · exact h.still (by simp +contextual)
  next hhalting =>
    split
    · exact h.commit (by rw [hhalting]; decide)
    · exact h.still (by simp)
  all_goals exact h

theorem Keeps.receive (h : Keeps q p d) (n : AngleName) : Keeps q p (receive n d) := by
  cases n with
  | d => exact h.eventD
  | h => exact Keeps.still (e := eventH d) h (by simp +contextual)
  | aArm => exact Keeps.still (e := eventAArm d) h (by simp)
  | wOpen => exact Keeps.still (e := eventWOpen d) h (by simp)
  | m | tuOpen | kOn | tuClose | kOff =>
    rw [Machine.receive]
    split
    · exact h.still (by simp +contextual)
    · exact h

theorem Keeps.raiseEvents (h : Keeps q p d) : Keeps q p (raiseEvents d) := by
  have hdue : ∀ (e : Station) (n : AngleName), Keeps q p e → Keeps q p (raiseIfDue e n) := by
    intro e n he
    have hset : Keeps q p (e.setSht { e.sht with raised := e.sht.raised ++ [n] }) := he.still (by simp)
    rw [raiseIfDue]
    split
    · exact (hset.receive n).still (by simp [raiseEvent])
    · exact he
  have hall : ∀ (l : List AngleName) (e : Station), Keeps q p e → Keeps q p (l.foldl raiseIfDue e) := by
    intro l
    induction l with
    | nil => exact fun _ he => he
    | cons n l ih => exact fun e he => ih _ (hdue e n he)
  exact hall _ d h

/-! ### The Shaft Tracker (R1 to R4) -/

theorem Keeps.encoderFault (h : Keeps q p d) : Keeps q p (encoderFault d) := h.still (by simp +contextual)

theorem Keeps.countForward (h : Keeps q p d) (t : Nat) : Keeps q p (countForward t d) := by
  have hcounted : Keeps q p (Machine.countArrives (presentTension t d)) := h.still (by simp)
  have hadvance : ∀ e, Keeps q p e → Keeps q p (advance e) := by
    intro e he
    have hturned : Keeps q p (turned e) := he.still (by simp [turned])
    rw [advance_eq]
    split
    · exact hturned.encoderFault
    · exact hturned.raiseEvents
  unfold Machine.countForward
  simp only
  split
  · exact hcounted.still (by simp)
  · exact hadvance _ hcounted

theorem Keeps.countReverse (h : Keeps q p d) (t : Nat) : Keeps q p (countReverse t d) := by
  have hcounted : Keeps q p (Machine.countArrives (presentTension t d)) := h.still (by simp)
  unfold Machine.countReverse
  simp only
  split
  · exact Keeps.encoderFault (hcounted.still (by simp))
  · exact hcounted.still (by simp)

theorem Keeps.sweep (n : Nat) (h : Keeps q p d) : Keeps q p (sweep n d) := by
  induction n generalizing d with
  | zero => exact h
  | succ n ih => exact ih (Keeps.raiseEvents (h.still (by simp)))

theorem Keeps.takeIndex (h : Keeps q p d) : Keeps q p (takeIndex d) := by
  have hswept : Keeps q p (Machine.sweep (1023 - d.sht.angle) d) := h.sweep _
  have hbegins : Keeps q p (indexBegins d) := by
    unfold indexBegins
    exact Keeps.raiseEvents (hswept.still (by simp))
  unfold Machine.takeIndex indexSyncs
  (repeat' split)
  · exact Keeps.raiseEvents (h.still (by simp))
  · exact h.encoderFault
  · exact h.still (by simp)
  · exact hbegins.still (by simp +contextual)
  · exact h.still (by simp +contextual)

/-! ### The peers (R52, R53, R86) -/

theorem Keeps.cutWalk (h : Keeps q p d) : Keeps q p (cutWalk d) := by
  unfold Machine.cutWalk
  split
  next k hk =>
    refine ⟨h.slots, fun hp => (pageLaw_iff _).2 ?_⟩
    obtain ⟨hfollows, hnone, hwalk⟩ := (pageLaw_iff d).1 (h.pages hp)
    refine ⟨hfollows, hnone, fun j hj => ?_⟩
    cases hj
    exact hwalk k hk
  next => exact h

/-- A head takes the stitch of the frame station's cut from between the ends of its walk (R86, R88). -/
theorem Keeps.handFrameStitch (h : Keeps q p d) (x : PeerEntry) (i : StatusItems) : Keeps q p (handFrameStitch x i d) := by
  unfold Machine.handFrameStitch headWalkEnd copyStitch
  split
  · split
    next k hk =>
      split
      next hcond =>
        have hin : min k.start k.target ≤ i.stitch ∧ i.stitch ≤ max k.start k.target := by
          simp only [Bool.and_eq_true, inWalk, decide_eq_true_eq] at hcond
          exact hcond.1.2
        exact (h.cutAt (e := Machine.walkOver (cutReport k i.stitch (moveStitch i.stitch d))) hk (fun _ => hin) (by simp)
          (by simp [moveStitch_stitch]) rfl).afterStitchChange
      next => exact h.walkOver
    next => exact h
  · exact h

theorem Keeps.hearPeer (h : Keeps q p d) (x : PeerEntry) (i : StatusItems) : Keeps q p (hearPeer x i d) := by
  have hheard : Keeps q p (setPeer x.addr (hear d.now i) d) := h.still (by simp)
  have hactivity : Keeps q p (handActivity x (setPeer x.addr (hear d.now i) d)) := hheard.still (by simp +contextual)
  have hrest := (hactivity.handFrameStitch x i).still
    (e := handPeerRest i (Machine.handFrameStitch x i (handActivity x (setPeer x.addr (hear d.now i) d)))) (by simp)
  have hhalt : Keeps q p (judgePeerHalt i (handPeerRest i (Machine.handFrameStitch x i
      (handActivity x (setPeer x.addr (hear d.now i) d))))) := hrest.still (by simp +contextual)
  exact hhalt.still (e := Machine.hearPeer x i d) (by simp +contextual [Machine.hearPeer])

theorem Keeps.emptied (hpgs : e.pgs = PageStore.empty) (hssq : e.ssq = Sequencer.reset) : Keeps q p e :=
  Keeps.fresh (hd := none) (by simp only [hpgs, PageStore.empty]) (by rw [hssq]; exact ⟨rfl, rfl⟩)

theorem toJoining_emptied (clash : Bool) (d : Station) :
    (toJoining clash d).pgs = PageStore.empty ∧ (toJoining clash d).ssq = Sequencer.reset := by
  simp [toJoining]

theorem Keeps.addressClash (d : Station) : Keeps q p (addressClash d) :=
  Keeps.emptied (by simp [Machine.addressClash, toJoining_emptied]) (by simp [Machine.addressClash, toJoining_emptied])

theorem Keeps.stationReset (d : Station) : Keeps q p (stationReset d) :=
  Keeps.emptied (by simp [Machine.stationReset, toJoining_emptied]) (by simp [Machine.stationReset, toJoining_emptied])

theorem Keeps.takeStatus (h : Keeps q p d) (src : Addr) (x : Payload) : Keeps q p (takeStatus src x d) := by
  unfold Machine.takeStatus
  (repeat' split)
  · exact h
  · exact Keeps.addressClash d
  · exact h.hearPeer _ _
  · exact h

theorem Keeps.ageRunsOut (h : Keeps q p d) (a : Addr) : Keeps q p (ageRunsOut a d) := by
  have hlose : ∀ x, Keeps q p (losePeer x d) := by
    intro x
    have hlost : Keeps q p (setPeer x.addr (fun e => { e with lost := true, mismatched := false }) d) := h.still (by simp)
    have hwalk : ∀ e, Keeps q p e → Keeps q p (walkLosesPeer x e) := by
      intro e he
      unfold walkLosesPeer
      split
      · exact he.walkOver
      · exact he.cutWalk
    unfold losePeer
    simp only
    split
    · exact hlost.still (by simp +contextual)
    · exact hlost.still (by simp +contextual)
    · exact hwalk _ hlost
    all_goals exact hlost
  unfold Machine.ageRunsOut
  (repeat' split)
  · exact h
  · exact hlose _
  · exact h

/-! ### The owners of the notices (R23, R26, R31, R38, R57, R68) -/

theorem Keeps.takeNotice (h : Keeps q p d) {kind : NoticeKind} {lenOk : Bool} {src : Addr} {x : Payload}
    {owner : Station → Station} (howner : noticeTaken d kind lenOk src x = true → Keeps q p (owner d)) :
    Keeps q p (takeNotice kind lenOk src x owner d) := by
  cases htaken : noticeTaken d kind lenOk src x with
  | true =>
    rw [takeNotice_of_taken htaken]
    exact howner htaken
  | false =>
    rcases takeNotice_not_taken owner htaken with he | ⟨why, he⟩
    · rw [he]
      exact h
    · rw [he]
      exact h.still (by simp [refused])

theorem Keeps.takeGo (h : Keeps q p d) {v : GoVariant} {src : Addr} {x : Payload} {act : Station → Station}
    (hact : Keeps q p (act d)) : Keeps q p (takeGo v src x act d) := by
  refine h.takeNotice fun _ => ?_
  rcases goOwner_cases v x act d with ⟨r, -, he⟩ | ⟨-, he⟩
  · rw [he]
    exact h.still (by simp)
  · rw [he]
    exact hact

theorem Keeps.stopOwner (h : Keeps q p d) : Keeps q p (stopOwner d) := by
  unfold Machine.stopOwner
  split
  · exact h.cutWalk
  · exact h.still (by simp +contextual)

/-- A walk in progress keeps a Start from arming the station (R31, row 1). -/
theorem Keeps.startOwner (h : Keeps q p d) (hstate : d.stc.state ≠ .joining) : Keeps q p (startOwner d) := by
  unfold Machine.startOwner
  split
  · exact h.still (by simp)
  next hnone =>
    have hwalk : d.ssq.walk = none := by
      unfold startRefusal at hnone
      split at hnone
      next => cases hnone
      next hbusy =>
        simp only [Bool.or_eq_true, not_or] at hbusy
        simpa using hbusy.1
    exact h.unwalked (by simp) (by simp [enterArmed_not_joining, hstate]) fun _ => by simpa using hwalk

theorem Keeps.designOpenOwner (h : Keeps q p d) (x : Payload) : Keeps q p (designOpenOwner x d) := by
  unfold Machine.designOpenOwner
  split
  next hd _ =>
    refine Keeps.fresh (hd := some hd) ?_ ?_
    · simp [openDesign, PageStore.opened]
    · simp [openDesign, openSsq, Sequencer.reset]
  next => exact h.still (by simp)

theorem length_of_mapM {α β : Type} {f : α → Option β} {l : List α} {bs : List β} (h : l.mapM f = some bs) :
    bs.length = l.length := by
  induction l generalizing bs with
  | nil =>
    cases h
    rfl
  | cons a l ih =>
    simp only [List.mapM_cons, Option.bind_eq_bind, Option.bind_eq_some_iff] at h
    obtain ⟨b, -, bs', hbs', he⟩ := h
    cases he
    simp [ih hbs']

theorem pageRecordsOf_length {x : Payload} {rs : List StitchRecord} (h : pageRecordsOf x = some rs) :
    rs.length = pageCountOf x := by
  rw [length_of_mapM h, List.length_range]

/-- A page taken in turn joins the run at its end (R68). -/
theorem Keeps.accept {hd : Header} {rs : List StitchRecord} (h : Keeps q p d) (hstate : d.stc.state ≠ .joining)
    (hheader : d.pgs.header = some hd) (hturn : d.pgs.nextWanted < hd.pages)
    (hfits : pageFits hd d.pgs.nextWanted rs = true) (hlength : rs.length ≤ 12) :
    Keeps q p (d.setPgs (d.pgs.accept d.pgs.nextWanted rs)) := by
  refine ⟨fun hq => (accept_slots _ _ _).trans (h.slots hq), fun hp => (pageLaw_iff _).2 ?_⟩
  obtain ⟨hfollows, -, hwalk⟩ := (pageLaw_iff d).1 (h.pages hp)
  obtain ⟨hfollows', hkept⟩ := hfollows.accept hheader hturn hfits hlength
  have hopen : (d.pgs.accept d.pgs.nextWanted rs).header = some hd := by
    rw [← hheader, PageStore.accept]
    split <;> rfl
  refine ⟨hfollows', ?_, fun k hk => ?_⟩
  · rintro (hnone | hjoining)
    · exact absurd (hopen.symm.trans hnone) nofun
    · exact absurd hjoining hstate
  · obtain ⟨hhalted, hspans, hstart⟩ := hwalk k hk
    exact ⟨hhalted, hspans, hkept _ hstart⟩

theorem Keeps.checkPage {hd : Header} {x : Payload} (h : Keeps q p d) (hstate : d.stc.state ≠ .joining)
    (hheader : d.pgs.header = some hd) (hturn : d.pgs.nextWanted < hd.pages) (hlength : pageLengthFits x = true) :
    Keeps q p (checkPage hd d.pgs.nextWanted (pageRecordsOf x) d) := by
  unfold Machine.checkPage
  split
  next rs hrs =>
    split
    next hfits =>
      have hcount : rs.length ≤ 12 := by
        simp only [pageLengthFits, decide_eq_true_eq] at hlength
        rw [pageRecordsOf_length hrs]
        exact hlength.2.2.1
      exact (h.accept hstate hheader hturn hfits hcount).still (by simp +contextual)
    next => exact h.still (by simp)
  next => exact h.still (by simp)

theorem Keeps.designPageOwner {x : Payload} (h : Keeps q p d) (hlength : pageLengthFits x = true)
    (hstate : d.stc.state ≠ .joining) : Keeps q p (designPageOwner x d) := by
  unfold Machine.designPageOwner takePage
  split
  next hd hheader =>
    split
    · exact h.still (by simp)
    next hbelow =>
      split
      · exact h
      next hnew =>
        split
        · exact ⟨h.slots, h.pages⟩
        next hgap =>
          split
          · exact h
          next =>
            have hnumber : pageNumberOf x = d.pgs.nextWanted := by omega
            rw [hnumber]
            exact h.checkPage hstate hheader (by omega) hlength
  next => exact h

theorem Keeps.joinRunsOut (h : Keeps q p d) : Keeps q p (joinRunsOut d) := by
  unfold Machine.joinRunsOut
  split
  next hcond => exact h.joining hcond.1 (by simp)
  next => exact h

end Sys2Proof.PageRun

/-! ## The page store through every command -/

namespace Sys2Proof.PageRun

open Sys2Proof Sys2Proof.Machine Sys2Proof.StitchCycle Sys2Proof.StationStates

variable {q p : Prop} {d : Station}

/-! ### The states in which the notices that touch the page store are taken (R45) -/

theorem state_of_back_taken {lenOk : Bool} {src : Addr} {x : Payload} (h : noticeTaken d .back lenOk src x = true) :
    d.stc.state = .halted ∨ d.stc.state = .done := by
  have hacc := acceptance_of_taken h
  simp only [acceptance, ite_self] at hacc
  cases hstate : d.stc.state <;> simp [acceptTable, hstate] at hacc ⊢

theorem state_of_forward_taken {lenOk : Bool} {src : Addr} {x : Payload} (h : noticeTaken d .forward lenOk src x = true) :
    d.stc.state = .halted := by
  have hacc := acceptance_of_taken h
  simp only [acceptance, ite_self] at hacc
  cases hstate : d.stc.state <;> simp [acceptTable, hstate] at hacc ⊢

theorem state_of_start_taken {lenOk : Bool} {src : Addr} {x : Payload} (h : noticeTaken d .start lenOk src x = true) :
    d.stc.state ≠ .joining := by
  intro hstate
  have hacc := acceptance_of_taken h
  simp [acceptance, acceptTable, hstate] at hacc

theorem state_of_designPage_taken {lenOk : Bool} {src : Addr} {x : Payload} (h : noticeTaken d .designPage lenOk src x = true) :
    d.stc.state ≠ .joining := by
  intro hstate
  have hacc := acceptance_of_taken h
  simp [acceptance, acceptTable, hstate] at hacc

theorem length_of_taken {kind : NoticeKind} {lenOk : Bool} {src : Addr} {x : Payload} (h : noticeTaken d kind lenOk src x = true) :
    lenOk = true := by
  simp only [noticeTaken, Bool.and_eq_true] at h
  exact h.1.1.2

/-! ### Every command (R62, R70 to R73) -/

/-- Each command's effect keeps the two laws. -/
theorem Keeps.effect (h : Keeps q p d) (c : Instr) : Keeps q p (effect c d) := by
  cases c with
  | resetNLow => exact h
  | hardReset => exact h
  | noticeDiscarded => exact h
  | encoderForwardCount t => exact h.countForward _
  | encoderReverseCount t => exact h.countReverse _
  | indexPulse => exact h.takeIndex
  | restReached => exact Keeps.still (e := comeToRest d) h (by simp +contextual)
  | seenLevelChange high => exact Keeps.still (e := seeLevel high d) h (by simp +contextual [seeLevel])
  | stallTimeout => exact Keeps.still (e := stall d) h (by simp +contextual)
  | armTimeout => exact Keeps.still (e := armRunsOut d) h (by simp +contextual)
  | joinTimeout => exact h.joinRunsOut
  | stop => exact h.takeNotice fun _ => h.stopOwner
  | stationReset => exact h.takeNotice fun _ => Keeps.stationReset d
  | start => exact h.takeNotice fun htaken => h.startOwner (state_of_start_taken htaken)
  | back => exact h.takeNotice fun htaken => h.backOwner (state_of_back_taken htaken) _
  | forward => exact h.takeNotice fun htaken => h.forwardOwner (.inl (state_of_forward_taken htaken)) _
  | headSelect => exact h.takeNotice fun _ => h.still (by simp +contextual)
  | faultClear => exact h.takeNotice fun _ => h.still (by simp +contextual)
  | pantographGoHome src x xh yh =>
    have hpins : Keeps q p (d.setPins { d.pins with xHome := xh, yHome := yh }) := h.still (by simp)
    exact hpins.takeGo (hpins.still (by simp))
  | pantographGoPark => exact h.takeGo (h.still (by simp))
  | pantographGoReturn => exact h.takeGo (h.still (by simp))
  | pantographGoAbsolute => exact h.takeGo (h.still (by simp))
  | pantographGoSetOrigin => exact h.takeGo (h.still (by simp +contextual))
  | pantographGoTrace => exact h.takeGo (h.still (by simp))
  | needleMap => exact h.takeNotice fun _ => h.still (by simp +contextual)
  | configureRoster => exact h.takeNotice fun htaken => h.joining (joining_of_configure_taken htaken) (by simp)
  | configureTiming => exact h.takeNotice fun htaken => h.joining (joining_of_configure_taken htaken) (by simp)
  | configureMotion => exact h.takeNotice fun htaken => h.joining (joining_of_configure_taken htaken) (by simp)
  | configureThread => exact h.takeNotice fun htaken => h.joining (joining_of_configure_taken htaken) (by simp)
  | designOpen => exact h.takeNotice fun _ => h.designOpenOwner _
  | designPage =>
    exact h.takeNotice fun htaken => h.designPageOwner (length_of_taken htaken) (state_of_designPage_taken htaken)
  | statusReceived => exact h.takeStatus _ _
  | peerLost => exact h.ageRunsOut _
  | statusInterval => exact Keeps.still (e := causeStatus d) h (by simp)
  | statusAttempt => exact Keeps.still (e := attemptStatus d) h (by simp)
  | lostArbitration => exact Keeps.still (e := yieldLine d) h (by simp)
  | statusSent => exact Keeps.still (e := statusIsSent d) h (by simp)
  | moveComplete => exact h.completeMove
  | homeSwitchClose a =>
    exact Keeps.still (e := homeEvent a switchCloses (d.setPins (closeSwitch a d.pins))) h (by simp +contextual)
  | homeBackoffDone a => exact Keeps.still (e := homeEvent a backoffEnds d) h (by simp +contextual)
  | homeSeekLimit a => exact Keeps.still (e := homeEvent a seekFails d) h (by simp +contextual)
  | driveReadyFall => exact Keeps.still (e := driveReadyFall d) h (by simp +contextual)
  | driveReadyRise => exact Keeps.still (e := driveReadyRise d) h (by simp)
  | creepTimeout => exact Keeps.still (e := creepRunsOut d) h (by simp +contextual)
  | caseSensorChange code latch =>
    exact Keeps.still (e := sensorChange (currentNeedle d) (d.setPins (casePins code latch d.pins))) h (by simp +contextual)
  | stepTimeout => exact Keeps.still (e := stepTimeout d) h (by simp +contextual)
  | settleTimerExpiry => exact Keeps.still (e := settleRunsOut d) h (by simp)
  | threadPulse => exact Keeps.still (e := countPulse d) h (by simp)

theorem Keeps.finish (b : Station) (h : Keeps q p d) : Keeps q p (finish b d) := by
  refine h.still ?_
  rw [finish_eq]
  simp

/-- Every step keeps the two laws of the page store, each by itself. -/
theorem Keeps.step {s t : State} (h : Keeps q p s.dev) (hstep : step s = .next t) : Keeps q p t.dev := by
  rcases step_cases hstep with ⟨v, he⟩ | ⟨v, he⟩ | he | ⟨a, x, y, he⟩ | ⟨c, he⟩
  · rw [he]
    exact h.still (by simp)
  · rw [he]
    exact h.still (by simp)
  · rw [he]
    exact h.unwalked ⟨rfl, rfl, rfl⟩ Iff.rfl fun _ => rfl
  · rw [he]
    exact Keeps.emptied rfl rfl
  · rw [he]
    exact (h.effect c).finish _

/-! ### The obligation -/

/-- Settles O7: a command keeps the pages as they are, changes the stitch number, takes a page at the end of the run, or empties
the store; each keeps the two laws, and a change of the stitch number is its crossings, one after the other. -/
theorem pageSlotsConserved : Obligations.PageSlotsConserved := by
  refine ⟨fun s t hslots hstep => ?_, fun s t hpages hstep => ?_, fun g depth r => ?_⟩
  · have hkept : Keeps (SlotLaw s.dev) (PageLaw s.dev) t.dev := Keeps.step ⟨id, id⟩ hstep
    exact hkept.slots hslots
  · have hkept : Keeps (SlotLaw s.dev) (PageLaw s.dev) t.dev := Keeps.step ⟨id, id⟩ hstep
    exact hkept.pages hpages
  · obtain ⟨hforward, hbackward, hwithin⟩ := moveTo_crosses g depth r
    refine ⟨fun p ps hr hposted => ?_, fun p hr hcurrent => ?_, hwithin, moveTo_self depth r g,
      fun m n hr hn => moveTo_trans hr hn⟩
    · rw [hforward hr]
      exact crossForward_eq hposted
    · rw [hbackward hr]
      exact crossBackward_eq hcurrent

end Sys2Proof.PageRun

/-! ## A walk stitch by stitch: where it is, and what its next move does -/

namespace Sys2Proof.Walks

open Sys2Proof Sys2Proof.Machine Sys2Proof.StitchCycle

variable {d e : Station} {k : Walk} {z : Nat}

/-! ### The walk after its next stitches (R85) -/

/-- The walk's next stitch and position, as `walkAfter` counts them. -/
theorem nextWalkStitch_eq (d : Station) (k : Walk) :
    nextWalkStitch d k = ((walkAfter d k 1).stitch, (walkAfter d k 1).px, (walkAfter d k 1).py) := by
  simp only [nextWalkStitch, walkAfter]
  cases k.dir with
  | back => cases d.pgs.read k.stitch <;> rfl
  | forward => cases d.pgs.read (k.stitch + 1) <;> rfl

/-- One stitch more: the stitch falls or rises by one, the position follows, and the rest of the record stays. -/
theorem walkAfter_succ (d : Station) (k : Walk) (z : Nat) :
    walkAfter d k (z + 1) = { walkAfter d k z with
      stitch := match (walkAfter d k z).dir with
        | .back => (walkAfter d k z).stitch - 1
        | .forward => (walkAfter d k z).stitch + 1
      px := (walkAfter d k (z + 1)).px, py := (walkAfter d k (z + 1)).py } := by
  simp only [walkAfter]
  cases (walkAfter d k z).dir with
  | back => cases d.pgs.read (walkAfter d k z).stitch <;> rfl
  | forward => cases d.pgs.read ((walkAfter d k z).stitch + 1) <;> rfl

/-- The record of a walk, its stitch and position apart, stands while the walk goes on. -/
theorem walkAfter_kept (d : Station) (k : Walk) (z : Nat) :
    (walkAfter d k z).dir = k.dir ∧ (walkAfter d k z).start = k.start ∧ (walkAfter d k z).target = k.target ∧
      (walkAfter d k z).slot = k.slot ∧ (walkAfter d k z).mark = k.mark := by
  induction z with
  | zero => exact ⟨rfl, rfl, rfl, rfl, rfl⟩
  | succ z ih =>
    rw [walkAfter_succ]
    exact ih

theorem walkAfter_stitch (d : Station) (k : Walk) (z : Nat) :
    (walkAfter d k z).stitch = match k.dir with
      | .back => k.stitch - z
      | .forward => k.stitch + z := by
  induction z with
  | zero => cases k.dir <;> rfl
  | succ z ih =>
    rw [walkAfter_succ, (walkAfter_kept d k z).1, ih]
    cases k.dir <;> simp only <;> omega

/-- The target lies in the walk's direction. -/
def Toward (k : Walk) : Prop := (k.dir = .back ∧ k.target ≤ k.stitch) ∨ (k.dir = .forward ∧ k.stitch ≤ k.target)

/-- A stitch short of the target leaves one less to pass. -/
theorem Toward.next (h : Toward k) (d : Station) (hfar : k.stitch ≠ k.target) :
    Toward (walkAfter d k 1) ∧ walkLeft k = walkLeft (walkAfter d k 1) + 1 := by
  obtain ⟨hdir, -, htarget, -⟩ := walkAfter_kept d k 1
  have hstitch := walkAfter_stitch d k 1
  unfold Toward walkLeft
  rw [hdir, htarget, hstitch]
  rcases h with ⟨hk, hle⟩ | ⟨hk, hle⟩ <;> simp only [hk, reduceCtorEq, true_and, false_and, or_false, false_or] <;> omega

/-- Stitches passed leave as many less, the target still ahead. -/
theorem Toward.after (h : Toward k) (d : Station) (hstands : Stands d k z) :
    Toward (walkAfter d k z) ∧ walkLeft k = walkLeft (walkAfter d k z) + z := by
  induction z with
  | zero => exact ⟨h, rfl⟩
  | succ z ih =>
    obtain ⟨hshort, -⟩ := hstands z (by omega)
    obtain ⟨htoward, hleft⟩ := ih fun i hi => hstands i (by omega)
    obtain ⟨-, -, htarget, -⟩ := walkAfter_kept d k z
    obtain ⟨hnext, hone⟩ := htoward.next d (by rwa [htarget])
    refine ⟨hnext, hleft.trans ?_⟩
    rw [hone, Nat.add_assoc, Nat.add_comm 1 z]
    rfl

/-- A walk that began at its present stitch has passed, at a later one, as many stitches as lie between. -/
theorem Toward.passed (h : Toward k) (d : Station) (hstands : Stands d k z) :
    (if k.stitch ≤ (walkAfter d k z).stitch then (walkAfter d k z).stitch - k.stitch
      else k.stitch - (walkAfter d k z).stitch) = z := by
  obtain ⟨-, hleft⟩ := h.after d hstands
  rw [walkAfter_stitch]
  unfold walkLeft at hleft
  rcases h with ⟨hdir, hle⟩ | ⟨hdir, hle⟩ <;> simp only [hdir] <;> split <;> omega

/-! ### What a walk reads of the station -/

/-- Two stations alike in what the targets and times of a walk rest on: the pages, the origin, the MOTION section. -/
def SameGround (e d : Station) : Prop :=
  e.pgs = d.pgs ∧ e.pnc.originX = d.pnc.originX ∧ e.pnc.originY = d.pnc.originY ∧ e.stc.motion = d.stc.motion

theorem SameGround.motion (h : SameGround e d) : motion e = motion d := by
  obtain ⟨-, -, -, hmotion⟩ := h
  rw [Machine.motion, Machine.motion, hmotion]

theorem SameGround.outsideField (h : SameGround e d) : outsideField e = outsideField d := by
  funext q
  rw [Machine.outsideField, Machine.outsideField, h.motion]

theorem SameGround.walkAfter (h : SameGround e d) (k : Walk) (z : Nat) : walkAfter e k z = walkAfter d k z := by
  obtain ⟨hpgs, -⟩ := h
  induction z with
  | zero => rfl
  | succ z ih => simp only [Machine.walkAfter, ih, hpgs]

theorem SameGround.walkTarget (h : SameGround e d) (k : Walk) (z : Nat) : walkTarget e k z = walkTarget d k z := by
  obtain ⟨hpgs, hx, hy, -⟩ := id h
  rw [Machine.walkTarget, Machine.walkTarget, h.walkAfter, targetOfPos_congr (by rw [hpgs]) hx hy]

theorem SameGround.walkTime (h : SameGround e d) (k : Walk) (z : Nat) : walkTime e k z = walkTime d k z := by
  rw [Machine.walkTime, Machine.walkTime, h.motion, h.walkTarget, h.walkTarget]

theorem SameGround.stands (h : SameGround e d) (k : Walk) (z : Nat) : Stands e k z ↔ Stands d k z := by
  simp only [Stands, h.walkAfter, h.walkTarget, h.walkTime, h.outsideField]

/-! ### The hoop at a stitch of the walk -/

/-- Where the hoop is once it has passed `z` stitches of no displacement: where it was, or at the target of the last. -/
def hoopAt (d : Station) (k : Walk) (z : Nat) : Int × Int := if z = 0 then (d.pnc.x, d.pnc.y) else walkTarget d k z

/-- The hoop at `q`, the walk at `k`. -/
def hoopTo (q : Int × Int) (k : Walk) (d : Station) : Station :=
  { d with ssq := { d.ssq with walk := some k }, pnc := { d.pnc with x := q.1, y := q.2 } }

/-- The station whose walk `k` has passed `z` stitches of no displacement (R85, R97). -/
def standsAt (d : Station) (k : Walk) (z : Nat) : Station := hoopTo (hoopAt d k z) (walkAfter d k z) d

theorem standsAt_zero (hk : d.ssq.walk = some k) : standsAt d k 0 = d := by
  rw [standsAt, hoopTo, walkAfter, ← hk]
  rfl

theorem sameGround_standsAt (d : Station) (k : Walk) (z : Nat) : SameGround (standsAt d k z) d := ⟨rfl, rfl, rfl, rfl⟩

/-- From the station at one stitch to the station at the next. -/
theorem standsAt_standsAt (d : Station) (k : Walk) (z : Nat) :
    standsAt (standsAt d k z) (walkAfter d k z) 1 = standsAt d k (z + 1) := by
  have hground := sameGround_standsAt d k z
  have hafter : walkAfter (standsAt d k z) (walkAfter d k z) 1 = walkAfter d k (z + 1) := hground.walkAfter _ 1
  have hhoop : hoopAt (standsAt d k z) (walkAfter d k z) 1 = hoopAt d k (z + 1) := hground.walkTarget _ 1
  rw [standsAt, hafter, hhoop]
  rfl

/-- The hoop arrives (R94, R97): homed, and with it in-place, is kept at a target in the field. -/
theorem arrive_eq (x y : Int) (d : Station) : arrive x y d = { d with pnc := { d.pnc with
    x := x, y := y, move := none
    homed := d.pnc.homed && decide (outsideField d (x, y) = none)
    inPlace := d.pnc.inPlace && (decide (outsideField d (x, y) = none) || !d.pnc.homed) } } := by
  have hout := outsideField_congr (s := d) (e := d.setPnc { d.pnc with x := x, y := y, move := none }) rfl (x, y)
  unfold arrive judgeField
  simp only [Station.setPnc_pnc, hout]
  cases hh : d.pnc.homed <;> cases ho : outsideField d (x, y) <;> simp [Station.setPnc]

/-- A stitch of no displacement completes in its event, in the field: homed and in-place stay as they were (R94, R97). -/
theorem arrive_inside {q : Int × Int} (hmove : d.pnc.move = none) (hin : outsideField d q = none) :
    arrive q.1 q.2 (d.setSsq { d.ssq with walk := some k }) = hoopTo q k d := by
  have hin' : outsideField (d.setSsq { d.ssq with walk := some k }) (q.1, q.2) = none := (outsideField_congr rfl q).trans hin
  rw [arrive_eq, hin', hoopTo]
  simp [hmove, Station.setSsq]

/-! ### The next walk move (R85, R97, R100) -/

/-- The move of a walk to the stitch after the next `z`, from where the hoop is at them (R113). -/
def walkMove (d : Station) (k : Walk) (z : Nat) : Move :=
  { kind := .walk, fromX := (hoopAt d k z).1, fromY := (hoopAt d k z).2
    toX := (walkTarget d k (z + 1)).1, toY := (walkTarget d k (z + 1)).2
    treq := walkTime d k z, started := d.now, atWOpen := false }

theorem walkMove_standsAt (d : Station) (k : Walk) (z : Nat) :
    walkMove (standsAt d k z) (walkAfter d k z) 0 = walkMove d k z := by
  have hground := sameGround_standsAt d k z
  rw [walkMove, hground.walkTarget, hground.walkTime]
  rfl

/-- The FIELD record of a walk whose target after the next `z` stitches lies outside the field (R100). -/
def walkFault (d : Station) (k : Walk) (z : Nat) (a : Axis) : FaultRecord :=
  { kind := .field, stitch := (walkAfter d k (z + 1)).stitch, needle := none, value := some (axisCode a) }

theorem SameGround.walkFault (h : SameGround e d) (k : Walk) (z : Nat) (a : Axis) : walkFault e k z a = walkFault d k z a := by
  rw [Walks.walkFault, Walks.walkFault, h.walkAfter]

/-- A walk short of its target takes one of these ways (R85, R100): it is cut where the field ends, its move waits behind another,
its next stitch takes no time, and is the last or is passed, or its move starts. -/
theorem walkOn_cases (htoward : Toward k) (hfar : k.stitch ≠ k.target) (d : Station) :
    (∀ a, outsideField d (walkTarget d k 1) = some a → walkOn k d = walkCutAt k (fault (walkFault d k 0 a) d)) ∧
    (outsideField d (walkTarget d k 1) = none → d.pnc.move ≠ none → walkOn k d = { d with pnc := { d.pnc with
      waiting := some { x := (walkTarget d k 1).1, y := (walkTarget d k 1).2, treq := walkTime d k 0 } } }) ∧
    (outsideField d (walkTarget d k 1) = none → d.pnc.move = none → walkOn k d =
      if walkTime d k 0 = 0 then
        if (walkAfter d k 1).stitch = k.target then walkEnds (standsAt d k 1)
        else walkOn (walkAfter d k 1) (standsAt d k 1)
      else { d with ssq := { d.ssq with walk := some (walkAfter d k 1) }
                    pnc := { d.pnc with move := some (walkMove d k 0) } }) := by
  obtain ⟨-, hleft⟩ := htoward.next d hfar
  obtain ⟨-, -, hkept, -⟩ := walkAfter_kept d k 1
  have hnext := nextWalkStitch_eq d k
  have hrecord : { k with stitch := (walkAfter d k 1).stitch, px := (walkAfter d k 1).px, py := (walkAfter d k 1).py } =
      walkAfter d k 1 := (walkAfter_succ d k 0).symm ▸ rfl
  have htarget : targetOfPos d (walkAfter d k 1).px (walkAfter d k 1).py = walkTarget d k 1 := rfl
  have htime : moveTime (motion d) ((walkTarget d k 1).1 - (targetOfPos d k.px k.py).1)
      ((walkTarget d k 1).2 - (targetOfPos d k.px k.py).2) = walkTime d k 0 := rfl
  refine ⟨fun a hout => ?_, fun hin hmove => ?_, fun hin hmove => ?_⟩ <;>
    rw [walkOn, hleft, walkAdvance] <;> simp only [hnext, htarget, htime]
  · rw [hout]
    rfl
  · rw [hin]
    simp only [Option.isSome_iff_ne_none.2 hmove, if_true]
    rfl
  · rw [hin]
    simp only [hmove, Option.isSome_none, Bool.false_eq_true, if_false, hrecord, arrive_inside hmove hin]
    rfl

/-- One stitch of no displacement more: the walk ends there or goes on from there (R85). -/
theorem walkOn_stands_succ (htoward : Toward k) (hmove : d.pnc.move = none) (hstands : Stands d k (z + 1)) :
    walkOn (walkAfter d k z) (standsAt d k z) =
      if (walkAfter d k (z + 1)).stitch = k.target then walkEnds (standsAt d k (z + 1))
      else walkOn (walkAfter d k (z + 1)) (standsAt d k (z + 1)) := by
  have hbefore : Stands d k z := fun i hi => hstands i (by omega)
  obtain ⟨hshort, hin, htime⟩ := hstands z (by omega)
  obtain ⟨-, -, htarget, -⟩ := walkAfter_kept d k z
  have hground := sameGround_standsAt d k z
  obtain ⟨-, -, hstep⟩ := walkOn_cases (htoward.after d hbefore).1 (by rwa [htarget]) (standsAt d k z)
  rw [hstep (by rwa [hground.outsideField, hground.walkTarget]) hmove, standsAt_standsAt, hground.walkTime,
    hground.walkAfter, htarget]
  exact if_pos htime

/-- Stitches of no displacement are passed in one event, the hoop at the last of them (R85). -/
theorem walkOn_standsAt (htoward : Toward k) (hk : d.ssq.walk = some k) (hmove : d.pnc.move = none) (hstands : Stands d k z)
    (hmore : (walkAfter d k z).stitch ≠ k.target) : walkOn k d = walkOn (walkAfter d k z) (standsAt d k z) := by
  induction z with
  | zero => rw [walkAfter, standsAt_zero hk]
  | succ z ih =>
    obtain ⟨hshort, -⟩ := hstands z (by omega)
    rw [ih (fun i hi => hstands i (by omega)) hshort, walkOn_stands_succ htoward hmove hstands, if_neg hmore]

/-- The ways of a walk at the last of the stitches of no displacement that it passes in one event (R85, R100), read on the ground
`e` of the station. -/
theorem walkOn_of_stands (hground : SameGround d e) (htoward : Toward k) (hfar : k.stitch ≠ k.target) (hk : d.ssq.walk = some k)
    (hmove : d.pnc.move = none) (hpass : Stands e k z) :
    ((walkAfter e k z).stitch = k.target → walkOn k d = walkEnds (standsAt d k z)) ∧
    (∀ a, (walkAfter e k z).stitch ≠ k.target → outsideField e (walkTarget e k (z + 1)) = some a →
      walkOn k d = walkCutAt (walkAfter d k z) (fault (walkFault e k z a) (standsAt d k z))) ∧
    ((walkAfter e k z).stitch ≠ k.target → outsideField e (walkTarget e k (z + 1)) = none → walkTime e k z ≠ 0 →
      walkOn k d = { standsAt d k z with
        ssq := { d.ssq with walk := some (walkAfter e k (z + 1)) }
        pnc := { (standsAt d k z).pnc with move := some (walkMove d k z) } }) := by
  have hthere := sameGround_standsAt d k z
  have hstands := (hground.stands k z).2 hpass
  obtain ⟨-, -, htarget, -⟩ := walkAfter_kept d k z
  simp only [← hground.walkAfter, ← hground.walkTarget, ← hground.outsideField, ← hground.walkTime, ← hground.walkFault]
  have hgoes : (walkAfter d k z).stitch ≠ k.target → walkOn k d = walkOn (walkAfter d k z) (standsAt d k z) :=
    walkOn_standsAt htoward hk hmove hstands
  have hcases := fun hmore : (walkAfter d k z).stitch ≠ k.target =>
    walkOn_cases (htoward.after d hstands).1 (by rwa [htarget]) (standsAt d k z)
  refine ⟨fun hlast => ?_, fun a hmore hout => ?_, fun hmore hin htime => ?_⟩
  · cases z with
    | zero => exact absurd hlast hfar
    | succ z =>
      obtain ⟨hshort, -⟩ := hstands z (by omega)
      rw [walkOn_standsAt htoward hk hmove (fun i hi => hstands i (by omega)) hshort, walkOn_stands_succ htoward hmove hstands,
        if_pos hlast]
  · obtain ⟨hcut, -⟩ := hcases hmore
    rw [hgoes hmore, hcut a (by rwa [hthere.outsideField, hthere.walkTarget]), hthere.walkFault]
    rfl
  · obtain ⟨-, -, hstep⟩ := hcases hmore
    rw [hgoes hmore, hstep (by rwa [hthere.outsideField, hthere.walkTarget]) hmove, hthere.walkTime, hthere.walkAfter,
      walkMove_standsAt]
    exact if_neg htime

end Sys2Proof.Walks

/-! ## The end and the cut of a walk in HALTED -/

namespace Sys2Proof.Walks

open Sys2Proof Sys2Proof.Machine Sys2Proof.StitchCycle Sys2Proof.PageRun

variable {d : Station} {k : Walk} {fuel : Nat}

theorem recomputeFinding_halted (h : d.stc.state = .halted) : recomputeFinding d = { d with pnc :=
    if d.stc.frameRole then { d.pnc with finding := findingNow d } else d.pnc } := by
  obtain ⟨hhead, hquiet, harises⟩ := recomputeFinding_cases d
  cases hrole : d.stc.frameRole with
  | false => exact hhead hrole
  | true =>
    cases hold : d.pnc.finding with
    | some a => exact hquiet hrole (.inl (by simp [hold]))
    | none =>
      cases hnew : findingNow d with
      | none => exact (hquiet hrole (.inr hnew)).trans (by rw [hnew]; rfl)
      | some a =>
        obtain ⟨-, -, hstill⟩ := harises a hrole hold hnew
        exact (hstill (by simp [h]) (by simp [h])).trans (by rw [hnew]; rfl)

/-- What follows a new stitch number in HALTED: a frame station forms its finding anew (R95); a head settles. -/
theorem afterStitchChange_halted (h : d.stc.state = .halted) :
    (afterStitchChange d).stc = d.stc ∧ (afterStitchChange d).sgv = d.sgv ∧ (afterStitchChange d).gtu = d.gtu ∧
    (afterStitchChange d).pnc = if d.stc.frameRole then
      { d.pnc with finding := nextFinding d d.pgs d.ssq.stitch d.ssq.px d.ssq.py } else d.pnc := by
  have hall : ∀ e : Station, e.stc = d.stc → e.sgv = d.sgv → e.gtu = d.gtu → e.pnc = d.pnc → e.pgs = d.pgs →
      e.ssq = d.ssq →
      (recomputeFinding e).stc = d.stc ∧ (recomputeFinding e).sgv = d.sgv ∧ (recomputeFinding e).gtu = d.gtu ∧
      (recomputeFinding e).pnc = if d.stc.frameRole then
        { d.pnc with finding := nextFinding d d.pgs d.ssq.stitch d.ssq.px d.ssq.py } else d.pnc := by
    intro e hstc hsgv hgtu hpnc hpgs hssq
    have hfinding : findingNow e = nextFinding d d.pgs d.ssq.stitch d.ssq.px d.ssq.py := by
      rw [findingNow_eq (d := d) (by rw [hpgs]) (by rw [hpnc]; exact ⟨rfl, rfl⟩) (by rw [hstc]), hpgs, hssq]
    rw [recomputeFinding_halted (by rw [hstc, h]), hfinding, hstc, hpnc]
    exact ⟨rfl, hsgv, hgtu, rfl⟩
  unfold afterStitchChange
  split <;> exact hall _ (by simp) (by simp) (by simp) (by simp) (by simp) (by simp)

/-- With no move left the walk of a frame station ends in place (R85, R101). -/
theorem walkEnds_of_no_move (h : d.pnc.move = none) :
    walkEnds d = { d with ssq := { d.ssq with walk := none }, pnc := { d.pnc with inPlace := d.pnc.homed } } := by
  rw [walkEnds, if_neg (by simp [h])]
  rfl

theorem walkEnds_pnc (d : Station) :
    (walkEnds d).pnc = { d.pnc with inPlace := if d.pnc.move = none then d.pnc.homed else d.pnc.inPlace } := by
  cases h : d.pnc.move with
  | none => rw [walkEnds_of_no_move h]; simp [h]
  | some m => rw [walkEnds, if_pos (by simp [h]), if_neg nofun]; rfl

theorem walkEnds_ssq (d : Station) : (walkEnds d).ssq = { d.ssq with walk := none } := by
  unfold walkEnds
  split <;> rfl

theorem cutReport_ssq (k : Walk) (w : Nat) (d : Station) : (cutReport k w d).ssq = { d.ssq with
    slot := if decide (k.dir = .back) then d.ssq.slot else k.slot
    mark := if decide (k.dir = .back) then d.ssq.mark else k.mark
    report := { d.ssq.report with actual := if k.start ≤ w then w - k.start else k.start - w, outcome := .walkCut } } := by
  unfold cutReport
  cases k.dir <;> rfl

/-- The next-target finding rests on the design, the origin and the field (R95). -/
theorem nextFinding_congr {e : Station} (hheader : e.pgs.header = d.pgs.header)
    (horigin : e.pnc.originX = d.pnc.originX ∧ e.pnc.originY = d.pnc.originY) (hmotion : e.stc.motion = d.stc.motion) :
    nextFinding e = nextFinding d := by
  funext g n px py
  obtain ⟨hx, hy⟩ := horigin
  unfold nextFinding
  cases g.read (n + 1) with
  | none => rfl
  | some r => simp only [targetOfPos_congr hheader hx hy, motion_congr hmotion]

/-- A walk cut at a stitch short of its target, in HALTED (R87): the stitch number, the position and the pages are those of
the stitch reached, a Forward's slot and mark those before the walk, and the finding is formed anew. -/
theorem walkCutAt_halted (h : d.stc.state = .halted) (hframe : d.stc.frameRole = true) (hfar : k.stitch ≠ k.target) :
    let pages := d.pgs.moveTo (motion d).retention d.ssq.stitch k.stitch
    (walkCutAt k d).stc = d.stc ∧ (walkCutAt k d).sgv = d.sgv ∧ (walkCutAt k d).gtu = d.gtu ∧
    (walkCutAt k d).pgs = pages ∧
    (walkCutAt k d).ssq = { d.ssq with
      stitch := k.stitch, px := k.px, py := k.py, walk := none
      slot := if decide (k.dir = .back) then d.ssq.slot else k.slot
      mark := if decide (k.dir = .back) then d.ssq.mark else k.mark
      report := { d.ssq.report with
        actual := if k.start ≤ k.stitch then k.stitch - k.start else k.start - k.stitch, outcome := .walkCut } } ∧
    (walkCutAt k d).pnc = { d.pnc with
      inPlace := if d.pnc.move = none then d.pnc.homed else d.pnc.inPlace
      finding := nextFinding d pages k.stitch k.px k.py } := by
  intro pages
  let moved := moveStitch k.stitch d
  let ended := walkEnds (cutReport k k.stitch (moved.setSsq { moved.ssq with px := k.px, py := k.py }))
  have hcut : walkCutAt k d = afterStitchChange ended := if_neg hfar
  have hstc : ended.stc = d.stc := by simp [ended, moved]
  have hpgs : ended.pgs = pages := by simp [ended, moved, moveStitch, pages]
  have hssq : ended.ssq = { d.ssq with
      stitch := k.stitch, px := k.px, py := k.py, walk := none
      slot := if decide (k.dir = .back) then d.ssq.slot else k.slot
      mark := if decide (k.dir = .back) then d.ssq.mark else k.mark
      report := { d.ssq.report with
        actual := if k.start ≤ k.stitch then k.stitch - k.start else k.start - k.stitch, outcome := .walkCut } } := by
    rw [walkEnds_ssq, cutReport_ssq]
    rfl
  have hpnc : ended.pnc = { d.pnc with inPlace := if d.pnc.move = none then d.pnc.homed else d.pnc.inPlace } := by
    rw [walkEnds_pnc]
    simp [moved]
  have hfinding : nextFinding ended = nextFinding d :=
    nextFinding_congr (by rw [hpgs, moveTo_header]) (by rw [hpnc]; exact ⟨rfl, rfl⟩) (by rw [hstc])
  obtain ⟨hstc', hsgv, hgtu, hpnc'⟩ := afterStitchChange_halted (d := ended) (by rw [hstc, h])
  rw [hcut, hstc', hsgv, hgtu, hpnc', hstc, if_pos hframe, hfinding, hpnc]
  refine ⟨rfl, by simp [ended, moved], by simp [ended, moved], by simpa using hpgs, by simpa using hssq, ?_⟩
  rw [hpgs, hssq]

/-- A walk cut after `z` stitches of no displacement, at the end of its command: the station `d` on the ground `e`, its
control record then `c`. -/
theorem walkCutAt_standsAt {e : Station} {z : Nat} {c : StationControl} (before : Station) (hground : SameGround d e)
    (hstate : c.state = .halted) (hframe : c.frameRole = true) (hmotion : c.motion = d.stc.motion)
    (hmore : (walkAfter e k z).stitch ≠ k.target) :
    let j := walkAfter e k z
    let pages := e.pgs.moveTo (motion e).retention d.ssq.stitch j.stitch
    let t := finish before (walkCutAt (walkAfter d k z) { standsAt d k z with stc := c })
    t.stc = c ∧ t.pgs = pages ∧ t.sht = d.sht ∧ t.prt = d.prt ∧ t.sgv = d.sgv ∧
    t.ssq = { d.ssq with
      stitch := j.stitch, px := j.px, py := j.py, walk := none
      slot := if decide (k.dir = .back) then d.ssq.slot else k.slot
      mark := if decide (k.dir = .back) then d.ssq.mark else k.mark
      report := { d.ssq.report with
        actual := if k.start ≤ j.stitch then j.stitch - k.start else k.start - j.stitch, outcome := .walkCut } } ∧
    t.pnc = { d.pnc with
      x := (hoopAt d k z).1, y := (hoopAt d k z).2, inPlace := if d.pnc.move = none then d.pnc.homed else d.pnc.inPlace
      finding := nextFinding e pages j.stitch j.px j.py } := by
  intro j pages t
  let x : Station := { standsAt d k z with stc := c }
  obtain ⟨hdir, hstart, htarget, hslot, hmark⟩ := walkAfter_kept e k z
  have ht : t = finish before (walkCutAt j x) := by simp only [t, hground.walkAfter]; rfl
  obtain ⟨hstc, hsgv, -, hpgs, hssq, hpnc⟩ := walkCutAt_halted (d := x) (k := j) hstate hframe (by rwa [htarget])
  obtain ⟨hpages, hx, hy, hfield⟩ := id hground
  have hkept : x.pgs.moveTo (motion x).retention x.ssq.stitch j.stitch = pages := by
    rw [motion_congr (e := x) (d := e) (hmotion.trans hfield), show x.pgs = e.pgs from hpages]
    rfl
  have hfinding : nextFinding x = nextFinding e :=
    nextFinding_congr (congrArg (·.header) hpages) ⟨hx, hy⟩ (hmotion.trans hfield)
  rw [hdir, hstart, hslot, hmark] at hssq
  rw [hkept] at hpgs hpnc
  rw [hfinding] at hpnc
  obtain ⟨-, -, -, hsht, hstc', hprt, hpgs', hssq', hpnc', hsgv', -⟩ := finish_frame before (walkCutAt j x)
  rw [ht]
  exact ⟨hstc'.trans hstc, hpgs'.trans hpgs, hsht.trans (by simp; rfl), hprt.trans (by simp; rfl), hsgv'.trans hsgv,
    hssq'.trans hssq, hpnc'.trans hpnc⟩

/-- A cut in HALTED leaves the governor and the gate as they are. -/
theorem walkCutAt_kept (h : d.stc.state = .halted) : (walkCutAt k d).sgv = d.sgv ∧ (walkCutAt k d).gtu = d.gtu := by
  unfold walkCutAt
  split
  · simp
  · obtain ⟨-, hsgv, hgtu, -⟩ := afterStitchChange_halted (d := walkEnds (cutReport k k.stitch
      ((moveStitch k.stitch d).setSsq { (moveStitch k.stitch d).ssq with px := k.px, py := k.py }))) (by simpa using h)
    simp only [hsgv, hgtu]
    simp

/-- And so does a walk that goes on, with the cut at the field's edge (R100). -/
theorem walkAdvance_kept (h : d.stc.state = .halted) :
    (walkAdvance fuel k d).sgv = d.sgv ∧ (walkAdvance fuel k d).gtu = d.gtu := by
  induction fuel generalizing k d with
  | zero => exact ⟨rfl, rfl⟩
  | succ fuel ih =>
    rw [walkAdvance]
    simp only
    split
    · rw [fault_still (.inr (.inr (.inl h)))]
      exact walkCutAt_kept (d := recorded _ d) h
    · (repeat' split)
      · exact ⟨rfl, rfl⟩
      · simp
      · simpa using ih (d := arrive _ _ (d.setSsq _)) (by simpa using h)
      · simp

end Sys2Proof.Walks

/-! ## MOVE_COMPLETE -/

namespace Sys2Proof.Walks

open Sys2Proof Sys2Proof.Machine Sys2Proof.StitchCycle

variable {d : Station} {k : Walk} {m : Move}

/-! ### The legs of a Pantograph Go (R105, R107) -/

/-- A leg of no displacement leaves the hoop as it is, in a field already judged (R94, R97). -/
theorem arrive_here (hmove : d.pnc.move = none) (hfield : d.pnc.homed = true → outsideField d (d.pnc.x, d.pnc.y) = none) :
    arrive d.pnc.x d.pnc.y d = d := by
  rw [arrive, judgeField_eq, ← hmove, if_neg ?_]
  · rfl
  · intro h
    obtain ⟨hhomed, hout⟩ := Bool.and_eq_true_iff.1 h
    have hin : (outsideField d (d.pnc.x, d.pnc.y)).isSome = true := hout
    rw [hfield hhomed] at hin
    cases hin

/-- The legs of a TRACE: those of no displacement are made at once, the next one starts, or the Go is over (R97, R107). -/
theorem traceLegs_eq (hmove : d.pnc.move = none) (hfield : d.pnc.homed = true → outsideField d (d.pnc.x, d.pnc.y) = none)
    (ts : List (Int × Int)) :
    (legsFrom (d.pnc.x, d.pnc.y) ts = [] → traceLegs ts d = { d with pnc := { d.pnc with go := none } }) ∧
    (∀ l ls, legsFrom (d.pnc.x, d.pnc.y) ts = l :: ls → traceLegs ts d = { d with pnc := { d.pnc with
      go := some (.trace ls), move := some (legStarted d l) } }) := by
  induction ts with
  | nil => exact ⟨fun _ => rfl, nofun⟩
  | cons t ts ih =>
    by_cases hhere : t = (d.pnc.x, d.pnc.y)
    · have hlegs : legsFrom (d.pnc.x, d.pnc.y) (t :: ts) = legsFrom (d.pnc.x, d.pnc.y) ts :=
        List.dropWhile_cons_of_pos (by simp [hhere])
      have htrace : traceLegs (t :: ts) d = traceLegs ts d := by
        rw [traceLegs, if_pos (by simp [hhere]), hhere, arrive_here hmove hfield]
      rw [hlegs, htrace]
      exact ih
    · have hlegs : legsFrom (d.pnc.x, d.pnc.y) (t :: ts) = t :: ts := List.dropWhile_cons_of_neg (by simpa using hhere)
      rw [hlegs]
      refine ⟨nofun, fun l ls hl => ?_⟩
      cases hl
      rw [traceLegs, if_neg (mt (fun h => Prod.ext h.1 h.2) hhere)]
      rfl

/-- The Gos of one move, and a TRACE at its last leg. -/
abbrev OneLeg (g : Option Go) : Prop := g = some .park ∨ g = some .absolute ∨ g = some .goReturn ∨ g = some (.trace [])

theorem goLegDone_of_oneLeg (h : OneLeg d.pnc.go) : goLegDone d = { d with pnc := { d.pnc with go := none } } := by
  rcases h with h | h | h | h <;> simp only [goLegDone, h] <;> rfl

/-! ### The completion, before the walk or the Go goes on (R97, R101) -/

/-- The hoop at the target of its move `m`, in-place as given (R94, R97). -/
def landed (m : Move) (b : Bool) (d : Station) : Station := { d with pnc := { d.pnc with
  x := m.toX, y := m.toY, move := none, waiting := none, after := .normal
  homed := d.pnc.homed && decide (outsideField d (m.toX, m.toY) = none), inPlace := b } }

/-- What the completion of `m` makes of in-place (R101, R109). -/
def placeAfter (m : Move) (d : Station) : Bool :=
  let inside := decide (outsideField d (m.toX, m.toY) = none)
  let homed := d.pnc.homed && inside
  let still := d.pnc.inPlace && (inside || !d.pnc.homed)
  match d.pnc.after, m.kind with
  | .judge, _ => homed && decide (m.toX = d.pnc.originX ∧ m.toY = d.pnc.originY)
  | .leave, _ => still
  | .normal, .stitch => if d.ssq.walk.isSome then still else homed
  | .normal, .go => if d.pnc.go = some .goReturn then homed else still
  | .normal, .walk => still

/-- A completion is handed on, with the hoop at its target, to the Go or to the walk (R97). -/
theorem completeMove_eq (hm : d.pnc.move = some m) : completeMove d =
    (if m.kind = .go then goLegDone else walkMoveDone) (landed m (placeAfter m d) d) := by
  have hplace : (completionInPlace d.pnc.after m.kind (arrive m.toX m.toY d)).setPnc
      { (completionInPlace d.pnc.after m.kind (arrive m.toX m.toY d)).pnc with after := .normal, waiting := none } =
      landed m (placeAfter m d) d := by
    rw [arrive_eq]
    unfold completionInPlace placeAfter
    cases d.pnc.after with
    | judge => simp [judgeInPlace, landed, Station.setPnc, Bool.and_assoc]
    | leave => rfl
    | normal =>
      cases m.kind with
      | walk => rfl
      | stitch => simp only; split <;> rfl
      | go => simp only; split <;> rfl
  unfold completeMove
  rw [hm]
  simp only [hplace]
  cases m.kind <;> rfl

theorem completeMove_of_oneLeg (hm : d.pnc.move = some m) (hkind : m.kind = .go) (hleg : OneLeg d.pnc.go) :
    completeMove d = { landed m (placeAfter m d) d with pnc := { (landed m (placeAfter m d) d).pnc with go := none } } := by
  rw [completeMove_eq hm, if_pos hkind, goLegDone_of_oneLeg (d := landed _ _ _) hleg]

theorem completeMove_of_no_walk (hm : d.pnc.move = some m) (hkind : m.kind ≠ .go) (hwalk : d.ssq.walk = none) :
    completeMove d = landed m (placeAfter m d) d := by
  rw [completeMove_eq hm, if_neg hkind, walkMoveDone]
  simp only [landed, hwalk]

theorem completeMove_of_trace {ts : List (Int × Int)} (hm : d.pnc.move = some m) (hkind : m.kind = .go)
    (hgo : d.pnc.go = some (.trace ts)) :
    let e := landed m (placeAfter m d) d
    (legsFrom (m.toX, m.toY) ts = [] → completeMove d = { e with pnc := { e.pnc with go := none } }) ∧
    (∀ l ls, legsFrom (m.toX, m.toY) ts = l :: ls → completeMove d = { e with pnc := { e.pnc with
      go := some (.trace ls), move := some (legStarted e l) } }) := by
  intro e
  have hfield : e.pnc.homed = true → outsideField e (m.toX, m.toY) = none := fun h => by
    have hinside : decide (outsideField d (m.toX, m.toY) = none) = true := (Bool.and_eq_true_iff.1 h).2
    exact (outsideField_congr rfl _).trans (of_decide_eq_true hinside)
  have htrace : goLegDone e = traceLegs ts e := by
    rw [goLegDone, show e.pnc.go = some (.trace ts) from hgo]
  rw [completeMove_eq hm, if_pos hkind, htrace]
  exact traceLegs_eq (d := e) rfl hfield ts

theorem completeMove_of_walk (hm : d.pnc.move = some m) (hkind : m.kind ≠ .go) (hk : d.ssq.walk = some k) :
    let e := landed m (placeAfter m d) d
    completeMove d = if k.stitch = k.target then walkEnds e else if k.cutPending then walkCutAt k e else walkOn k e := by
  rw [completeMove_eq hm, if_neg hkind, walkMoveDone]
  simp only [landed, hk]

/-- Settles O56: the hoop lands, then the Go or the walk goes on from there. -/
theorem moveCompletes : Obligations.MoveCompletes := by
  intro s hlive d c
  have hexec : exec c s = .next (closed s (completeMove d)) := exec_live hlive nofun nofun
  rw [hexec]
  refine ⟨fun hnone => by rw [completeMove, hnone], ?_⟩
  intro m hm inside homed there placed still atOrigin oneLeg
  have hgo : ∀ b, m.kind = .go → oneLeg → placeAfter m d = b → completeMove d = placed b none := by
    rintro b hkind hleg rfl
    exact completeMove_of_oneLeg hm hkind hleg
  have hstill : ∀ b, m.kind ≠ .go → d.ssq.walk = none → placeAfter m d = b → completeMove d = placed b d.pnc.go := by
    rintro b hkind hwalk rfl
    exact completeMove_of_no_walk hm hkind hwalk
  refine ⟨fun hafter => ⟨fun hkind hwalk => ?_, fun hkind hleg => ?_, ?_⟩,
    fun hafter hwalk => ⟨fun hkind => ?_, fun hkind hleg => ?_⟩,
    fun hafter hwalk => ⟨fun hkind => ?_, fun hkind hleg => ?_⟩, ?_⟩
  · rw [hstill homed (by simp [hkind]) hwalk (by simp only [placeAfter, hafter, hkind, hwalk]; rfl)]
  · rw [hgo (if d.pnc.go = some .goReturn then homed else still) hkind hleg (by simp only [placeAfter, hafter, hkind]; rfl)]
  · intro hkind ts hts legs
    have hplace : placeAfter m d = still := by simp only [placeAfter, hafter, hkind, hts]; rfl
    obtain ⟨hover, hleg⟩ := completeMove_of_trace hm hkind hts
    rw [hplace] at hover hleg
    exact ⟨fun hnil => by rw [hover hnil]; rfl, fun l ls hcons => by rw [hleg l ls hcons]; rfl⟩
  · rw [hstill atOrigin hkind hwalk (by simp only [placeAfter, hafter]; rfl)]
  · rw [hgo atOrigin hkind hleg (by simp only [placeAfter, hafter]; rfl)]
  · rw [hstill still hkind hwalk (by simp only [placeAfter, hafter]; rfl)]
  · rw [hgo still hkind hleg (by simp only [placeAfter, hafter]; rfl)]
  intro k hkind hafter hk back at_ stands ends cutAt
  have hground : SameGround there d := ⟨rfl, rfl, rfl, rfl⟩
  have hwalk : completeMove d =
      if k.stitch = k.target then walkEnds there else if k.cutPending then walkCutAt k there else walkOn k there := by
    have hplace : placeAfter m d = still := by
      rcases hkind with hkind | hkind <;> simp only [placeAfter, hafter, hkind, hk] <;> rfl
    have hdone := completeMove_of_walk hm (by rcases hkind with hkind | hkind <;> simp [hkind]) hk
    rw [hplace] at hdone
    exact hdone
  have hhoop : ∀ z, hoopAt there k z = at_ z := fun z => by
    simp only [hoopAt, hground.walkTarget]
    rfl
  have hstands : ∀ z, standsAt there k z = { stands z with ssq := { d.ssq with walk := some (walkAfter d k z) } } := fun z => by
    rw [standsAt, hhoop, hground.walkAfter]
    rfl
  have hcut : ∀ (z : Nat) (e : Station), e.stc.state = .halted → e.stc.frameRole = true → e.stc.motion = d.stc.motion →
      (walkAfter d k z).stitch ≠ k.target →
      cutAt z e (closed s (walkCutAt (walkAfter there k z) { standsAt there k z with stc := e.stc })) := by
    intro z e hhalted hframe hmotion hmore
    have hcutAt := walkCutAt_standsAt d hground hhalted hframe hmotion hmore
    rw [hhoop] at hcutAt
    exact ⟨rfl, hcutAt⟩
  rw [hwalk]
  refine ⟨fun hlast => ?_, fun hmore hpending hframe hhalted => ?_, ?_⟩
  · rw [if_pos hlast, walkEnds_of_no_move rfl]
    rfl
  · rw [if_neg hmore, if_pos hpending]
    have hthere : { standsAt there k 0 with stc := d.stc } = there := by rw [standsAt_zero (d := there) hk]
    exact ⟨_, rfl, hthere ▸ hcut 0 d hhalted hframe rfl hmore⟩
  · intro z hmore hpending htoward hpass j b next
    rw [if_neg hmore, if_neg (by simp [hpending])]
    obtain ⟨hends, hleaves, hmoves⟩ := walkOn_of_stands (d := there) hground htoward hmore hk rfl hpass
    refine ⟨fun hlast => ?_, fun axis hfar hout hframe hhalted => ?_, fun hfar hin htime => ?_⟩
    · rw [hends hlast, hstands, walkEnds_of_no_move rfl]
    · rw [hleaves axis hfar hout, fault_still (d := standsAt there k z) (.inr (.inr (.inl hhalted)))]
      exact ⟨_, rfl, hcut z (recorded (walkFault d k z axis) d) hhalted hframe rfl hfar⟩
    · have hmove : walkMove there k z = next := by
        rw [walkMove, hhoop, hground.walkTarget, hground.walkTime]
      rw [hmoves hfar hin htime, hstands, hmove]

end Sys2Proof.Walks

/-! ## BACK and FORWARD that begin a walk -/

namespace Sys2Proof.Walks

open Sys2Proof Sys2Proof.Machine Sys2Proof.StitchCycle Sys2Proof.StationStates Sys2Proof.PageRun

variable {d : Station} {k : Walk} {dir : WalkDir} {n asked a : Nat}

/-! ### The station before the walk's first move (R84) -/

/-- A Forward lands on a COLOR_STOP (R84). -/
def landsOnStop (dir : WalkDir) (n : Nat) (d : Station) : Bool :=
  decide (dir = .forward) && decide (∃ r ∈ d.pgs.read n, r.kind = .colorStop)

theorem landsOnStop_forward {r : StitchRecord} (h : d.pgs.read n = some r) :
    landsOnStop .forward n d = decide (r.kind = .colorStop) := by simp [landsOnStop, h]

/-- The record, the stitch number and the position of a walk to `n`, with the slot and mark of a COLOR_STOP (R84, steps 1
to 4). -/
theorem walkRecordMade_ssq (dir : WalkDir) (n : Nat) (d : Station) : (walkRecordMade dir n d).ssq = { (moveStitch n d).ssq with
    slot := if landsOnStop dir n d then ((d.pgs.read n).map (·.aux)).getD 0 else d.ssq.slot
    mark := if landsOnStop dir n d then n else d.ssq.mark
    walk := some (walkFrom dir n d) } := by
  unfold walkRecordMade
  cases dir with
  | back => rfl
  | forward =>
    cases hread : d.pgs.read n with
    | none =>
      have hland : landsOnStop .forward n d = false := by simp [landsOnStop, hread]
      rw [hland]
      rfl
    | some r =>
      rw [landsOnStop_forward hread]
      by_cases hr : r.kind = .colorStop
      · simp only [hr, decide_true, if_true]
        rfl
      · simp only [hr, decide_false, Bool.false_eq_true, if_false]
        rfl

/-- A walk begins in HALTED: from DONE the station goes there, where a frame station off top begins its creep (R84, R122); a
Status is due. -/
def inHalted (d : Station) : Station := { d with
  stc := { d.stc with state := .halted }
  sgv := (if d.stc.state = .done ∧ CreepDue d then creeps d else d).sgv
  sli := (causeStatus d).sli }

theorem inHalted_eq (hstate : d.stc.state = .halted ∨ d.stc.state = .done) :
    causeStatus (if d.stc.state = .done then enterHalted d else d) = inHalted d := by
  rcases hstate with h | h
  · have hne : ¬d.stc.state = .done := by simp [h]
    rw [if_neg hne, inHalted, if_neg (mt And.left hne), ← h]
    exact causeStatus_eq d
  · have hentered : enterHalted d = inHalted d := by
      rw [enterHalted, enterState_of_ne (by simp [h]), tryReposition_eq, inHalted]
      by_cases hc : CreepDue d
      · rw [if_pos hc, if_pos ⟨h, hc⟩]
        rfl
      · rw [if_neg hc, if_neg (mt And.right hc)]
    rw [if_pos h, hentered]
    exact (causeStatus_eq _).trans
      (congrArg (fun l => { inHalted d with sli := l }) (causeStatus_sli_twice (s := d) (e := inHalted d) rfl rfl rfl))

/-- A creep that is due rests on the roles, the shaft, the pins and the governor (R122). -/
theorem inHalted_sgv_congr {e : Station} (hstc : e.stc = d.stc) (hsht : e.sht = d.sht) (hpins : e.pins = d.pins)
    (hsgv : e.sgv = d.sgv) (hnow : e.now = d.now) : (inHalted e).sgv = (inHalted d).sgv := by
  have hdue : e.stc.state = .done ∧ CreepDue e ↔ d.stc.state = .done ∧ CreepDue d := by
    rw [CreepDue, CreepDue, hstc, hsht, hpins, hsgv]
  have hcreeps : (creeps e).sgv = (creeps d).sgv := by
    simp only [creeps, motion, hstc, hsgv, hnow]
  unfold inHalted
  by_cases h : d.stc.state = .done ∧ CreepDue d
  · rw [if_pos h, if_pos (hdue.2 h), hcreeps]
  · rw [if_neg h, if_neg (mt hdue.1 h), hsgv]

/-- The record, the report and the comparisons of a walk to `n` that begins (R84, R55). -/
def walkNoted (dir : WalkDir) (asked a n : Nat) (d : Station) : Station :=
  clearMismatches ((walkRecordMade dir n d).setSsq { (walkRecordMade dir n d).ssq with report := walkReportOf dir asked a })

/-- The station whose walk has begun, its first move not yet made (R84). -/
def walkBegun (dir : WalkDir) (asked a n : Nat) (d : Station) : Station :=
  afterStitchChange (inHalted (walkNoted dir asked a n d))

theorem walkNoted_frame (dir : WalkDir) (asked a n : Nat) (d : Station) :
    let r := walkNoted dir asked a n d
    r.stc = d.stc ∧ r.pnc = d.pnc ∧ r.sgv = d.sgv ∧ r.gtu = d.gtu ∧ r.now = d.now ∧ r.sht = d.sht ∧
      r.pins = d.pins ∧ r.hsc = d.hsc ∧ r.prt = d.prt.map (fun e => { e with mismatched := false }) := by
  simp [walkNoted, clearMismatches]

theorem walkBegin_eq (dir : WalkDir) (asked a n : Nat) (hstate : d.stc.state = .halted ∨ d.stc.state = .done) :
    walkBegin dir asked a n d = walkFirstMove (walkBegun dir asked a n d) := by
  obtain ⟨hstc, -⟩ := walkNoted_frame dir asked a n d
  rw [walkBegun, ← inHalted_eq (by rwa [hstc])]
  rfl

theorem walkBegun_fields (dir : WalkDir) (asked a n : Nat) (d : Station) :
    let b := walkBegun dir asked a n d
    let pages := d.pgs.moveTo (motion d).retention d.ssq.stitch n
    let q := (moveStitch n d).ssq
    b.pgs = pages ∧ b.stc = { d.stc with state := .halted } ∧
    b.ssq = {
      stitch := n, px := q.px, py := q.py, walk := some (walkFrom dir n d), report := walkReportOf dir asked a
      slot := if landsOnStop dir n d then ((d.pgs.read n).map (·.aux)).getD 0 else d.ssq.slot
      mark := if landsOnStop dir n d then n else d.ssq.mark } ∧
    b.pnc = (if d.stc.frameRole then { d.pnc with finding := nextFinding d pages n q.px q.py } else d.pnc) ∧
    b.prt = d.prt.map (fun e => { e with mismatched := false }) ∧
    b.sgv = (inHalted d).sgv ∧ b.gtu = d.gtu ∧
    b.now = d.now ∧ b.sht = d.sht ∧ b.pins = d.pins ∧ b.hsc.mark = d.hsc.mark := by
  intro b pages q
  let r := walkNoted dir asked a n d
  obtain ⟨hstc, hpnc, hsgv, hgtu, hnow, hsht, hpins, hhsc, hprt⟩ := walkNoted_frame dir asked a n d
  have hpgs : r.pgs = pages := (walkRecordMade_eq dir n d).1
  have hssq : r.ssq = {
      stitch := n, px := q.px, py := q.py, walk := some (walkFrom dir n d), report := walkReportOf dir asked a
      slot := if landsOnStop dir n d then ((d.pgs.read n).map (·.aux)).getD 0 else d.ssq.slot
      mark := if landsOnStop dir n d then n else d.ssq.mark } :=
    congrArg (fun x : Sequencer => { x with report := walkReportOf dir asked a }) (walkRecordMade_ssq dir n d)
  have hfinding : nextFinding (inHalted r) = nextFinding d :=
    nextFinding_congr (by rw [show (inHalted r).pgs = pages from hpgs, moveTo_header])
      (by rw [show (inHalted r).pnc = d.pnc from hpnc]; exact ⟨rfl, rfl⟩) (congrArg (·.motion) hstc)
  obtain ⟨hbstc, hbsgv, hbgtu, hbpnc⟩ := afterStitchChange_halted (d := inHalted r) rfl
  obtain ⟨-, hbnow, hbpins, hbsht, -, -, -, -, -, -, -, -, -, -, hbprt, hbpgs, hbssq, -, -, hbmark⟩ :=
    afterStitchChange_frame (inHalted r)
  refine ⟨hbpgs.trans hpgs, hbstc.trans ?_, hbssq.trans hssq, hbpnc.trans ?_, hbprt.trans hprt,
    hbsgv.trans (inHalted_sgv_congr hstc hsht hpins hsgv hnow), hbgtu.trans hgtu, hbnow.trans hnow, hbsht.trans hsht,
    hbpins.trans hpins, hbmark.trans ?_⟩
  · rw [← hstc]
    rfl
  · rw [hfinding]
    simp only [inHalted, hstc, hpnc, hpgs, hssq, r]
  · exact congrArg (·.mark) hhsc

/-! ### The walk's first move (R85) -/

theorem walkFirstMove_head (h : d.stc.frameRole = false) : walkFirstMove d = d := if_neg (by simp [h])

theorem walkFirstMove_unhomed (h : d.stc.frameRole = true) (hk : d.ssq.walk = some k) (hhomed : d.pnc.homed = false) :
    walkFirstMove d = { d with ssq := { d.ssq with walk := none }, pnc := { d.pnc with inPlace := false } } := by
  rw [walkFirstMove, if_pos h]
  simp only [Station.setPnc_ssq, hk, Station.setPnc_pnc, hhomed, Bool.false_eq_true, if_false]
  rfl

theorem walkFirstMove_homed (h : d.stc.frameRole = true) (hk : d.ssq.walk = some k) (hhomed : d.pnc.homed = true) :
    walkFirstMove d = walkOn k { d with pnc := { d.pnc with inPlace := false } } := by
  rw [walkFirstMove, if_pos h]
  simp only [Station.setPnc_ssq, hk, Station.setPnc_pnc, hhomed, if_true]
  rfl

theorem walkFirstMove_kept (h : d.stc.state = .halted) :
    (walkFirstMove d).sgv = d.sgv ∧ (walkFirstMove d).gtu = d.gtu := by
  unfold walkFirstMove
  split
  · simp only
    split
    · split
      · exact walkAdvance_kept (d := d.setPnc _) h
      · exact ⟨rfl, rfl⟩
    · exact ⟨rfl, rfl⟩
  · exact ⟨rfl, rfl⟩

/-! ### The moves of a homed frame station (R85, R96, R100) -/

/-- A homed frame station before the moves of its walk: in-place is cleared (R96). -/
def walkReady (dir : WalkDir) (asked a n : Nat) (d : Station) : Station :=
  { walkBegun dir asked a n d with pnc := { (walkBegun dir asked a n d).pnc with inPlace := false } }

/-- The station with the pages at the walk's target. -/
def atTarget (n : Nat) (d : Station) : Station := { d with pgs := d.pgs.moveTo (motion d).retention d.ssq.stitch n }

theorem walkReady_pnc (dir : WalkDir) (asked a n : Nat) (hframe : d.stc.frameRole = true) :
    (walkReady dir asked a n d).pnc = { d.pnc with
      inPlace := false
      finding := nextFinding d (atTarget n d).pgs n (moveStitch n d).ssq.px (moveStitch n d).ssq.py } := by
  obtain ⟨-, -, -, hpnc, -⟩ := walkBegun_fields dir asked a n d
  exact congrArg (fun x : Pantograph => { x with inPlace := false }) (hpnc.trans (if_pos hframe))

theorem sameGround_walkReady (dir : WalkDir) (asked a n : Nat) (hframe : d.stc.frameRole = true) :
    SameGround (walkReady dir asked a n d) (atTarget n d) := by
  obtain ⟨hpgs, hstc, -⟩ := walkBegun_fields dir asked a n d
  have hpnc := walkReady_pnc dir asked a n hframe
  exact ⟨hpgs, congrArg (·.originX) hpnc, congrArg (·.originY) hpnc, congrArg (·.motion) hstc⟩

theorem walkReady_hoopAt (dir : WalkDir) (asked a n : Nat) (hframe : d.stc.frameRole = true) (k : Walk) (z : Nat) :
    hoopAt (walkReady dir asked a n d) k z = hoopAt (atTarget n d) k z := by
  rw [hoopAt, hoopAt, (sameGround_walkReady dir asked a n hframe).walkTarget, walkReady_pnc dir asked a n hframe]
  rfl

theorem walkReady_walk (dir : WalkDir) (asked a n : Nat) (d : Station) :
    (walkReady dir asked a n d).ssq.walk = some (walkFrom dir n d) := by
  obtain ⟨-, -, hssq, -⟩ := walkBegun_fields dir asked a n d
  exact congrArg (·.walk) hssq

/-- The moves of a homed frame station's walk start from there (R85). -/
theorem walkFirstMove_walkBegun (hframe : d.stc.frameRole = true) (hhomed : d.pnc.homed = true) :
    walkFirstMove (walkBegun dir asked a n d) = walkOn (walkFrom dir n d) (walkReady dir asked a n d) := by
  obtain ⟨-, hstc, hssq, hpnc, -⟩ := walkBegun_fields dir asked a n d
  refine walkFirstMove_homed ((congrArg (·.frameRole) hstc).trans hframe) (congrArg (·.walk) hssq) ?_
  exact (congrArg (·.homed) (hpnc.trans (if_pos hframe))).trans hhomed

/-- A walk of at least one stitch has its target ahead. -/
theorem walkFrom_toward (ha : 1 ≤ a)
    (hrange : (dir = .back ∧ n + a = d.ssq.stitch) ∨ (dir = .forward ∧ d.ssq.stitch + a = n)) :
    Toward (walkFrom dir n d) ∧ (walkFrom dir n d).stitch ≠ (walkFrom dir n d).target := by
  rcases hrange with ⟨hdir, hsum⟩ | ⟨hdir, hsum⟩
  · exact ⟨.inl ⟨hdir, (by omega : n ≤ d.ssq.stitch)⟩, (by omega : d.ssq.stitch ≠ n)⟩
  · exact ⟨.inr ⟨hdir, (by omega : d.ssq.stitch ≤ n)⟩, (by omega : d.ssq.stitch ≠ n)⟩

/-- A walk cut in the event that begins it, after `z` stitches of no displacement (R87, R100). -/
theorem walkReady_cut {z : Nat} (before : Station) (axis : Axis) (hframe : d.stc.frameRole = true) (hhomed : d.pnc.homed = true)
    (htoward : Toward (walkFrom dir n d)) (hstands : Stands (atTarget n d) (walkFrom dir n d) z)
    (hmore : (walkAfter (atTarget n d) (walkFrom dir n d) z).stitch ≠ n) :
    let k := walkFrom dir n d
    let e := atTarget n d
    let f := walkReady dir asked a n d
    let j := walkAfter e k z
    let kept := e.pgs.moveTo (motion d).retention n j.stitch
    let t := finish before (walkCutAt (walkAfter f k z) (fault (walkFault e k z axis) (standsAt f k z)))
    t.pgs = kept ∧ t.stc = { (recorded (walkFault e k z axis) d).stc with state := .halted } ∧
    t.ssq = { stitch := j.stitch, px := j.px, py := j.py, slot := d.ssq.slot, mark := d.ssq.mark, walk := none
              report := { walkReportOf dir asked a with actual := z, outcome := .walkCut } } ∧
    t.pnc = { d.pnc with x := (hoopAt e k z).1, y := (hoopAt e k z).2, inPlace := decide (d.pnc.move = none)
                         finding := nextFinding d kept j.stitch j.px j.py } := by
  intro k e f j kept t
  obtain ⟨hpgs, hstc, hssq, -⟩ := walkBegun_fields dir asked a n d
  have hpnc : f.pnc = { d.pnc with
      inPlace := false
      finding := nextFinding d e.pgs n (moveStitch n d).ssq.px (moveStitch n d).ssq.py } := walkReady_pnc dir asked a n hframe
  have hground : SameGround f e := sameGround_walkReady dir asked a n hframe
  have hhalted : f.stc.state = .halted := congrArg (·.state) hstc
  have hfault : fault (walkFault e k z axis) (standsAt f k z) =
      { standsAt f k z with stc := (recorded (walkFault e k z axis) f).stc } :=
    fault_still (d := standsAt f k z) (.inr (.inr (.inl hhalted)))
  have hframe' : f.stc.frameRole = true := (congrArg (·.frameRole) hstc).trans hframe
  obtain ⟨hcstc, hcpgs, -, -, -, hcssq, hcpnc⟩ := walkCutAt_standsAt (d := f) (k := k)
    (c := (recorded (walkFault e k z axis) f).stc) before hground hhalted hframe' rfl hmore
  have hcontrol : f.stc = { d.stc with state := .halted } := hstc
  have hnoted : f.ssq = {
      stitch := n, px := (moveStitch n d).ssq.px, py := (moveStitch n d).ssq.py, walk := some k
      report := walkReportOf dir asked a
      slot := if landsOnStop dir n d then ((d.pgs.read n).map (·.aux)).getD 0 else d.ssq.slot
      mark := if landsOnStop dir n d then n else d.ssq.mark } := hssq
  have hstitch : f.ssq.stitch = n := congrArg (·.stitch) hnoted
  have hfinding : nextFinding e = nextFinding d := nextFinding_congr (moveTo_header _ _ _ _) ⟨rfl, rfl⟩ rfl
  have hpassed : (if k.start ≤ j.stitch then j.stitch - k.start else k.start - j.stitch) = z := htoward.passed e hstands
  have hback : decide (k.dir = .back) = true → landsOnStop dir n d = false := fun h => by
    have hdir : dir = .back := of_decide_eq_true h
    rw [hdir]
    rfl
  have hplace : (if f.pnc.move = none then f.pnc.homed else f.pnc.inPlace) = decide (d.pnc.move = none) := by
    rw [hpnc, hhomed]
    cases d.pnc.move <;> rfl
  rw [hstitch] at hcpgs hcpnc
  simp only [t, hfault]
  refine ⟨hcpgs, hcstc.trans ?_, hcssq.trans ?_, hcpnc.trans ?_⟩
  · rw [recorded, hcontrol]
    rfl
  · rw [hnoted, hpassed]
    by_cases hdir : decide (k.dir = .back) = true
    · rw [if_pos hdir, if_pos hdir, hback hdir]
      rfl
    · rw [if_neg hdir, if_neg hdir]
      rfl
  · rw [hplace, hfinding, walkReady_hoopAt dir asked a n hframe k z, hpnc]
    rfl

/-! ### The owners' parts, and the obligation -/

/-- The design position follows a Back by the records it leaves, a Forward by those it enters (R84). -/
theorem moveStitch_position (ha : 1 ≤ a) :
    (a ≤ d.ssq.stitch → (moveStitch (d.ssq.stitch - a) d).ssq.px = d.ssq.px + -(d.pgs.displacement (d.ssq.stitch - a) a).1 ∧
      (moveStitch (d.ssq.stitch - a) d).ssq.py = d.ssq.py + -(d.pgs.displacement (d.ssq.stitch - a) a).2) ∧
    (moveStitch (d.ssq.stitch + a) d).ssq.px = d.ssq.px + (d.pgs.displacement d.ssq.stitch a).1 ∧
      (moveStitch (d.ssq.stitch + a) d).ssq.py = d.ssq.py + (d.pgs.displacement d.ssq.stitch a).2 := by
  refine ⟨fun hle => ?_, ?_⟩
  · rw [moveStitch, if_neg (by omega), Nat.sub_sub_self hle]
    exact ⟨rfl, rfl⟩
  · rw [moveStitch, if_pos (by omega), Nat.add_sub_cancel_left]
    exact ⟨rfl, rfl⟩

theorem walkBusy_of_free (hidle : d.ssq.walk = none) (hgo : d.stc.frameRole = true → d.pnc.go = none) : walkBusy d = false := by
  refine Bool.eq_false_iff.2 fun hbusy => ?_
  rcases (walkBusy_iff d).1 hbusy with h | ⟨hframe, h⟩
  · simp [hidle] at h
  · simp [hgo hframe] at h

/-- A Back that passes the checks and reaches a stitch begins its walk (R82). -/
theorem exec_back_begins {src : Addr} {p : Payload} {s : State} (hlive : Live s) (htaken : Taken (.back src p) s.dev)
    (hfree : walkBusy s.dev = false) (hcount : 1 ≤ backCount s.dev (countOf p)) :
    exec (.back src p) s = .next (closed s (walkFirstMove (walkBegun .back (countOf p) (backCount s.dev (countOf p))
      (s.dev.ssq.stitch - backCount s.dev (countOf p)) s.dev))) := by
  have hsome : countOf p ≠ 0 := fun h => by simp [backCount, h] at hcount
  have hstate := state_of_back_taken (x := p) (src := src) (lenOk := p.length == 4) htaken
  rw [exec_notice hlive rfl rfl htaken (owner := backOwner p), backOwner, ← walkBegin_eq _ _ _ _ hstate]
  simp only [hfree, Bool.false_eq_true, if_false, if_neg hsome, if_neg (Nat.one_le_iff_ne_zero.1 hcount)]

/-- A Forward that passes the checks and reaches a stitch begins its walk (R83). -/
theorem exec_forward_begins {src : Addr} {p : Payload} {s : State} (hlive : Live s) (htaken : Taken (.forward src p) s.dev)
    (hfree : walkBusy s.dev = false) (hcount : 1 ≤ Machine.forwardCount s.dev (countOf p)) :
    exec (.forward src p) s = .next (closed s (walkFirstMove (walkBegun .forward (countOf p)
      (Machine.forwardCount s.dev (countOf p)) (s.dev.ssq.stitch + Machine.forwardCount s.dev (countOf p)) s.dev))) := by
  have hsome : countOf p ≠ 0 := fun h => by simp [Machine.forwardCount, h] at hcount
  have hstate := state_of_forward_taken (x := p) (src := src) (lenOk := p.length == 4) htaken
  rw [exec_notice hlive rfl rfl htaken (owner := forwardOwner p), forwardOwner, ← walkBegin_eq _ _ _ _ (.inl hstate)]
  simp only [hfree, Bool.false_eq_true, if_false, if_neg hsome, if_neg (Nat.one_le_iff_ne_zero.1 hcount)]

/-- Settles O43: the walk is noted, then the hoop makes its moves from the start. -/
theorem walkBegins : Obligations.WalkBegins := by
  intro src p dir s hlive d c a n sum px py stop aux k pages e at_ found shown first htaken hidle hgo hcount
  have hfree : walkBusy d = false := walkBusy_of_free hidle hgo
  have hexec : exec c s = .next (closed s (walkFirstMove (walkBegun dir (countOf p) a n d))) := by
    cases dir with
    | back => exact exec_back_begins hlive htaken hfree hcount
    | forward => exact exec_forward_begins hlive htaken hfree hcount
  have hrange : (dir = .back ∧ n + a = d.ssq.stitch) ∨ (dir = .forward ∧ d.ssq.stitch + a = n) := by
    cases dir with
    | back => exact .inl ⟨rfl, Nat.sub_add_cancel ((Nat.min_le_right _ _).trans (Nat.sub_le _ _))⟩
    | forward => exact .inr ⟨rfl, rfl⟩
  obtain ⟨hpx, hpy⟩ : (moveStitch n d).ssq.px = px ∧ (moveStitch n d).ssq.py = py := by
    obtain ⟨hback, hforward⟩ := moveStitch_position (d := d) hcount
    cases dir with
    | back => exact hback ((Nat.min_le_right _ _).trans (Nat.sub_le _ _))
    | forward => exact hforward
  have haux : ((d.pgs.read n).map (·.aux)).getD 0 = aux := by
    simp only [aux]
    cases d.pgs.read n <;> rfl
  let b := walkBegun dir (countOf p) a n d
  obtain ⟨hpgs, hstc, hssq, hpnc, hprt, hsgv, hgtu, hnow, hsht, hpins, hmark⟩ := walkBegun_fields dir (countOf p) a n d
  rw [hpx, hpy, haux] at hssq
  rw [hpx, hpy] at hpnc
  obtain ⟨hsgv', hgtu'⟩ := walkFirstMove_kept (d := b) (congrArg (·.state) hstc)
  refine ⟨closed s (walkFirstMove b), hexec, rfl, ?_, ?_, ?_, ?_, ?_, ?_, ?_⟩
  · simpa [closed] using hprt
  · simpa [closed] using hsht
  · simpa [closed] using hpins
  · simpa [closed] using hmark
  · rw [closed, finish_dwellCount, hgtu', hgtu]
  · have hcreeps : (walkFirstMove b).sgv = (if d.stc.state = .done ∧ CreepDue d then creeps d else d).sgv := hsgv'.trans hsgv
    simpa [closed] using hcreeps
  intro begun cut
  have hbegun : ∀ (w : Option Walk) (x : Station), walkFirstMove b = x → x.pgs = b.pgs → x.stc = b.stc →
      x.ssq = { b.ssq with walk := w } → begun w ∧ (closed s (walkFirstMove b)).dev.pnc = x.pnc := by
    intro w x hx hxpgs hxstc hxssq
    simp only [begun, closed, finish_frame, hx]
    exact ⟨⟨hxpgs.trans hpgs, hxstc.trans hstc, hxssq.trans (by rw [hssq]; rfl)⟩, trivial⟩
  have hrole : b.stc.frameRole = d.stc.frameRole := congrArg (·.frameRole) hstc
  have hwalk : b.ssq = { b.ssq with walk := some k } := by
    rw [hssq]
    rfl
  let f := walkReady dir (countOf p) a n d
  have hnoted : f.ssq.walk = some k := walkReady_walk dir (countOf p) a n d
  obtain ⟨htoward, hfar⟩ : Toward k ∧ k.stitch ≠ k.target := walkFrom_toward hcount hrange
  have hfirst : d.stc.frameRole = true → d.pnc.homed = true → walkFirstMove b = walkOn k f := walkFirstMove_walkBegun
  have hready : d.stc.frameRole = true → f.pnc = { d.pnc with inPlace := false, finding := found } := fun hframe =>
    (walkReady_pnc dir (countOf p) a n hframe).trans (by rw [hpx, hpy]; rfl)
  have hground : d.stc.frameRole = true → SameGround f e := sameGround_walkReady dir (countOf p) a n
  have hcut : ∀ z axis, d.stc.frameRole = true → d.pnc.homed = true → Stands e k z → (walkAfter e k z).stitch ≠ n →
      walkOn k f = walkCutAt (walkAfter f k z) (fault (walkFault e k z axis) (standsAt f k z)) → cut z axis := by
    intro z axis hframe hhomed hstands hmore hcuts
    have hcutAt := walkReady_cut (asked := countOf p) (a := a) d axis hframe hhomed htoward hstands hmore
    simp only [cut, closed, hfirst hframe hhomed, hcuts]
    exact hcutAt
  refine ⟨fun hhead => ?_, fun hframe hhomed => ?_, fun hframe hhomed hmove => ?_, fun z hframe hhomed hmove hstands => ?_⟩
  · obtain ⟨hwalks, hkeeps⟩ := hbegun (some k) b (walkFirstMove_head (hrole.trans hhead)) rfl rfl hwalk
    exact ⟨hwalks, hkeeps.trans (hpnc.trans (if_neg (by simp [hhead])))⟩
  · have hframed := hpnc.trans (if_pos hframe)
    obtain ⟨hwalks, hkeeps⟩ := hbegun none _ (walkFirstMove_unhomed (hrole.trans hframe) (congrArg (·.walk) hssq)
      ((congrArg (·.homed) hframed).trans hhomed)) rfl rfl rfl
    exact ⟨hwalks, hkeeps.trans (congrArg (fun x : Pantograph => { x with inPlace := false }) hframed)⟩
  · have hground := hground hframe
    obtain ⟨hleaves, hwaits, -⟩ := walkOn_cases htoward hfar f
    rw [hground.walkTarget, hground.outsideField] at hleaves hwaits
    refine ⟨fun hin => ?_, fun axis hout => ?_⟩
    · have hmove' : f.pnc.move ≠ none := by rwa [hready hframe]
      obtain ⟨hwalks, hkeeps⟩ := hbegun (some k) _ ((hfirst hframe hhomed).trans (hwaits hin hmove')) rfl rfl hwalk
      refine ⟨hwalks, hkeeps.trans ?_⟩
      rw [hground.walkTime, hready hframe]
    · refine hcut 0 axis hframe hhomed (fun i hi => absurd hi (Nat.not_lt_zero i)) hfar ?_
      rw [hleaves axis hout, standsAt_zero hnoted, hground.walkFault]
      rfl
  · have hground := hground hframe
    intro j next
    have hstanding : f.pnc.move = none := (congrArg (·.move) (hready hframe)).trans hmove
    obtain ⟨hends, hleaves, hmoves⟩ := walkOn_of_stands hground htoward hfar hnoted hstanding hstands
    have hhoop : hoopAt f k z = at_ z := walkReady_hoopAt dir (countOf p) a n hframe k z
    have hthere : (standsAt f k z).pnc =
        { d.pnc with x := (at_ z).1, y := (at_ z).2, inPlace := false, finding := found } := by
      rw [standsAt, hoopTo, hhoop, hready hframe]
    have hstarts : walkMove f k z = { kind := .walk, fromX := (at_ z).1, fromY := (at_ z).2, toX := next.1, toY := next.2
                                      treq := walkTime e k z, started := d.now, atWOpen := false } := by
      rw [walkMove, hhoop, hground.walkTarget, hground.walkTime]
      exact congrArg (fun t : Nat => (⟨.walk, (at_ z).1, (at_ z).2, next.1, next.2, walkTime e k z, t, false⟩ : Move)) hnow
    refine ⟨fun hlast => ?_, fun axis hmore hout => ?_, fun hmore hin htime => ?_⟩
    · have hends' := (hends hlast).trans (walkEnds_of_no_move (d := standsAt f k z) hstanding)
      obtain ⟨hwalks, hkeeps⟩ := hbegun none _ ((hfirst hframe hhomed).trans hends') rfl rfl rfl
      refine ⟨hwalks, hkeeps.trans ?_⟩
      rw [hthere]
      simp only [hhomed]
    · exact hcut z axis hframe hhomed hstands hmore (hleaves axis hmore hout)
    · obtain ⟨hwalks, hkeeps⟩ := hbegun _ _ ((hfirst hframe hhomed).trans (hmoves hmore hin htime)) rfl rfl rfl
      refine ⟨hwalks, hkeeps.trans ?_⟩
      rw [hthere, hstarts]

end Sys2Proof.Walks

/-! ## A homed pantograph stands in the field: the shared operations -/

namespace Sys2Proof.Machine

open Sys2Proof Sys2Proof.StitchCycle

variable {d e : Station}

/-- What the law reads: the field in force, the position, homed and in-place. -/
theorem FieldLaw.same (h : FieldLaw d) (hsame : e.stc.motion = d.stc.motion ∧ e.pnc.homed = d.pnc.homed ∧
    e.pnc.inPlace = d.pnc.inPlace ∧ e.pnc.x = d.pnc.x ∧ e.pnc.y = d.pnc.y) : FieldLaw e := by
  obtain ⟨hmotion, hhomed, hplace, hx, hy⟩ := hsame
  rw [FieldLaw, outsideField, motion, hmotion, hhomed, hplace, hx, hy]
  exact h

/-- A pantograph that is not homed is not in place either, and may stand anywhere (R94, R101). -/
theorem fieldLaw_of_unhomed (hhomed : e.pnc.homed = false) (hplace : e.pnc.inPlace = false) : FieldLaw e :=
  ⟨fun h => absurd (hhomed.symm.trans h) nofun, fun h => absurd (hplace.symm.trans h) nofun⟩

/-! ### Judging the position, arriving, starting a move (R94, R97, R101, R109) -/

/-- Once the position is judged against the field, the law holds of every pantograph that is in place only while homed. -/
theorem fieldLaw_judgeField (hplace : d.pnc.inPlace = true → d.pnc.homed = true) : FieldLaw (judgeField d) := by
  rw [judgeField_eq]
  split
  · exact fieldLaw_of_unhomed rfl rfl
  next hin =>
    refine ⟨fun hhomed => ?_, hplace⟩
    have hhomed' : d.pnc.homed = true := hhomed
    simpa [hhomed'] using hin

theorem FieldLaw.arrive (h : FieldLaw d) (x y : Int) : FieldLaw (arrive x y d) :=
  fieldLaw_judgeField (d := d.setPnc { d.pnc with x := x, y := y, move := none }) h.2

theorem FieldLaw.setInPlace (h : FieldLaw d) : FieldLaw (setInPlace d) := ⟨h.1, id⟩

theorem FieldLaw.judgeInPlace (h : FieldLaw d) : FieldLaw (judgeInPlace d) := by
  refine ⟨h.1, fun hplace => ?_⟩
  obtain ⟨hleft, -⟩ := Bool.and_eq_true_iff.1 hplace
  obtain ⟨hhomed, -⟩ := Bool.and_eq_true_iff.1 hleft
  exact hhomed

/-- In-place is cleared by what sends the hoop away (R101). -/
theorem FieldLaw.leaves (h : FieldLaw d) {q : Pantograph} (hhoop : q.homed = d.pnc.homed ∧ q.x = d.pnc.x ∧ q.y = d.pnc.y)
    (hplace : q.inPlace = false) : FieldLaw (d.setPnc q) := by
  obtain ⟨hhomed, hx, hy⟩ := hhoop
  refine ⟨fun hq => ?_, fun hq => absurd (hplace.symm.trans hq) nofun⟩
  rw [Station.setPnc_pnc, hx, hy]
  exact h.1 (hhomed.symm.trans hq)

theorem FieldLaw.startPending (h : FieldLaw d) (atWOpen : Bool) : FieldLaw (startPending atWOpen d) := by
  have hleaves := h.leaves (q := { d.pnc with pending := none, inPlace := false }) ⟨rfl, rfl, rfl⟩ rfl
  unfold Machine.startPending
  simp only
  (repeat' split)
  · exact (hleaves.arrive _ _).setInPlace
  · exact hleaves
  · exact h

/-! ### Arming, halting (R32 to R36, R95) -/

theorem FieldLaw.armField (h : FieldLaw d) : FieldLaw (whileArmed armField d) := by
  unfold whileArmed Machine.armField
  (repeat' split)
  · exact h.same (by simp)
  · exact h
  · exact h

theorem FieldLaw.enterArmed (h : FieldLaw d) (former : Former) : FieldLaw (enterArmed former d) := by
  have hblocks : ∀ e, FieldLaw e → FieldLaw (whileArmed armedHeadCheck (whileArmed armDrive (whileArmed Machine.armField
      (whileArmed armCase (whileArmed armPeers e))))) := by
    intro e he
    have hcase : FieldLaw (whileArmed armCase (whileArmed armPeers e)) := he.same (by simp)
    exact hcase.armField.same (by simp)
  rw [Machine.enterArmed]
  refine hblocks _ (h.same ?_)
  split <;> simp

theorem FieldLaw.leaveHalting (h : FieldLaw d) : FieldLaw (leaveHalting d) := by
  have hdropped : FieldLaw (dropDecision d) := h.same (by simp)
  unfold Machine.leaveHalting
  simp only
  (repeat' split)
  · exact hdropped.same (by simp)
  · exact hdropped.enterArmed _
  · exact hdropped.same (by simp)

theorem FieldLaw.enterHalting (h : FieldLaw d) (reason : HaltReason) : FieldLaw (enterHalting reason d) := by
  have hrest : ∀ e, FieldLaw e → FieldLaw (if e.sht.atRest then Machine.leaveHalting (Machine.startPending false e) else e) := by
    intro e he
    split
    · exact (he.startPending false).leaveHalting
    · exact he
  rw [Machine.enterHalting]
  exact hrest _ (h.same (by simp))

theorem FieldLaw.haltCause (h : FieldLaw d) (reason : HaltReason) : FieldLaw (haltCause reason d) := by
  unfold Machine.haltCause
  (repeat' split)
  · exact h.enterHalting _
  · exact h.same (by simp)
  all_goals exact h

/-! ### Fault records, head faults, findings (R37, R95, R161, R162) -/

theorem FieldLaw.fault (h : FieldLaw d) (fr : FaultRecord) : FieldLaw (fault fr d) :=
  (h.same (e := addRecord fr d) (by simp)).haltCause _

theorem FieldLaw.headCheck (h : FieldLaw d) : FieldLaw (headCheck d) := by
  unfold Machine.headCheck
  (repeat' split)
  · exact h.enterHalting _
  · exact h.same (by simp)
  all_goals exact h

theorem FieldLaw.headFault (h : FieldLaw d) (fr : FaultRecord) : FieldLaw (headFault fr d) := by
  unfold Machine.headFault
  (repeat' split)
  · exact (h.same (by simp)).headCheck
  · exact h.same (by simp)
  · exact h.fault fr

theorem FieldLaw.writeDeferred (h : FieldLaw d) : FieldLaw (writeDeferred d) := by
  unfold Machine.writeDeferred
  (repeat' split)
  · exact (h.same (by simp)).fault _
  · exact h
  · exact h

theorem FieldLaw.recomputeFinding (h : FieldLaw d) : FieldLaw (recomputeFinding d) := by
  unfold Machine.recomputeFinding
  simp only
  (repeat' split)
  · exact h
  · exact (h.same (by simp)).fault _
  all_goals exact h

theorem FieldLaw.afterStitchChange (h : FieldLaw d) : FieldLaw (afterStitchChange d) := by
  unfold Machine.afterStitchChange
  split
  · exact (h.same (by simp)).recomputeFinding
  · exact h.recomputeFinding

/-! ### Re-positioning, rest, the rest commit (R5, R18, R95, R122 to R125) -/

theorem FieldLaw.creepOffTop (h : FieldLaw d) : FieldLaw (creepOffTop d) := by
  unfold Machine.creepOffTop shaftPosition
  (repeat' split)
  · exact h
  · exact (h.same (by simp)).fault _
  · exact h

theorem FieldLaw.creepAtRest (h : FieldLaw d) : FieldLaw (creepAtRest d) := by
  have hstopped : FieldLaw (governorStop d) := h
  unfold Machine.creepAtRest
  simp only
  (repeat' split)
  · exact h
  · exact hstopped.creepOffTop.same (by simp)
  · exact hstopped.creepOffTop
  · exact h

theorem FieldLaw.tryRestCommit (h : FieldLaw d) : FieldLaw (tryRestCommit d) := by
  have hpeer : ∀ e, FieldLaw e → FieldLaw (runPeerCheck e) := by
    intro e he
    unfold runPeerCheck
    split
    · exact he.enterHalting _
    · exact he
  have hhead : ∀ e, FieldLaw e → FieldLaw (runHeadCheck e) := by
    intro e he
    unfold runHeadCheck
    split
    · exact he.headCheck
    · exact he
  unfold Machine.tryRestCommit restCommit
  split
  · refine hhead _ (hpeer _ (h.same ?_))
    split <;> simp
  · exact h

theorem FieldLaw.comeToRest (h : FieldLaw d) : FieldLaw (comeToRest d) := by
  have hpantograph : ∀ e, FieldLaw e → FieldLaw (pantographAtRest e) := by
    intro e he
    unfold pantographAtRest
    simp only
    split
    · exact he.writeDeferred
    · exact he.writeDeferred.startPending false
  have hgovernor : ∀ q e, FieldLaw e → FieldLaw (governorAtRest q e) := by
    intro q e he
    unfold governorAtRest
    (repeat' split)
    · exact he
    · exact he.creepAtRest
    all_goals exact he.same (by simp)
  have hcommit : ∀ e, FieldLaw e → FieldLaw (commitAtRest e) := by
    intro e he
    unfold commitAtRest
    split
    · exact (he.same (by simp)).tryRestCommit
    · exact he
  have hrest : ∀ q e, FieldLaw e → FieldLaw (commitAtRest (governorAtRest q (pantographAtRest (caseAtRest e)))) :=
    fun q e he => hcommit _ (hgovernor q _ (hpantograph _ (he.same (by simp))))
  have hjudged : FieldLaw (abandonPenetration (knifeOff (dropDecision (judgeRest d)))) := h
  unfold Machine.comeToRest
  split
  · exact h
  · refine hrest _ _ ?_
    split
    · exact hjudged.leaveHalting
    · exact hjudged

end Sys2Proof.Machine

/-! ## A homed pantograph stands in the field: the events -/

namespace Sys2Proof.Machine

open Sys2Proof Sys2Proof.StitchCycle

variable {d e : Station}

/-! ### The Thread Monitor and the angle events (R7, R14 to R17, R98, R99, R140 to R148) -/

theorem FieldLaw.closePenetration (h : FieldLaw d) : FieldLaw (closePenetration d) := by
  have hbreak : ∀ p e, FieldLaw e → FieldLaw (threadBreak p e) := fun p e he => (he.same (by simp)).headFault _
  have hsample : ∀ p e, FieldLaw e → FieldLaw (takeSample p e) := by
    intro p e he
    unfold takeSample judgeTension
    simp only
    (repeat' split)
    · exact (he.same (by simp)).headFault _
    · exact he
    · exact he
  unfold Machine.closePenetration
  simp only
  (repeat' split)
  · exact h
  · exact hsample _ _ (hbreak _ _ h)
  · exact hsample _ _ h
  · exact hbreak _ _ h
  · exact h

theorem FieldLaw.eventM (h : FieldLaw d) : FieldLaw (eventM d) := by
  have hveto : ∀ e, FieldLaw e → FieldLaw (requestVeto e) := fun _ he => he
  unfold Machine.eventM
  (repeat' split)
  · exact hveto _ (h.fault _)
  · exact h
  · exact h

theorem FieldLaw.eventH (h : FieldLaw d) : FieldLaw (eventH d) := by
  have hveto : ∀ e, FieldLaw e → FieldLaw (vetoTaken e) := by
    intro e he
    have hheld : FieldLaw (withholdPenetration e) := he.same (by simp)
    unfold vetoTaken
    simp only
    split
    · exact hheld.fault _
    · exact hheld.haltCause _
  have hsample : FieldLaw (sampleH d) := by
    unfold sampleH
    simp only
    (repeat' split)
    · exact h
    · exact hveto _ h
    · exact h
  exact hsample.writeDeferred

theorem FieldLaw.commit (h : FieldLaw d) : FieldLaw (commit d) := by
  have hframe : ∀ r e, FieldLaw e → FieldLaw (commitFrame r e) := by
    intro r e he
    unfold commitFrame
    split
    · exact FieldLaw.recomputeFinding (he.same (by simp [commitMove]))
    · exact he
  have hstop : ∀ r e, FieldLaw e → FieldLaw (plannedStop r e) := by
    intro r e he
    unfold plannedStop
    split
    · exact he.haltCause _
    · exact he.haltCause _
    all_goals exact he
  have hhead : ∀ n fr e, FieldLaw e → FieldLaw (commitHead n fr e) := fun _ _ _ he => he.same (by simp)
  have hopens : FieldLaw (commitOpens d) := h
  cases hread : d.pgs.read (d.ssq.stitch + 1) with
  | some r =>
    have hstitch : FieldLaw (commitStitch r (commitOpens d)) := hopens.same (by simp)
    rw [commit_of_record hread]
    exact hstop _ _ (hhead _ _ _ (hframe _ _ hstitch))
  | none =>
    rw [commit_of_no_record hread]
    exact hhead _ _ _ (hopens.fault _)

theorem FieldLaw.eventD (h : FieldLaw d) : FieldLaw (eventD d) := by
  have hcounts : ∀ hold e, FieldLaw e → FieldLaw (dwellCounts hold e) := by
    intro hold e he
    unfold dwellCounts
    simp only
    split
    · exact (he.same (by simp)).fault _
    · exact he
  have hdwell : FieldLaw (dwellRun d) := by
    rw [dwellRun_eq, demandFalls_eq]
    exact hcounts _ _ (h.same (by simp))
  unfold Machine.eventD
  (repeat' split)
  · exact h.commit
  · exact hdwell
  · exact h.commit
  · exact h.same (by simp)
  all_goals exact h

theorem FieldLaw.eventWOpen (h : FieldLaw d) : FieldLaw (eventWOpen d) := by
  have hopen : FieldLaw (openMoveWindow d) := by
    unfold openMoveWindow
    simp only
    split
    · exact (h.same (by simp)).startPending true
    · exact h.startPending true
  unfold Machine.eventWOpen
  simp only
  (repeat' split)
  · exact hopen.same (by simp)
  · exact hopen
  · exact h.same (by simp)
  · exact h

theorem FieldLaw.receive (h : FieldLaw d) (n : AngleName) : FieldLaw (receive n d) := by
  cases n with
  | m =>
    rw [Machine.receive]
    split
    · exact h.eventM
    · exact h
  | h => exact h.eventH
  | aArm => exact h.same (e := eventAArm d) (by simp)
  | tuClose =>
    rw [Machine.receive]
    split
    · exact h.closePenetration
    · exact h
  | d => exact h.eventD
  | wOpen => exact h.eventWOpen
  | tuOpen | kOn | kOff =>
    rw [Machine.receive]
    split
    · exact h.same (by simp)
    · exact h

theorem FieldLaw.raiseEvents (h : FieldLaw d) : FieldLaw (raiseEvents d) := by
  have hdue : ∀ n e, FieldLaw e → FieldLaw (raiseIfDue e n) := by
    intro n e he
    have hset : FieldLaw (e.setSht { e.sht with raised := e.sht.raised ++ [n] }) := he
    unfold raiseIfDue raiseEvent
    split
    · exact (hset.receive n).same (by simp)
    · exact he
  have hall : ∀ (l : List AngleName) e, FieldLaw e → FieldLaw (l.foldl raiseIfDue e) := by
    intro l
    induction l with
    | nil => exact fun _ he => he
    | cons n l ih => exact fun e he => ih _ (hdue n e he)
  exact hall _ d h

/-! ### Encoder counts and the index (R1 to R4) -/

theorem FieldLaw.encoderFault (h : FieldLaw d) : FieldLaw (encoderFault d) := by
  have hlost : FieldLaw (abandonPenetration (knifeOff (dropDecision (loseSync d)))) := h
  exact (hlost.fault _).writeDeferred

theorem FieldLaw.countForward (h : FieldLaw d) (t : Nat) : FieldLaw (countForward t d) := by
  have hturned : FieldLaw (turned (counted t d)) := h
  rw [countForward_eq, advance_eq]
  (repeat' split)
  · exact h
  · exact hturned.encoderFault
  · exact hturned.raiseEvents

theorem FieldLaw.countReverse (h : FieldLaw d) (t : Nat) : FieldLaw (countReverse t d) := by
  have hturned : FieldLaw (turnedBack (counted t d)) := h
  rw [countReverse_eq]
  split
  · exact hturned.encoderFault
  · exact hturned

theorem FieldLaw.takeIndex (h : FieldLaw d) : FieldLaw (takeIndex d) := by
  have hsweep : ∀ n e, FieldLaw e → FieldLaw (sweep n e) := by
    intro n
    induction n with
    | zero => exact fun _ he => he
    | succ n ih => exact fun e he => ih _ (FieldLaw.raiseEvents (d := e.setSht _) he)
  have hcapture : ∀ e, FieldLaw e → FieldLaw (capture e) := by
    intro e he
    unfold capture takePeriod
    simp only
    (repeat' split)
    · exact (he.same (by simp)).fault _
    all_goals exact he
  have hbegins : FieldLaw (indexBegins d) := FieldLaw.raiseEvents (hsweep (1023 - d.sht.angle) d h)
  unfold Machine.takeIndex
  (repeat' split)
  · exact FieldLaw.raiseEvents h
  · exact h.encoderFault
  · exact h
  · exact hcapture _ hbegins
  · exact hcapture _ h

/-! ### Walks, moves and Gos (R85, R97 to R109) -/

theorem FieldLaw.walkEnds (h : FieldLaw d) : FieldLaw (walkEnds d) := by
  unfold Machine.walkEnds
  split
  · exact h
  · exact FieldLaw.setInPlace (d := walkOver d) h

theorem FieldLaw.walkCutAt (h : FieldLaw d) (k : Walk) : FieldLaw (walkCutAt k d) := by
  have hcut : ∀ e, e.stc.motion = d.stc.motion → e.pnc = d.pnc → FieldLaw (cutReport k k.stitch e) := fun e hmotion hpnc =>
    h.same (by simp [hmotion, hpnc])
  unfold Machine.walkCutAt
  split
  · exact h.walkEnds
  · exact (hcut _ (by simp) (by simp)).walkEnds.afterStitchChange

theorem FieldLaw.walkAdvance (fuel : Nat) (k : Walk) (h : FieldLaw d) : FieldLaw (walkAdvance fuel k d) := by
  induction fuel generalizing k d with
  | zero => exact h
  | succ fuel ih =>
    unfold Machine.walkAdvance
    simp only
    (repeat' split)
    · exact (h.fault _).walkCutAt k
    · exact h
    · exact FieldLaw.walkEnds ((h.same (by simp)).arrive _ _)
    · exact ih _ ((h.same (by simp)).arrive _ _)
    · exact h

theorem FieldLaw.walkMoveDone (h : FieldLaw d) : FieldLaw (walkMoveDone d) := by
  unfold Machine.walkMoveDone
  (repeat' split)
  · exact h.walkEnds
  · exact h.walkCutAt _
  · exact h.walkAdvance _ _
  · exact h

theorem FieldLaw.traceLegs (l : List (Int × Int)) (h : FieldLaw d) : FieldLaw (traceLegs l d) := by
  induction l generalizing d with
  | nil => exact h
  | cons t l ih =>
    unfold Machine.traceLegs
    split
    · exact ih (h.arrive _ _)
    · exact h

theorem FieldLaw.goLegDone (h : FieldLaw d) : FieldLaw (goLegDone d) := by
  unfold Machine.goLegDone
  split
  · exact h.traceLegs _
  all_goals exact h

theorem FieldLaw.completeMove (h : FieldLaw d) : FieldLaw (completeMove d) := by
  have hplace : ∀ rule kind e, FieldLaw e → FieldLaw (completionInPlace rule kind e) := by
    intro rule kind e he
    unfold completionInPlace
    (repeat' split)
    · exact he.judgeInPlace
    · exact he
    · exact he
    · exact he.setInPlace
    · exact he.setInPlace
    · exact he
    · exact he
  unfold Machine.completeMove
  split
  · exact h
  next m _ =>
    have hlanded := hplace d.pnc.after m.kind _ (h.arrive m.toX m.toY)
    simp only
    split
    · exact FieldLaw.goLegDone hlanded
    · exact FieldLaw.walkMoveDone hlanded
    · exact FieldLaw.walkMoveDone hlanded

theorem FieldLaw.walkBegin (h : FieldLaw d) (dir : WalkDir) (n actual target : Nat) :
    FieldLaw (walkBegin dir n actual target d) := by
  have hfirst : ∀ e, FieldLaw e → FieldLaw (walkFirstMove e) := by
    intro e he
    have hleaves := he.leaves (q := { e.pnc with inPlace := false }) ⟨rfl, rfl, rfl⟩ rfl
    unfold walkFirstMove
    simp only
    (repeat' split)
    · exact hleaves.walkAdvance _ _
    · exact hleaves
    · exact hleaves
    · exact he
  unfold Machine.walkBegin
  refine hfirst _ (FieldLaw.afterStitchChange (h.same ?_))
  simp only
  split <;> simp

theorem FieldLaw.goOneLeg (h : FieldLaw d) (g : Go) (t : Int × Int) : FieldLaw (goOneLeg g t d) := by
  have hleaves := h.leaves (q := { d.pnc with go := some g, inPlace := false }) ⟨rfl, rfl, rfl⟩ rfl
  unfold Machine.goOneLeg
  simp only
  (repeat' split)
  · exact (hleaves.arrive _ _).setInPlace.goLegDone
  · exact (hleaves.arrive _ _).goLegDone
  · exact hleaves

theorem FieldLaw.setOrigin (h : FieldLaw d) : FieldLaw (setOrigin d) :=
  FieldLaw.recomputeFinding (FieldLaw.setInPlace (d := d.setPnc { d.pnc with originX := d.pnc.x, originY := d.pnc.y }) h)

/-- The corner (0, 0) is in every field (R94). -/
theorem outsideField_corner (d : Station) : outsideField d (0, 0) = none := by
  rw [outsideField, if_neg (by omega), if_neg (by omega)]

/-- Where HOME ends, at the corner (0, 0), the pantograph is in every field (R94, R104). -/
theorem FieldLaw.homeEvent (h : FieldLaw d) (a : Axis) (f : HomeAxis → HomeAxis) : FieldLaw (homeEvent a f d) := by
  have hfail : ∀ a x e, FieldLaw e → FieldLaw (homeFail a x e) := by
    intro a x e he
    unfold homeFail
    split
    · exact he.fault _
    · exact he
  have hcorner : ∀ b, FieldLaw (d.setPnc { d.pnc with x := 0, y := 0, go := none, homed := b, inPlace := false }) :=
    fun _ => ⟨fun _ => outsideField_corner _, nofun⟩
  have hend : ∀ x y, FieldLaw (homeEnd x y d) := by
    intro x y
    unfold homeEnd
    simp only
    split
    · exact hfail _ _ _ (hfail _ _ _ (hcorner _))
    · exact h
  unfold Machine.homeEvent
  (repeat' split)
  · exact h
  · exact hend _ _
  · exact h
  · exact hend _ _
  · exact h

end Sys2Proof.Machine

/-! ## A homed pantograph stands in the field: the notices, and every step -/

namespace Sys2Proof.Machine

open Sys2Proof Sys2Proof.StitchCycle

variable {d e : Station}

/-! ### The drive and the needle case (R120, R124, R129 to R133) -/

theorem FieldLaw.driveReadyFall (h : FieldLaw d) : FieldLaw (driveReadyFall d) := by
  have hfalls : ∀ e, FieldLaw e → FieldLaw (driveFalls e) := by
    intro e he
    unfold driveFalls
    split
    · exact he.fault _
    · exact he.fault _
    · exact he.fault _
    all_goals exact he
  unfold Machine.driveReadyFall
  simp only
  split
  · exact hfalls _ (h.same (by simp))
  · exact h

theorem FieldLaw.creepRunsOut (h : FieldLaw d) : FieldLaw (creepRunsOut d) := by
  have hstopped : FieldLaw (governorStop d) := h
  unfold Machine.creepRunsOut creepEnds
  simp only
  (repeat' split)
  · exact h
  · exact hstopped.creepOffTop
  · exact h
  · exact h

theorem FieldLaw.stopCase (h : FieldLaw d) (why : CaseStopped) (fr : FaultRecord) : FieldLaw (stopCase why fr d) :=
  (h.same (e := d.setNcc { d.ncc with stopped := why }) (by simp)).headFault fr

theorem FieldLaw.sensorChange (h : FieldLaw d) (before : Nat) : FieldLaw (sensorChange before d) := by
  have hjudged : FieldLaw (judgeSettle d) := h.same (by simp)
  unfold Machine.sensorChange sensorInStep sensorAlone
  simp only
  (repeat' split)
  · exact hjudged.same (by simp)
  · exact hjudged
  · exact (hjudged.same (by simp)).stopCase _ _
  · exact hjudged.stopCase _ _
  · exact hjudged
  · exact h

theorem FieldLaw.stepTimeout (h : FieldLaw d) : FieldLaw (stepTimeout d) := by
  unfold Machine.stepTimeout stepRunsOut caseJam
  (repeat' split)
  · exact h
  · exact h
  · exact (h.same (by simp)).stopCase _ _
  all_goals exact h

/-! ### The peers and the station's timers (R19, R25, R33, R52 to R55, R86) -/

/-- Entry to JOINING clears in-place, and judges the position against the default field (R23, R94, R109). -/
theorem fieldLaw_toJoining (clash : Bool) (d : Station) : FieldLaw (toJoining clash d) := by
  have hblocks : ∀ e g n t k, FieldLaw e → FieldLaw ((((e.setSgv g).setNcc n).setThm t).setHsc k) := fun _ _ _ _ _ he => he
  rw [toJoining]
  exact hblocks _ _ _ _ _ (fieldLaw_judgeField nofun)

theorem FieldLaw.hearPeer (h : FieldLaw d) (x : PeerEntry) (i : StatusItems) : FieldLaw (hearPeer x i d) := by
  have hactivity : ∀ e, FieldLaw e → FieldLaw (handActivity x e) := by
    intro e he
    unfold handActivity
    split
    · exact he.headCheck
    · exact he
  have hframe : ∀ e, FieldLaw e → FieldLaw (handFrameStitch x i e) := by
    intro e he
    unfold handFrameStitch headWalkEnd copyStitch
    (repeat' split)
    · exact FieldLaw.afterStitchChange (he.same (by simp))
    all_goals exact he
  have hrest : ∀ e, FieldLaw e → FieldLaw (handPeerRest i e) := fun _ he => he.same (by simp)
  have hhalt : ∀ e, FieldLaw e → FieldLaw (judgePeerHalt i e) := by
    intro e he
    unfold judgePeerHalt
    split
    · exact he.haltCause _
    · exact he
  have hindex : ∀ e, FieldLaw e → FieldLaw (judgeIndex x.addr i e) := by
    intro e he
    unfold judgeIndex
    simp only
    split
    · exact FieldLaw.fault (he.same (by simp)) _
    · exact he
  exact hindex _ (hhalt _ (hrest _ (hframe _ (hactivity _ h))))

theorem FieldLaw.takeStatus (h : FieldLaw d) (src : Addr) (p : Payload) : FieldLaw (takeStatus src p d) := by
  unfold Machine.takeStatus
  (repeat' split)
  · exact h
  · exact (fieldLaw_toJoining true d).same (by simp [addressClash])
  · exact h.hearPeer _ _
  · exact h

theorem FieldLaw.ageRunsOut (h : FieldLaw d) (a : Addr) : FieldLaw (ageRunsOut a d) := by
  have hlose : ∀ x, FieldLaw (losePeer x d) := by
    intro x
    unfold losePeer
    simp only
    split
    · exact (h.same (by simp)).fault _
    · exact (h.same (by simp)).fault _
    all_goals exact h.same (by simp)
  unfold Machine.ageRunsOut
  (repeat' split)
  · exact h
  · exact hlose _
  · exact h

theorem FieldLaw.joinRunsOut (h : FieldLaw d) : FieldLaw (joinRunsOut d) := by
  have hdiscarded : FieldLaw (discardSections d) := fieldLaw_judgeField h.2
  have htimer : ∀ e, FieldLaw e → FieldLaw (e.setStc { e.stc with joinTimer := some e.now }) := fun _ he => he
  unfold Machine.joinRunsOut
  simp only
  split
  · exact htimer _ (hdiscarded.fault _)
  · exact h

theorem FieldLaw.stall (h : FieldLaw d) : FieldLaw (stall d) := by
  unfold Machine.stall
  split
  · exact h.fault _
  · exact h

theorem FieldLaw.armRunsOut (h : FieldLaw d) : FieldLaw (armRunsOut d) := by
  unfold Machine.armRunsOut
  split
  · exact h.same (by simp)
  · exact h

/-! ### The owners of the notices (R26, R31, R38, R57 to R68, R82, R83, R160) -/

/-- A notice is left alone, refused, or handed to its owner (R44, R45). -/
theorem FieldLaw.takeNotice (h : FieldLaw d) {kind : NoticeKind} {lenOk : Bool} {src : Addr} {p : Payload}
    {owner : Station → Station} (howner : FieldLaw (owner d)) : FieldLaw (takeNotice kind lenOk src p owner d) := by
  rcases takeNotice_cases kind lenOk src p owner d with he | ⟨r, he⟩ | he <;> rw [he]
  · exact h
  · exact h.same (by simp)
  · exact howner

theorem FieldLaw.takeGo (h : FieldLaw d) {v : GoVariant} {src : Addr} {p : Payload} {act : Station → Station}
    (hact : FieldLaw (act d)) : FieldLaw (takeGo v src p act d) := by
  refine h.takeNotice ?_
  rcases goOwner_cases v p act d with ⟨r, -, he⟩ | ⟨-, he⟩ <;> rw [he]
  · exact h.same (by simp)
  · exact hact

/-- A MOTION section judges the position against its own field (R28, R94). -/
theorem FieldLaw.motionOwner (h : FieldLaw d) (p : Payload) : FieldLaw (motionOwner p d) := by
  have hheld : FieldLaw (holdMotion (clampMotion (motionOf p)) d) := fieldLaw_judgeField h.2
  exact hheld.same (by simp [Machine.motionOwner, holdSection])

theorem FieldLaw.stopOwner (h : FieldLaw d) : FieldLaw (stopOwner d) := by
  unfold Machine.stopOwner
  split
  · exact h.same (by simp)
  · exact h.haltCause _

theorem FieldLaw.startOwner (h : FieldLaw d) : FieldLaw (startOwner d) := by
  unfold Machine.startOwner
  split
  · exact h.same (by simp)
  · exact h.enterArmed _

theorem FieldLaw.headSelectOwner (h : FieldLaw d) (p : Payload) : FieldLaw (headSelectOwner p d) := by
  have hactivity : ∀ a, FieldLaw (setActivity a d) := by
    intro a
    unfold setActivity
    simp only
    (repeat' split)
    · exact h
    · exact (h.same (by simp)).headCheck
    · exact (h.same (by simp)).headCheck
  exact hactivity _

theorem FieldLaw.backOwner (h : FieldLaw d) (p : Payload) : FieldLaw (backOwner p d) := by
  unfold Machine.backOwner
  simp only
  (repeat' split)
  · exact h.same (by simp)
  · exact h
  · exact h
  · exact h.walkBegin _ _ _ _

theorem FieldLaw.forwardOwner (h : FieldLaw d) (p : Payload) : FieldLaw (forwardOwner p d) := by
  unfold Machine.forwardOwner
  simp only
  (repeat' split)
  · exact h.same (by simp)
  · exact h
  · exact h
  · exact h.walkBegin _ _ _ _

theorem FieldLaw.designOpenOwner (h : FieldLaw d) (p : Payload) : FieldLaw (designOpenOwner p d) := by
  have hplace : ∀ e, FieldLaw e → FieldLaw (openInPlace e) := by
    intro e he
    unfold openInPlace
    (repeat' split)
    · exact he.leaves ⟨rfl, rfl, rfl⟩ rfl
    · exact he.leaves ⟨rfl, rfl, rfl⟩ rfl
    · exact he.judgeInPlace
  have hstopped : ∀ e, FieldLaw e → FieldLaw (governorEnd e) := fun _ he => he
  have hframe : ∀ e, FieldLaw e → FieldLaw (openFrame e) := by
    intro e he
    unfold openFrame
    simp only
    split
    · exact hstopped _ (hplace _ (he.same (by simp)))
    · exact he
  unfold Machine.designOpenOwner
  split
  · exact FieldLaw.headCheck (hframe _ (h.same (by simp)))
  · exact h.same (by simp)

theorem FieldLaw.designPageOwner (h : FieldLaw d) (p : Payload) : FieldLaw (designPageOwner p d) := by
  unfold Machine.designPageOwner takePage checkPage
  (repeat' split)
  · exact h.same (by simp)
  · exact h
  · exact h
  · exact h
  · exact (h.same (by simp)).recomputeFinding
  · exact h.same (by simp)
  · exact h.same (by simp)
  · exact h

/-! ### Every step (R94, R101) -/

theorem FieldLaw.effect (h : FieldLaw d) (c : Instr) : FieldLaw (effect c d) := by
  cases c with
  | encoderForwardCount => exact h.countForward _
  | encoderReverseCount => exact h.countReverse _
  | indexPulse => exact h.takeIndex
  | restReached => exact h.comeToRest
  | seenLevelChange high => exact FieldLaw.tryRestCommit (d := d.setGtu _) h
  | stallTimeout => exact h.stall
  | armTimeout => exact h.armRunsOut
  | joinTimeout => exact h.joinRunsOut
  | stop => exact h.takeNotice h.stopOwner
  | stationReset => exact h.takeNotice ((fieldLaw_toJoining false d).same (by simp [stationReset]))
  | start => exact h.takeNotice h.startOwner
  | back => exact h.takeNotice (h.backOwner _)
  | forward => exact h.takeNotice (h.forwardOwner _)
  | headSelect => exact h.takeNotice (h.headSelectOwner _)
  | pantographGoHome _ _ x y =>
    exact FieldLaw.takeGo (d := d.setPins { d.pins with xHome := x, yHome := y }) h (fieldLaw_of_unhomed rfl rfl)
  | pantographGoPark => exact h.takeGo (h.goOneLeg _ _)
  | pantographGoReturn => exact h.takeGo (h.goOneLeg _ _)
  | pantographGoAbsolute => exact h.takeGo (h.goOneLeg _ _)
  | pantographGoSetOrigin => exact h.takeGo h.setOrigin
  | pantographGoTrace => exact h.takeGo (h.traceLegs _)
  | configureMotion => exact h.takeNotice (h.motionOwner _)
  | faultClear | needleMap | configureRoster | configureTiming | configureThread => exact h.takeNotice (h.same (by simp))
  | designOpen => exact h.takeNotice (h.designOpenOwner _)
  | designPage => exact h.takeNotice (h.designPageOwner _)
  | statusReceived => exact h.takeStatus _ _
  | peerLost => exact h.ageRunsOut _
  | moveComplete => exact h.completeMove
  | homeSwitchClose a => exact FieldLaw.homeEvent (d := d.setPins (closeSwitch a d.pins)) h _ _
  | homeBackoffDone => exact h.homeEvent _ _
  | homeSeekLimit => exact h.homeEvent _ _
  | driveReadyFall => exact h.driveReadyFall
  | creepTimeout => exact h.creepRunsOut
  | caseSensorChange code latch => exact FieldLaw.sensorChange (d := d.setPins (casePins code latch d.pins)) h _
  | stepTimeout => exact h.stepTimeout
  | _ => exact h.same (by simp [StitchCycle.effect])

end Sys2Proof.Machine

namespace Sys2Proof.Hoop

open Sys2Proof Sys2Proof.Machine Sys2Proof.StitchCycle

/-- Settles O13, by the cases of a step: what changes the position or the field judges the one against the other, what sets in-place
asks for homed, and closing a command leaves the pantograph alone. -/
theorem homedPantographInField : Obligations.HomedPantographInField := by
  intro s t h hstep
  rcases step_cases hstep with ⟨v, he⟩ | ⟨p, he⟩ | he | ⟨a, x, y, he⟩ | ⟨c, he⟩ <;> rw [he]
  · exact h
  · exact h
  · exact h.same (by simp [resetFalls])
  · exact fieldLaw_of_unhomed rfl rfl
  · exact (h.effect c).same (by simp)

end Sys2Proof.Hoop

/-! ## The transform, and the move window -/

namespace Sys2Proof.Hoop

open Sys2Proof Sys2Proof.Machine Sys2Proof.StitchCycle

variable {d : Station}

/-! ### Rounding (R92) -/

/-- The scaled magnitude, rounded to the nearest step. -/
def steps (scale n : Nat) : Nat := (n * scale + 12) / 25

theorem scaleCoord_natCast (scale n : Nat) : scaleCoord scale (n : Int) = steps scale n := by
  cases n with
  | zero => simp [scaleCoord, steps]
  | succ n => rw [scaleCoord, if_neg (by omega), if_neg (by omega), Int.natAbs_natCast, steps]

/-- The sign is applied after the rounding. -/
theorem scaleCoord_neg (scale : Nat) (w : Int) : scaleCoord scale (-w) = -scaleCoord scale w := by
  rcases lt_trichotomy w 0 with hw | rfl | hw
  · simp [scaleCoord, hw, hw.ne, not_lt.2 hw.le]
  · simp [scaleCoord]
  · simp [scaleCoord, hw, hw.ne', not_lt.2 hw.le]

/-- Twelve twenty-fifths of a step is the farthest that rounding goes. -/
theorem steps_near (scale n : Nat) : n * scale ≤ 25 * steps scale n + 12 ∧ 25 * steps scale n ≤ n * scale + 12 := by
  unfold steps
  omega

theorem scaleCoord_near (scale : Nat) (w : Int) :
    2 * (25 * scaleCoord scale w - w * (scale : Int)) < 25 ∧ -25 < 2 * (25 * scaleCoord scale w - w * (scale : Int)) := by
  obtain ⟨n, rfl | rfl⟩ := w.eq_nat_or_neg
  all_goals
    obtain ⟨hlow, hhigh⟩ := steps_near scale n
    have hcast : ((n * scale : Nat) : Int) = n * scale := Nat.cast_mul n scale
    simp only [scaleCoord_neg, scaleCoord_natCast, neg_mul]
    omega

/-- Settles O20: the exchange and the mirrors are the transform's own cases, the sign is applied to the rounded magnitude, and no
magnitude lies half-way between two steps, 25 being odd. -/
theorem transformRoundsToNearestStep : Obligations.TransformRoundsToNearestStep :=
  fun h _ _ => ⟨rfl, fun w =>
    have hnear := scaleCoord_near h.scale w
    ⟨hnear.1, hnear.2, scaleCoord_neg h.scale w⟩⟩

end Sys2Proof.Hoop

/-! ## The move window: W_open and M -/

namespace Sys2Proof.Hoop

open Sys2Proof Sys2Proof.Machine Sys2Proof.StitchCycle

variable {d : Station}

/-! ### HOLD at W_open (R156) -/

/-- Head Stitch Control's record after W_open: on a head HOLD follows the decision of source COMMIT, or is engaged without one. -/
def heldAtWOpen (d : Station) : HeadControl := if d.stc.headRole = false then d.hsc else { d.hsc with holdEngaged :=
  match d.hsc.decision with
  | some x => if x.lead then d.hsc.holdEngaged else !x.penetrate
  | none => true }

theorem holdAtWOpen_eq (hhead : d.stc.headRole = true) : holdAtWOpen d = { d with hsc := heldAtWOpen d } := by
  unfold holdAtWOpen heldAtWOpen
  rw [if_neg (by simp [hhead])]
  cases hdecision : d.hsc.decision with
  | none => simp [Station.setHsc, hdecision]
  | some x =>
    cases hlead : x.lead with
    | true => simp only [hlead, if_true]
    | false => simp [Station.setHsc, hdecision, hlead]

/-- A station of both roles does both parts of W_open: what the frame role makes of the pantograph, and HOLD. -/
theorem eventWOpen_of {w : Pantograph} (hopen : (if d.stc.frameRole then openMoveWindow d else d) = { d with pnc := w }) :
    eventWOpen d = { d with hsc := heldAtWOpen d, pnc := w } := by
  rw [eventWOpen, hopen]
  by_cases hhead : d.stc.headRole = true
  · exact (if_pos hhead).trans (holdAtWOpen_eq (d := { d with pnc := w }) hhead)
  · have hheld : heldAtWOpen d = d.hsc := if_pos (Bool.not_eq_true _ ▸ hhead)
    rw [hheld]
    exact if_neg hhead

/-! ### The pending move at W_open (R97, R98, R101) -/

theorem openMoveWindow_of_move {m : Move} (hmove : d.pnc.move = some m) :
    openMoveWindow d = { d with pnc := { d.pnc with move := some { m with atWOpen := false } } } := by
  simp [openMoveWindow, hmove, startPending, Station.setPnc]

theorem openMoveWindow_of_none (hmove : d.pnc.move = none) : openMoveWindow d = startPending true d := by
  simp [openMoveWindow, hmove]

theorem startPending_of_none {atWOpen : Bool} (hpending : d.pnc.pending = none) : startPending atWOpen d = d := by
  cases hmove : d.pnc.move <;> simp [startPending, hpending, hmove]

theorem startPending_starts {atWOpen : Bool} {t : MoveTarget} (hmove : d.pnc.move = none) (hpending : d.pnc.pending = some t)
    (htime : t.treq ≠ 0) : startPending atWOpen d = { d with pnc := { d.pnc with
      pending := none, inPlace := false
      move := some { kind := .stitch, fromX := d.pnc.x, fromY := d.pnc.y, toX := t.x, toY := t.y, treq := t.treq,
                     started := d.now, atWOpen := atWOpen } } } := by
  simp [startPending, hmove, hpending, htime, startMove, Station.setPnc]

theorem startPending_completes {atWOpen : Bool} {t : MoveTarget} (hmove : d.pnc.move = none)
    (hpending : d.pnc.pending = some t) (htime : t.treq = 0) :
    let homed := d.pnc.homed && decide (outsideField d (t.x, t.y) = none)
    startPending atWOpen d = { d with pnc := { d.pnc with
      pending := none, x := t.x, y := t.y, homed := homed, inPlace := homed } } := by
  simp [startPending, hmove, hpending, htime, setInPlace_arrive, outsideField_congr (s := d), Station.setPnc]

/-! ### M (R99) -/

theorem longerAxis_eq_y (m : MotionSection) (ex ey : Int) :
    longerAxis m ex ey = .y ↔ axisTime m.accel m.topSpeed ex.natAbs < axisTime m.accel m.topSpeed ey.natAbs := by
  unfold longerAxis
  split <;> simp [*]

theorem eventM_late {m : Move} (hmove : d.pnc.move = some m) (hlate : m.kind = .stitch ∧ m.atWOpen = true) :
    eventM d = requestVeto (fault (plainRecord .moveLate
      (axisCode (longerAxis (motion d) (m.toX - m.fromX) (m.toY - m.fromY))) d) d) := by
  rw [eventM, hmove]
  exact if_pos hlate

theorem eventM_still (hmove : ∀ m, d.pnc.move = some m → m.kind ≠ .stitch ∨ m.atWOpen = false) : eventM d = d := by
  unfold eventM
  split
  next m hm => exact if_neg fun hlate => (hmove m hm).elim (absurd hlate.1) (fun hopen => absurd (hlate.2.symm.trans hopen) nofun)
  next => rfl

/-- Settles O35: at W_open by what the frame role finds in progress and pending, at M by the move in progress. -/
theorem moveWindow : Obligations.MoveWindow := by
  intro d hold
  refine ⟨fun t hframe hmove hpending htime => ?_, fun t hframe hmove hpending htime => ?_, fun m hframe hmove => ?_,
    fun hquiet => ?_, fun m hmove hkind hopen => ?_, eventM_still⟩
  · refine eventWOpen_of ?_
    rw [if_pos hframe, openMoveWindow_of_none hmove, startPending_starts hmove hpending htime]
  · refine eventWOpen_of ?_
    rw [if_pos hframe, openMoveWindow_of_none hmove, startPending_completes hmove hpending htime]
  · refine eventWOpen_of ?_
    rw [if_pos hframe, openMoveWindow_of_move hmove]
  · refine eventWOpen_of (w := d.pnc) ?_
    rcases hquiet with hrole | ⟨hmove, hpending⟩
    · rw [if_neg (by simp [hrole])]
    · rw [openMoveWindow_of_none hmove, startPending_of_none hpending, ite_self]
  · exact ⟨_, longerAxis_eq_y _ _ _, eventM_late hmove ⟨hkind, hopen⟩⟩

end Sys2Proof.Hoop

/-! ## PANTOGRAPH_GO: the checks before a Go -/

namespace Sys2Proof.Hoop

open Sys2Proof Sys2Proof.Machine Sys2Proof.StitchCycle Sys2Proof.StationStates

variable {d : Station} {v : GoVariant} {src : Addr} {p : Payload} {act : Station → Station} {c : Instr} {s : State}

/-! ### A Go that reaches its owner (R44, R45) -/

/-- A Go that passes the checks of R44 is its owner's part, closed, with the switch levels that a HOME brings. -/
theorem exec_go (hlive : Live s) (hc : noticeOf c = some (.pantographGo, p.length == 6, src, p))
    (heffect : effect c s.dev = takeGo v src p act { s.dev with pins := levelsAfter c s.dev.pins }) (htaken : Taken c s.dev) :
    exec c s = .next (closed s (goOwner v p act { s.dev with pins := levelsAfter c s.dev.pins })) := by
  have htaken' : noticeTaken s.dev .pantographGo (p.length == 6) src p = true := by
    simpa [Taken, passesChecks, hc] using htaken
  have hpins : noticeTaken { s.dev with pins := levelsAfter c s.dev.pins } .pantographGo (p.length == 6) src p = true := by
    rw [← htaken']
    rfl
  rw [exec_live hlive (by rintro rfl; cases hc) (by rintro a x y rfl; cases hc), heffect, takeGo, takeNotice_of_taken hpins]

/-- A Go that no check of R102 refuses is carried out. -/
theorem exec_go_accepted (hlive : Live s) (hc : noticeOf c = some (.pantographGo, p.length == 6, src, p))
    (heffect : effect c s.dev = takeGo v src p act { s.dev with pins := levelsAfter c s.dev.pins }) (htaken : Taken c s.dev)
    (hpass : goRefusal v p { s.dev with pins := levelsAfter c s.dev.pins } = none) :
    exec c s = .next (closed s (act { s.dev with pins := levelsAfter c s.dev.pins })) := by
  rw [exec_go hlive hc heffect htaken, goOwner, hpass]

/-! ### The table of R102 -/

/-- The table of R102: row by row, what makes a Go of a variant fail. -/
def goRow (v : GoVariant) (p : Payload) (d : Station) : Nat → Bool
  | 1 => byteAt p 1 != v.code
  | 2 => d.ssq.walk.isSome || d.pnc.move.isSome || d.pnc.pending.isSome || d.pnc.waiting.isSome || d.pnc.go.isSome ||
      !d.sht.atRest
  | 3 => decide (v ≠ .home) && !d.pnc.homed
  | 4 => decide (v = .setOrigin) && decide (d.stc.state ≠ .ready ∨ d.ssq.stitch ≠ 0)
  | 5 => decide (v = .trace) && d.pgs.header.isNone
  | 6 => decide (v = .trace) && cornersOutside d
  | 7 => decide (v = .goReturn) && (outsideField d (presentTarget d)).isSome
  | _ => false

/-- The reasons of the rows of R102. -/
abbrev goReasons : List RefusalReason := [.format, .busy, .notHomed, .state, .noDesign, .field, .field]

theorem goRow_busy (v : GoVariant) (p : Payload) (d : Station) : goRow v p d 2 = goBusy d := by
  simp [goBusy, movesComplete, goRow, Bool.or_assoc, Bool.not_and]

/-- The checks of a variant, once its byte is right and the pantograph is free, are the rows that are left. -/
theorem goRefusal_eq (v : GoVariant) (p : Payload) (d : Station) :
    goRefusal v p d = firstFailing (goRow v p d) 1 goReasons := by
  have hrows : firstFailing (goRow v p d) 1 goReasons =
      if goRow v p d 1 then some .format else if goRow v p d 2 then some .busy
      else firstFailing (goRow v p d) 3 [.notHomed, .state, .noDesign, .field, .field] := rfl
  have hformat : (goRow v p d 1 = true) = (variantOf p ≠ v.code) := by simp [goRow, variantOf]
  rw [hrows, goRow_busy]
  simp only [hformat]
  cases hhomed : d.pnc.homed <;> cases v <;> simp [goRefusal, firstFailing, goRow, hhomed]

/-- Settles O46: a Go of any variant goes through the table of R102, and the first row that fails is its refusal. -/
theorem goRefusedByFirstFailingCheck : Obligations.GoRefusedByFirstFailingCheck := by
  intro v src p x y s hlive c d row htaken i why hrow hfirst hwhy
  have hpos : 1 ≤ i := by
    rcases i with _ | i
    · cases hrow
    · omega
  have hrefusal : goRefusal v p d = some why :=
    (goRefusal_eq v p d).trans (firstFailing_of_first (row := goRow v p d) hrow hfirst goReasons 1 hpos hwhy)
  have hrefused : ∀ act, goOwner v p act d = refused .pantographGo why d := by
    intro act
    rw [goOwner, hrefusal]
    exact refuse_eq _ _ _
  cases v with
  | home => rw [← hrefused goHome]; exact exec_go hlive rfl rfl htaken
  | park => rw [← hrefused goPark]; exact exec_go hlive rfl rfl htaken
  | goReturn => rw [← hrefused Machine.goReturn]; exact exec_go hlive rfl rfl htaken
  | absolute => rw [← hrefused (goAbsolute p)]; exact exec_go hlive rfl rfl htaken
  | setOrigin => rw [← hrefused setOrigin]; exact exec_go hlive rfl rfl htaken
  | trace => rw [← hrefused goTrace]; exact exec_go hlive rfl rfl htaken

end Sys2Proof.Hoop

/-! ## PANTOGRAPH_GO HOME, and the homing events -/

namespace Sys2Proof.Hoop

open Sys2Proof Sys2Proof.Machine Sys2Proof.StitchCycle Sys2Proof.StationStates

variable {d : Station} {a : Axis} {f : HomeAxis → HomeAxis} {hx hy m o : HomeAxis} {src : Addr} {p : Payload} {s : State}

/-! ### The end of HOME (R104) -/

/-- The pantograph at the end of a HOME: at the corner (0, 0), homed if neither axis failed. -/
def homeEnded (both : Bool) (d : Station) : Station :=
  { d with pnc := { d.pnc with x := 0, y := 0, go := none, homed := both, inPlace := false } }

/-- The HOME_FAIL record of an axis. -/
def homeFault (a : Axis) (d : Station) : FaultRecord :=
  { kind := .homeFail, stitch := d.ssq.stitch, needle := none, value := some (axisCode a) }

/-- HOME after an event of axis `a`: that axis is in phase `m`, the other in phase `o`. -/
def homeEndOf (a : Axis) (m o : HomeAxis) (d : Station) : Station :=
  match a with
  | .x => homeEnd m o d
  | .y => homeEnd o m d

/-- HOME goes on for as long as one axis has not ended. -/
theorem homeEndOf_goes_on (h : m.ended = false ∨ o.ended = false) : homeEndOf a m o d = { d with pnc := { d.pnc with
    go := some (if a = .x then .home m o else .home o m) } } := by
  cases a with
  | x => exact if_neg (by rcases h with h | h <;> simp [h])
  | y => exact if_neg (by rcases h with h | h <;> simp [h])

theorem homeEndOf_done : homeEndOf a .done .done d = homeEnded true d := by
  cases a <;> rfl

theorem homeEndOf_other_failed :
    homeEndOf a .done .failed d = fault (homeFault (if a = .x then .y else .x) d) (homeEnded false d) := by
  cases a <;> rfl

theorem homeEndOf_failed : homeEndOf a .failed .done d = fault (homeFault a d) (homeEnded false d) := by
  cases a <;> rfl

/-- Both axes have failed: the record of X is written first (log entry 42). -/
theorem homeEndOf_both_failed :
    homeEndOf a .failed .failed d = fault (homeFault .y d) (fault (homeFault .x d) (homeEnded false d)) := by
  have hstitch : (fault (homeFault .x d) (homeEnded false d)).ssq.stitch = d.ssq.stitch := by simp [homeEnded]
  have hend : homeEnd .failed .failed d = fault (plainRecord .homeFail (axisCode .y) (fault (homeFault .x d) (homeEnded false d)))
      (fault (homeFault .x d) (homeEnded false d)) := rfl
  rw [plainRecord, hstitch] at hend
  cases a <;> exact hend

/-! ### An event of one axis (R103) -/

theorem switchCloses_of_not_seek (h : m = .backoff ∨ m = .done ∨ m = .failed) : switchCloses m = m := by
  rcases h with rfl | rfl | rfl <;> rfl

theorem seekFails_of_not_seek (h : m = .backoff ∨ m = .done ∨ m = .failed) : seekFails m = m := by
  rcases h with rfl | rfl | rfl <;> rfl

theorem backoffEnds_of_ne (h : m ≠ .backoff) : backoffEnds m = m := by
  cases m with
  | backoff => exact absurd rfl h
  | seek | done | failed => rfl

theorem homeEvent_of_no_home (hgo : ∀ hx hy, d.pnc.go ≠ some (.home hx hy)) : homeEvent a f d = d := by
  unfold homeEvent
  split
  next x y hhome => exact absurd hhome (hgo x y)
  next => rfl

/-- An event moves its axis to the next phase; an axis in a phase that it does not move on is left as it is. -/
theorem homeEvent_of_home (hgo : d.pnc.go = some (.home hx hy)) (hmine : (if a = .x then hx else hy) = m)
    (hother : (if a = .x then hy else hx) = o) : homeEvent a f d = if f m = m then d else homeEndOf a (f m) o d := by
  rw [homeEvent, hgo]
  cases a with
  | x =>
    obtain rfl : hx = m := hmine
    obtain rfl : hy = o := hother
    rfl
  | y =>
    obtain rfl : hy = m := hmine
    obtain rfl : hx = o := hother
    rfl

/-- Settles O47: HOME sends each axis off by its switch, an event moves its own axis on, and with both axes ended HOME ends. -/
theorem homeFindsBothSwitches : Obligations.HomeFindsBothSwitches := by
  intro src p xc yc s hlive d start pins
  refine ⟨fun htaken hpass => ?home, fun a => ?events⟩
  case home => exact exec_go_accepted (act := goHome) hlive rfl rfl htaken hpass
  case events =>
    intro e
    have hswitch : exec (.homeSwitchClose a) s = .next (closed s (homeEvent a switchCloses e)) := by
      have hpins : d.setPins (closeSwitch a d.pins) = e := congrArg d.setPins (closeSwitch_eq a d.pins)
      rw [← hpins]
      exact exec_live hlive nofun nofun
    have hbackoff : exec (.homeBackoffDone a) s = .next (closed s (homeEvent a backoffEnds d)) := exec_live hlive nofun nofun
    have hlimit : exec (.homeSeekLimit a) s = .next (closed s (homeEvent a seekFails d)) := exec_live hlive nofun nofun
    refine ⟨fun hgo => ?none, fun hx hy hgo => ?phases⟩
    case none =>
      rw [hswitch, hbackoff, hlimit, homeEvent_of_no_home hgo, homeEvent_of_no_home hgo, homeEvent_of_no_home (d := e) hgo]
      exact ⟨rfl, rfl, rfl⟩
    case phases =>
      intro mine other go ended fail
      have hevent : ∀ f, homeEvent a f d = if f mine = mine then d else homeEndOf a (f mine) other d := fun f =>
        homeEvent_of_home hgo rfl rfl
      have hclose : homeEvent a switchCloses e = if switchCloses mine = mine then e else homeEndOf a (switchCloses mine) other e :=
        homeEvent_of_home (d := e) hgo rfl rfl
      have hgoes : ∀ (m : HomeAxis) (b : Station), m.ended = false ∨ other.ended = false →
          homeEndOf a m other b = { b with pnc := { b.pnc with go := go m } } := by
        intro m b h
        rw [homeEndOf_goes_on h]
        cases a <;> rfl
      have hleft : (other = .backoff ∨ ∃ t0, other = .seek t0) → other.ended = false := by
        rintro (h | ⟨t0, h⟩) <;> rw [h] <;> rfl
      rw [hswitch, hbackoff, hlimit, hclose, hevent, hevent]
      refine ⟨fun h => ?_, fun h => ?_, fun h => ?_, fun t0 h => ?_, fun h hother => ?_, fun h hother => ?_, fun h hother => ?_,
        fun t0 h hother => ?_, fun t0 h hother => ?_, fun t0 h hother => ?_⟩
      · rw [if_pos (switchCloses_of_not_seek h)]
      · rw [if_pos (backoffEnds_of_ne h)]
      · rw [if_pos (seekFails_of_not_seek h)]
      · rw [h, if_neg nofun, hgoes _ _ (.inl rfl)]; rfl
      · rw [h, if_neg nofun, hgoes _ _ (.inr (hleft hother))]; rfl
      · rw [h, if_neg nofun, hother]; exact congrArg _ (congrArg _ homeEndOf_done)
      · rw [h, if_neg nofun, hother]; exact congrArg _ (congrArg _ homeEndOf_other_failed)
      · rw [h, if_neg nofun, hgoes _ _ (.inr (hleft hother))]; rfl
      · rw [h, if_neg nofun, hother]; exact congrArg _ (congrArg _ homeEndOf_failed)
      · rw [h, if_neg nofun, hother]; exact congrArg _ (congrArg _ homeEndOf_both_failed)

end Sys2Proof.Hoop

/-! ## PANTOGRAPH_GO PARK, RETURN, ABSOLUTE, SET_ORIGIN and TRACE -/

namespace Sys2Proof.Hoop

open Sys2Proof Sys2Proof.Machine Sys2Proof.StitchCycle Sys2Proof.StationStates Sys2Proof.PageRun Sys2Proof.Walks

variable {d : Station} {g : Go} {t : Int × Int} {h : Header} {v : GoVariant} {src : Addr} {p : Payload} {s : State}

/-! ### The one leg of PARK, RETURN and ABSOLUTE (R97, R101, R105) -/

theorem goOneLeg_moves (ht : t ≠ (d.pnc.x, d.pnc.y)) : goOneLeg g t d = { d with pnc :=
    { d.pnc with go := some g, inPlace := false, move := some (legStarted d t) } } :=
  if_neg fun hhere => ht (Prod.ext hhere.1 hhere.2)

/-- A leg of no displacement completes at once; that of a RETURN sets in-place. -/
theorem goOneLeg_completes (hg : g = .park ∨ g = .goReturn ∨ g = .absolute) (ht : t = (d.pnc.x, d.pnc.y))
    (hfield : outsideField d (d.pnc.x, d.pnc.y) = none) : goOneLeg g t d = { d with pnc :=
      { d.pnc with go := none, inPlace := decide (g = .goReturn) && d.pnc.homed, move := none } } := by
  have harrive : arrive d.pnc.x d.pnc.y (d.setPnc { d.pnc with go := some g, inPlace := false }) =
      d.setPnc { d.pnc with go := some g, inPlace := false, move := none } := by
    have hin : outsideField (d.setPnc { d.pnc with go := some g, inPlace := false }) (d.pnc.x, d.pnc.y) = none :=
      (outsideField_congr rfl _).trans hfield
    rw [arrive_eq, hin]
    simp [Station.setPnc]
  subst ht
  unfold goOneLeg
  simp only [Station.setPnc_pnc, and_self, if_true, harrive]
  rcases hg with rfl | rfl | rfl <;> rfl

theorem clampCoord_natCast (hi n : Nat) : clampCoord hi (n : Int) = min (n : Int) hi := by
  unfold clampCoord
  (repeat' split) <;> omega

/-- Settles O48: the Go is one leg, to the target of its variant. -/
theorem oneLegGos : Obligations.OneLegGos := by
  intro src p v s hlive hv d c g t htaken hpass hfield
  have hexec : exec c s = .next (closed s (goOneLeg g t d)) := by
    rcases hv with rfl | rfl | rfl
    · exact exec_go_accepted (act := goPark) hlive rfl rfl htaken hpass
    · exact exec_go_accepted (act := Machine.goReturn) hlive rfl rfl htaken hpass
    · have htarget : absoluteTarget p d = t := Prod.ext (clampCoord_natCast _ _) (clampCoord_natCast _ _)
      rw [← htarget]
      exact exec_go_accepted (act := goAbsolute p) hlive rfl rfl htaken hpass
  have hg : g = .park ∨ g = .goReturn ∨ g = .absolute := by
    rcases hv with rfl | rfl | rfl
    · exact .inl rfl
    · exact .inr (.inl rfl)
    · exact .inr (.inr rfl)
  have hreturn : decide (v = .goReturn) = decide (g = .goReturn) := by rcases hv with rfl | rfl | rfl <;> rfl
  rw [hexec, hreturn]
  exact ⟨fun ht => by rw [goOneLeg_moves ht], fun ht => by rw [goOneLeg_completes hg ht hfield]⟩

/-! ### What a Go that is not refused finds (R44, R102) -/

theorem frameRole_of_go_taken {lenOk : Bool} (htaken : noticeTaken d .pantographGo lenOk src p = true) :
    d.stc.frameRole = true := by
  simp only [noticeTaken, noticeReaches, roleFits, Bool.and_eq_true] at htaken
  obtain ⟨⟨⟨⟨-, hframe⟩, -⟩, -⟩, -⟩ := htaken
  exact hframe

theorem goRow_of_accepted (hpass : goRefusal v p d = none) (k : Nat) (hk : k < 7) : goRow v p d (1 + k) = false :=
  row_of_firstFailing_none ((goRefusal_eq v p d).symm.trans hpass) k hk

/-- The pantograph is free: no move and no Go is in progress. -/
theorem free_of_accepted (hpass : goRefusal v p d = none) : d.pnc.move = none ∧ d.pnc.go = none := by
  have hbusy := goRow_of_accepted hpass 1 (by decide)
  simp only [goRow, Bool.or_eq_false_iff, Option.isSome_eq_false_iff, Option.isNone_iff_eq_none] at hbusy
  obtain ⟨⟨⟨⟨⟨-, hmove⟩, -⟩, -⟩, hgo⟩, -⟩ := hbusy
  exact ⟨hmove, hgo⟩

/-! ### SET_ORIGIN (R95, R106) -/

theorem recomputeFinding_ready (hframe : d.stc.frameRole = true) (hstate : d.stc.state = .ready) :
    recomputeFinding d = { d with pnc := { d.pnc with finding := findingNow d } } := by
  obtain ⟨-, hquiet, harises⟩ := recomputeFinding_cases d
  cases hnew : findingNow d with
  | none => rw [hquiet hframe (.inr hnew), hnew]
  | some a =>
    by_cases hold : d.pnc.finding = none
    · rw [(harises a hframe hold hnew).2.2 (by simp [hstate]) (by simp [hstate]), hnew]
    · rw [hquiet hframe (.inl hold), hnew]

/-! ### TRACE (R97, R107) -/

/-- The legs of a TRACE whose corners are in the field: those of no displacement are made at once, the next one starts. A position
that is the first corner is in the field with it, and no other position is judged. -/
theorem goTrace_eq (hmove : d.pnc.move = none) (hheader : d.pgs.header = some h) (hcorners : cornersOutside d = false) :
    (legsFrom (d.pnc.x, d.pnc.y) (traceTargets d) = [] → goTrace d = { d with pnc := { d.pnc with go := none } }) ∧
    (∀ l ls, legsFrom (d.pnc.x, d.pnc.y) (traceTargets d) = l :: ls → goTrace d = { d with pnc := { d.pnc with
      go := some (.trace ls), move := some (legStarted d l) } }) := by
  obtain ⟨ts, htargets⟩ : ∃ ts, traceTargets d = targetOfPos d h.xmin h.ymin :: ts := by
    rw [traceTargets, hheader]
    exact ⟨_, rfl⟩
  by_cases hhere : targetOfPos d h.xmin h.ymin = (d.pnc.x, d.pnc.y)
  · have hfield : outsideField d (d.pnc.x, d.pnc.y) = none := by
      rw [cornersOutside, hheader] at hcorners
      simp only [List.any_eq_false] at hcorners
      have hfirst := hcorners _ (List.mem_cons_self (a := targetOfPos d h.xmin h.ymin))
      rw [hhere] at hfirst
      simpa using hfirst
    exact traceLegs_eq hmove (fun _ => hfield) _
  · have hlegs : legsFrom (d.pnc.x, d.pnc.y) (traceTargets d) = targetOfPos d h.xmin h.ymin :: ts := by
      rw [htargets]
      exact List.dropWhile_cons_of_neg (by simpa using hhere)
    rw [hlegs]
    refine ⟨nofun, fun l ls hl => ?_⟩
    cases hl
    rw [goTrace, htargets]
    exact if_neg fun heq => hhere (Prod.ext heq.1 heq.2)

/-- Settles O49: the origin becomes the position and the finding is formed anew; the TRACE makes its legs of no displacement and
starts the next. -/
theorem setOriginAndTrace : Obligations.SetOriginAndTrace := by
  intro src p s hlive d o
  refine ⟨fun htaken hpass => ?origin, fun h htaken hpass hheader => ?trace⟩
  case origin =>
    have hframe : d.stc.frameRole = true := frameRole_of_go_taken (src := src) (p := p) htaken
    have hstate : d.stc.state = .ready := by
      have hrow : decide (d.stc.state ≠ .ready ∨ d.ssq.stitch ≠ 0) = false := goRow_of_accepted hpass 3 (by decide)
      exact not_not.1 fun hother => of_decide_eq_false hrow (.inl hother)
    have hact : setOrigin d = { o with pnc := { o.pnc with finding := findingNow o } } :=
      recomputeFinding_ready (d := o) hframe hstate
    rw [← hact]
    exact exec_go_accepted (act := setOrigin) hlive rfl rfl htaken hpass
  case trace =>
    intro corner legs
    obtain ⟨hmove, hgo⟩ := free_of_accepted hpass
    have hcorners : cornersOutside d = false := goRow_of_accepted hpass 5 (by decide)
    have htargets : traceTargets d = [corner h.xmin h.ymin, corner h.xmax h.ymin, corner h.xmax h.ymax, corner h.xmin h.ymax,
        (d.pnc.x, d.pnc.y)] := by
      simp [traceTargets, hheader, cornerTargets, targetOfPos, corner]
    have hexec : exec (.pantographGoTrace src p) s = .next (closed s (goTrace d)) :=
      exec_go_accepted (act := goTrace) hlive rfl rfl htaken hpass
    obtain ⟨hnone, hstarts⟩ := goTrace_eq hmove hheader hcorners
    rw [htargets] at hnone hstarts
    rw [hexec]
    refine ⟨fun hlegs => ?_, fun l ls hlegs => ?_⟩
    · rw [hnone hlegs, ← hgo]
    · rw [hstarts l ls hlegs]

end Sys2Proof.Hoop

/-! ## The arithmetic of the moves and the speed -/

namespace Sys2Proof.SpeedGovernor

open Sys2Proof Sys2Proof.Machine

/-! ### The integer square root and the ceiling of a quotient -/

/-- The digits still to be found are those by which the root exceeds what has been found. -/
theorem isqrtFrom_eq_sqrt {n k acc : Nat} (hlow : acc ≤ n.sqrt) (hhigh : n.sqrt < acc + 2 ^ k) : isqrtFrom n k acc = n.sqrt := by
  induction k generalizing acc with
  | zero =>
    rw [pow_zero] at hhigh
    exact Nat.le_antisymm hlow (Nat.le_of_lt_succ hhigh)
  | succ k ih =>
    rw [isqrtFrom]
    split
    next hdigit => exact ih (Nat.le_sqrt.2 hdigit) (by rw [pow_succ] at hhigh; omega)
    next hdigit => exact ih hlow (Nat.lt_of_not_le (mt Nat.le_sqrt.1 hdigit))

theorem isqrt_eq_sqrt {n : Nat} (h : n < 2 ^ 128) : isqrt n = n.sqrt :=
  isqrtFrom_eq_sqrt (Nat.zero_le _) (Nat.sqrt_lt.2 (by omega))

/-- The ceiling of a quotient is the least number of divisors that make up the dividend. -/
theorem ceilDiv_le_iff {n d k : Nat} (hd : 1 ≤ d) : ceilDiv n d ≤ k ↔ n ≤ k * d := by
  rw [Nat.mul_comm]
  exact ceilDiv_le_iff_le_mul hd

theorem ceilDiv_spec {n d : Nat} (hd : 1 ≤ d) (hn : 1 ≤ n) : n ≤ ceilDiv n d * d ∧ (ceilDiv n d - 1) * d < n := by
  have hpos : ¬ceilDiv n d ≤ 0 := fun h => by
    have := (ceilDiv_le_iff hd).1 h
    omega
  exact ⟨(ceilDiv_le_iff hd).1 le_rfl, Nat.lt_of_not_le (mt (ceilDiv_le_iff hd).2 (by omega))⟩

/-! ### The obligations -/

/-- Settles O18: the triangle by the integer square root, the trapezoid by the two ceilings. -/
theorem axisMoveTime : Obligations.AxisMoveTime := by
  intro a v d ha hv hd
  refine ⟨fun h => if_pos h, fun hmove htriangle => ?_, fun htrapezoid => ?_⟩
  · have hquotient : d * 1000000000 / a < 2 ^ 128 := (Nat.div_le_self _ a).trans_lt (by omega)
    refine ⟨(d * 1000000000 / a).sqrt, ?_, Nat.sqrt_le _, Nat.lt_succ_sqrt _⟩
    rw [axisTime, if_neg (Nat.ne_of_gt hmove), if_pos htriangle, isqrt_eq_sqrt hquotient]
  · have hmove : 1 ≤ d := Nat.pos_of_mul_pos_right (Nat.zero_lt_of_lt htrapezoid)
    refine ⟨ceilDiv (d * 1000) v, ceilDiv (v * 1000000) a, ?_, ceilDiv_spec hv (by omega), ceilDiv_spec ha (by omega)⟩
    rw [axisTime, if_neg (Nat.ne_of_gt hmove), if_neg (Nat.not_le.2 htrapezoid)]

/-- Settles O19: a speed is at most the quotient if and only if its product with the divisor is at most the dividend. -/
theorem geometricCeilingFitsTheWindow : Obligations.GeometricCeilingFitsTheWindow := by
  intro t m treq n
  refine ⟨fun h => if_pos h, fun h => ?_⟩
  rw [geoCeiling, if_neg (Nat.ne_of_gt h), Nat.le_div_iff_mul_le (by omega), Nat.mul_left_comm, ← Nat.mul_assoc]

end Sys2Proof.SpeedGovernor

/-! ## The demand of a commit -/

namespace Sys2Proof.SpeedGovernor

open Sys2Proof Sys2Proof.Machine Sys2Proof.StitchCycle

/-! ### The look-ahead over the stitch ceilings (R116, R117) -/

/-- The design position `j` stitches after stitch `n`, which stands at `q`. -/
def positionAfter (g : PageStore) (n : Nat) (q : Int × Int) (j : Nat) : Int × Int :=
  (q.1 + (g.displacement n j).1, q.2 + (g.displacement n j).2)

/-- The ceiling of the stitch that comes `j` after stitch `n + 1`, `q` the design position of stitch `n` (R116). -/
def ceilingAhead (d : Station) (n : Nat) (q : Int × Int) (j : Nat) : Nat :=
  match d.pgs.read (n + 1 + j) with
  | some r =>
    let a := targetOfPos d (positionAfter d.pgs n q j).1 (positionAfter d.pgs n q j).2
    let b := targetOfPos d (positionAfter d.pgs n q (j + 1)).1 (positionAfter d.pgs n q (j + 1)).2
    stitchCeiling (timing d) (motion d) (nHead d) r.kind (moveTime (motion d) (b.1 - a.1) (b.2 - a.2))
  | none => (motion d).nHalt

theorem positionAfter_zero (g : PageStore) (n : Nat) (q : Int × Int) : positionAfter g n q 0 = q := by
  simp [positionAfter, PageStore.displacement]

theorem positionAfter_one (g : PageStore) (n : Nat) (q : Int × Int) : positionAfter g n q 1 =
    match g.read (n + 1) with
    | some r => (q.1 + r.dx, q.2 + r.dy)
    | none => q := by
  cases h : g.read (n + 1) <;> simp [positionAfter, PageStore.displacement, h]

theorem positionAfter_succ (g : PageStore) (n : Nat) (q : Int × Int) (j : Nat) :
    positionAfter g n q (j + 1) = positionAfter g (n + 1) (positionAfter g n q 1) j := by
  rw [positionAfter_one]
  cases h : g.read (n + 1) <;> simp [positionAfter, PageStore.displacement, h, Int.add_assoc]

theorem ceilingAhead_succ (d : Station) (n : Nat) (q : Int × Int) (j : Nat) :
    ceilingAhead d n q (j + 1) = ceilingAhead d (n + 1) (positionAfter d.pgs n q 1) j := by
  rw [ceilingAhead, ceilingAhead, positionAfter_succ, positionAfter_succ _ _ _ (j + 1),
    show n + 1 + (j + 1) = n + 1 + 1 + j by omega]

theorem lookTerms_past {total n : Nat} (h : total < n) (d : Station) (px py : Int) (j len : Nat) :
    lookTerms d total px py n j len = [] := by
  cases len with
  | zero => rfl
  | succ len => exact if_pos h

/-- The first term, and the terms from the stitch after it on. -/
theorem lookTerms_succ {total n : Nat} (h : n + 1 ≤ total) (d : Station) (q : Int × Int) (j len : Nat) :
    lookTerms d total q.1 q.2 (n + 1) j (len + 1) = (ceilingAhead d n q 0 + j * (motion d).rampDown) ::
      lookTerms d total (positionAfter d.pgs n q 1).1 (positionAfter d.pgs n q 1).2 (n + 1 + 1) (j + 1) len := by
  rw [lookTerms, if_neg (Nat.not_lt.2 h), ceilingAhead, positionAfter_zero, positionAfter_one, Nat.add_zero]
  cases d.pgs.read (n + 1) <;> rfl

/-- The terms are those of the `len` stitches after `n` that the design has, each with its distance in revolutions. -/
theorem lookTerms_eq (d : Station) (total n : Nat) (q : Int × Int) (j len : Nat) :
    lookTerms d total q.1 q.2 (n + 1) j len = ((List.range len).filter (fun i => decide (n + 1 + i ≤ total))).map
      (fun i => ceilingAhead d n q i + (j + i) * (motion d).rampDown) := by
  induction len generalizing n q j with
  | zero => rfl
  | succ len ih =>
    by_cases h : n + 1 ≤ total
    · have hfilter : (fun i => decide (n + 1 + i ≤ total)) ∘ Nat.succ = fun i => decide (n + 1 + 1 + i ≤ total) := by
        funext i
        simp [show n + 1 + (i + 1) = n + 1 + 1 + i by omega]
      have hterm : (fun i => ceilingAhead d n q i + (j + i) * (motion d).rampDown) ∘ Nat.succ =
          fun i => ceilingAhead d (n + 1) (positionAfter d.pgs n q 1) i + (j + 1 + i) * (motion d).rampDown := by
        funext i
        simp [ceilingAhead_succ, show j + (i + 1) = j + 1 + i by omega]
      rw [lookTerms_succ h, ih, List.range_succ_eq_map, List.filter_cons_of_pos (by simpa using h), List.map_cons,
        List.filter_map, List.map_map, hfilter, hterm, Nat.add_zero j]
    · rw [lookTerms_past (Nat.lt_of_not_le h), List.filter_eq_nil_iff.2 (fun i _ => by simp; omega)]
      rfl

/-! ### The bounds of a demand (R117) -/

theorem clamp_le {lo hi n k : Nat} (hlo : lo ≤ k) (hn : n ≤ k) : clamp lo hi n ≤ k := by
  unfold clamp
  split
  · exact hlo
  · split <;> omega

theorem clamp_mem {lo hi : Nat} (h : lo ≤ hi) (n : Nat) : lo ≤ clamp lo hi n ∧ clamp lo hi n ≤ hi := by
  unfold clamp
  split
  · exact ⟨le_rfl, h⟩
  · split <;> omega

theorem demandFrom_le_rise {m : MotionSection} {standing : Nat} (terms : List Nat) (h : m.nHalt ≤ standing) :
    demandFrom m standing terms ≤ standing + m.rampUp :=
  clamp_le (by omega) (by rw [List.foldl_min]; exact min_le_left _ _)

theorem demandFrom_le_term {m : MotionSection} {terms : List Nat} {term : Nat} (standing : Nat) (hmem : term ∈ terms)
    (h : m.nHalt ≤ term) : demandFrom m standing terms ≤ term := by
  refine clamp_le h ?_
  rw [List.foldl_min_eq_min (List.ne_nil_of_mem hmem)]
  exact (min_le_right _ _).trans (List.min_le_of_mem hmem)

theorem nHalt_le_ceilingAhead (d : Station) (n : Nat) (q : Int × Int) (j : Nat) : (motion d).nHalt ≤ ceilingAhead d n q j := by
  unfold ceilingAhead
  split
  · exact le_max_left _ _
  · exact le_rfl

/-! ### The commit (R14, R117) -/

/-- A record that makes no planned stop forms the demand, before the finding and the head's decision, which leave it. -/
theorem eventD_demand {d : Station} {r : StitchRecord} (hrun : d.stc.state = .run) (hseen : d.gtu.seenHigh = true)
    (hframe : d.stc.frameRole = true) (hread : d.pgs.read (d.ssq.stitch + 1) = some r)
    (hkind : r.kind = .sew ∨ r.kind = .jump ∨ r.kind = .trim) :
    (eventD d).sgv.demand = demandAtCommit (commitStitch r (commitOpens d)) d.ssq.px d.ssq.py := by
  have hstop : stopReason r.kind = none := by rcases hkind with h | h | h <;> rw [h] <;> rfl
  have hforms : r.kind ≠ .colorStop ∧ r.kind ≠ .endRecord := by rcases hkind with h | h | h <;> rw [h] <;> decide
  have hcommit : eventD d = takenIn r d := by
    rw [eventD_high hseen (.inl hrun), commit_of_record hread, plannedStop_eq, hstop]
    rfl
  have hstate : (commitStitch r (commitOpens d)).stc.state = .run := hrun
  have hpx : (commitStitch r (commitOpens d)).ssq.px = d.ssq.px + r.dx := rfl
  have hpy : (commitStitch r (commitOpens d)).ssq.py = d.ssq.py + r.dy := rfl
  have hdemand : (commitDemand r (commitStitch r (commitOpens d))).sgv.demand =
      demandAtCommit (commitStitch r (commitOpens d)) d.ssq.px d.ssq.py := by
    rw [commitDemand, if_pos (Bool.and_eq_true_iff.2 ⟨decide_eq_true hstate, decide_eq_true hforms⟩), hpx, hpy,
      Int.add_sub_cancel, Int.add_sub_cancel]
    rfl
  rw [hcommit, takenIn]
  simp only [commitHead_frame]
  rw [commitFrame_eq (by exact hframe) (by rfl) (.inl hstate)]
  exact hdemand

/-- Settles O31: the look-ahead terms are the ceilings of the statement, and the clamped least of them keeps the bounds. -/
theorem commitDemandLaw : Obligations.CommitDemandLaw := by
  intro d r h hrun hseen hframe hheader hread hkind m n g target kindTop ceiling terms wish demand
  let e : Station := commitStitch r (commitOpens d)
  have htarget : ∀ px py, targetOfPos e px py = targetOfPos d px py := targetOfPos_congr (moveTo_header _ _ _ _) rfl rfl
  have hkindTop : ∀ k, kindTop k = kindCeiling m k := fun k => by cases k <;> rfl
  have hceiling : ∀ j, ceiling j = ceilingAhead e d.ssq.stitch (d.ssq.px, d.ssq.py) j := fun j => by
    have hpgs : e.pgs = g := rfl
    simp only [ceiling, ceilingAhead, hkindTop, htarget, hpgs]
    cases g.read (n + j) <;> rfl
  have hterms : lookTerms e h.stitches d.ssq.px d.ssq.py n 0 16 = terms := by
    rw [lookTerms_eq e h.stitches d.ssq.stitch (d.ssq.px, d.ssq.py)]
    simp only [← hceiling, Nat.zero_add]
    rfl
  have hopen : e.pgs.header = some h := (moveTo_header _ _ _ _).trans hheader
  have hdemand : demand = demandFrom m d.sgv.demand terms := by
    rw [← hterms]
    refine (eventD_demand hrun hseen hframe hread hkind).trans ?_
    rw [demandAtCommit, hopen]
    rfl
  refine ⟨hdemand, fun hlast _ hcap hstanding => ?_⟩
  have hfirst : ceiling 0 ∈ terms := List.mem_map.2 ⟨0, by simpa using hlast, by simp⟩
  have hfloor : m.nHalt ≤ ceiling 0 := by
    rw [hceiling]
    exact nHalt_le_ceilingAhead e _ _ 0
  rw [hdemand]
  obtain ⟨hlow, htop⟩ := clamp_mem hcap (terms.foldl min (d.sgv.demand + m.rampUp))
  exact ⟨hlow, htop, demandFrom_le_term _ hfirst hfloor, demandFrom_le_rise _ hstanding⟩

end Sys2Proof.SpeedGovernor

/-! ## DRIVE_READY_FALL, DRIVE_READY_RISE, CREEP_TIMEOUT -/

namespace Sys2Proof.SpeedGovernor

open Sys2Proof Sys2Proof.Machine Sys2Proof.StitchCycle

variable {d : Station}

/-! ### DRIVE_READY_FALL (R120, R124) -/

/-- The station with DRIVE_READY at a level. -/
def driveAt (high : Bool) (d : Station) : Station := { d with pins := { d.pins with driveReady := high } }

/-- A station that has lost a creep to a fall of DRIVE_READY: its attempt is taken back (R124). -/
def creepLost (d : Station) : Station :=
  { d with sgv := { d.sgv with
      mode := .stopped, demand := 0, creepTimer := none, reposition := some .awaitingDrive, attempts := d.sgv.attempts - 1 } }

theorem driveReadyFall_level (h : d.stc.frameRole = false ∨ d.pins.driveReady = false) : driveReadyFall d = driveAt false d := by
  unfold driveReadyFall
  rcases h with h | h <;> exact if_neg (by simp [h])

theorem driveReadyFall_frame_high (hframe : d.stc.frameRole = true) (hhigh : d.pins.driveReady = true) :
    driveReadyFall d = driveFalls (creepLosesDrive (driveAt false d)) := by
  unfold driveReadyFall
  exact if_pos (by simp [hframe, hhigh])

theorem creepLosesDrive_creeping (h : d.sgv.reposition = some .creeping) : creepLosesDrive d = creepLost d := if_pos h

theorem creepLosesDrive_of_ne (h : d.sgv.reposition ≠ some .creeping) : creepLosesDrive d = d := if_neg h

theorem driveFalls_acts (h : d.stc.state = .run ∨ d.stc.state = .armed ∨ d.stc.state = .halting) :
    driveFalls d = fault (plainRecord .drive 0 d) d := by
  unfold driveFalls
  rcases h with h | h | h <;> rw [h]

theorem driveFalls_still (h : ¬(d.stc.state = .run ∨ d.stc.state = .armed ∨ d.stc.state = .halting)) : driveFalls d = d := by
  unfold driveFalls
  cases hstate : d.stc.state with
  | run | armed | halting => exact absurd (by simp [hstate]) h
  | joining | ready | halted | done => rfl

/-! ### DRIVE_READY_RISE (R120, R122, R124) -/

theorem driveReadyRise_level (h : d.stc.frameRole = false ∨ d.pins.driveReady = true) : driveReadyRise d = driveAt true d := by
  unfold driveReadyRise
  rcases h with h | h <;> exact if_neg (by simp [h])

theorem driveReadyRise_frame_low (hframe : d.stc.frameRole = true) (hlow : d.pins.driveReady = false) :
    driveReadyRise d = driveRises (driveAt true d) := by
  unfold driveReadyRise
  exact if_pos (by simp [hframe, hlow])

/-- Without a sequence a rise begins one in the three states in which one is due, and does nothing otherwise. -/
theorem driveRises_none (h : d.sgv.reposition = none) : driveRises d =
    if d.stc.state = .armed ∨ d.stc.state = .halted ∨ d.stc.state = .done then crept d else d := by
  unfold driveRises
  rw [h, ← tryReposition_crept]
  cases hstate : d.stc.state <;> simp

theorem driveRises_awaitingDrive (h : d.sgv.reposition = some .awaitingDrive) : driveRises d = sequenceGoesOn d := by
  rw [driveRises, h]

theorem driveRises_still (h : d.sgv.reposition = some .creeping ∨ d.sgv.reposition = some .awaitingRest) : driveRises d = d := by
  rcases h with h | h <;> rw [driveRises, h]

/-! ### CREEP_TIMEOUT (R124, R125) -/

/-- After a creep that the rest or its timer has ended off top: position given up at the second, and otherwise one more. -/
theorem creepOffTop_creeping (h : d.sgv.reposition = some .creeping) : creepOffTop d =
    if 2 ≤ d.sgv.attempts then fault (offTopFault d) (positionGivenUp d) else beginCreep d :=
  if_neg fun hdrive => by simp [h] at hdrive

/-- The rest that ended the creep of this expiry came together with it, and first (log entry 47). -/
abbrev Stale (d : Station) : Prop := d.sht.atRest = true ∧ d.sgv.restAt = some d.now

theorem creepRunsOut_of_ne (h : d.sgv.reposition ≠ some .creeping) : creepRunsOut d = d := if_neg h

theorem creepRunsOut_stale (h : d.sgv.reposition = some .creeping) (hstale : Stale d) :
    creepRunsOut d = { d with sgv := { d.sgv with restAt := none } } := by
  rw [creepRunsOut, if_pos h, restCameFirst, if_pos (by simpa using hstale.symm)]
  rfl

theorem creepRunsOut_ends (h : d.sgv.reposition = some .creeping) (hstale : ¬Stale d) : creepRunsOut d = creepEnds d := by
  rw [creepRunsOut, if_pos h, restCameFirst, if_neg (by simpa [and_comm] using hstale)]

theorem creepEnds_atRest (h : d.sgv.reposition = some .creeping) (hrest : d.sht.atRest = true) : creepEnds d =
    if 2 ≤ d.sgv.attempts then fault (offTopFault d) (positionGivenUp d) else beginCreep (governorStop d) :=
  (if_pos hrest).trans (creepOffTop_creeping (d := governorStop d) h)

theorem creepEnds_turning (hrest : d.sht.atRest = false) : creepEnds d = { d with sgv := { d.sgv with
    mode := .stopped, demand := 0, creepTimer := none, reposition := some .awaitingRest } } :=
  if_neg (by simp [hrest])

/-- Settles O57: by the level that stood at the input, then by the sequence in progress, then by the state or the shaft. -/
theorem driveReadyAndCreep : Obligations.DriveReadyAndCreep := by
  intro s hlive d low high stopped next acts drive lost stale
  have hfall : exec .driveReadyFall s = .next (closed s (driveReadyFall d)) := exec_live hlive nofun nofun
  have hrise : exec .driveReadyRise s = .next (closed s (driveReadyRise d)) := exec_live hlive nofun nofun
  have hcreep : exec .creepTimeout s = .next (closed s (creepRunsOut d)) := exec_live hlive nofun nofun
  rw [hfall, hrise, hcreep]
  refine ⟨fun hhead => ?head, fun hlow => ?fallLow, fun hhigh => ?riseHigh, fun hframe hhigh hseq => ?fall,
    fun hframe hhigh hseq => ?fallCreeping, fun hframe hlow hseq => ?riseFree, fun hframe hlow hseq => ?riseAwaiting,
    fun hframe hlow hseq => ?riseBusy, fun hseq => ?noCreep, fun hseq => ?creep⟩
  case head => exact ⟨by rw [driveReadyFall_level (.inl hhead)]; rfl, by rw [driveReadyRise_level (.inl hhead)]; rfl⟩
  case fallLow => rw [driveReadyFall_level (.inr hlow)]; rfl
  case riseHigh => rw [driveReadyRise_level (.inr hhigh)]; rfl
  case fall =>
    rw [driveReadyFall_frame_high hframe hhigh, creepLosesDrive_of_ne (by exact hseq)]
    exact ⟨fun h => by rw [driveFalls_acts (by exact h)]; rfl, fun h => by rw [driveFalls_still (by exact h)]; rfl⟩
  case fallCreeping =>
    rw [driveReadyFall_frame_high hframe hhigh, creepLosesDrive_creeping (by exact hseq)]
    exact ⟨fun h => by rw [driveFalls_acts (by exact h)]; rfl, fun h => by rw [driveFalls_still (by exact h)]; rfl⟩
  case riseFree =>
    rw [driveReadyRise_frame_low hframe hlow, driveRises_none (by exact hseq)]
    refine ⟨fun hstate hdue => ?_, fun hnot => ?_⟩
    · rw [if_pos (by exact hstate), crept, if_pos (by exact hdue)]
      rfl
    · by_cases hstate : d.stc.state = .armed ∨ d.stc.state = .halted ∨ d.stc.state = .done
      · rw [if_pos (by exact hstate), crept_of_not_due (by exact fun hdue => hnot ⟨hstate, hdue⟩)]
        rfl
      · rw [if_neg (by exact hstate)]
        rfl
  case riseAwaiting =>
    rw [driveReadyRise_frame_low hframe hlow, driveRises_awaitingDrive (by exact hseq), sequenceGoesOn]
    refine ⟨fun hrest hoff => ?_, fun hrest htop => ?_, fun hturns => ?_⟩
    · rw [if_pos (by exact hrest), if_neg (by simp [restOnTop, driveAt, hoff])]
      rfl
    · rw [if_pos (by exact hrest), if_pos (by simp [restOnTop, driveAt, hrest, htop])]
      rfl
    · rw [if_neg (by simp [driveAt, hturns])]
      rfl
  case riseBusy =>
    rw [driveReadyRise_frame_low hframe hlow, driveRises_still (by exact hseq)]
    rfl
  case noCreep => rw [creepRunsOut_of_ne hseq]
  case creep =>
    refine ⟨fun hturns => ?_, fun hstale => ?_, fun hrest hstale hspent => ?_, fun hrest hstale hleft => ?_⟩
    · rw [creepRunsOut_ends hseq (fun ⟨hrest, _⟩ => nomatch hrest.symm.trans hturns), creepEnds_turning hturns]
    · rw [creepRunsOut_stale hseq hstale]
    · rw [creepRunsOut_ends hseq hstale, creepEnds_atRest hseq hrest, if_pos hspent]
      rfl
    · rw [creepRunsOut_ends hseq hstale, creepEnds_atRest hseq hrest, if_neg (Nat.not_le.2 hleft)]
      rfl

end Sys2Proof.SpeedGovernor

/-! ## The needle case: the settle judgement, its timer, NEEDLE_MAP -/

namespace Sys2Proof.NeedleCaseControl

open Sys2Proof Sys2Proof.Machine Sys2Proof.StitchCycle Sys2Proof.StationStates

variable {d : Station}

/-! ### The settle judgement (R135) -/

/-- The Thread Monitor once the case has settled on the current needle: a needle other than the settled one is a needle change
(R142, R143, R145, R146). -/
def settledThread (d : Station) : ThreadMonitor :=
  if currentNeedle d = d.ncc.settledNeedle then d.thm else { d.thm with
    pen := none, suppression := (thread d).suppression, runStart := none, dryCount := 0, restart := true, tension := .clear }

/-- The station once the case has settled on the current needle (R135). -/
def settledNow (d : Station) : Station :=
  { d with
    ncc := { d.ncc with settled := true, settleTimer := none, settledNeedle := currentNeedle d }
    thm := settledThread d }

theorem completeSettle_eq (d : Station) : completeSettle d = settledNow d := by
  unfold completeSettle settledNow settledThread
  by_cases h : currentNeedle d = d.ncc.settledNeedle
  · simp only [h, if_true, ne_eq, not_true_eq_false, if_false]
    rfl
  · simp only [h, if_false, ne_eq, not_false_eq_true, if_true]
    rfl

theorem settledThread_same (h : currentNeedle d = d.ncc.settledNeedle) : settledThread d = d.thm := if_pos h

theorem settledThread_changed (h : currentNeedle d ≠ d.ncc.settledNeedle) : settledThread d = { d.thm with
    pen := none, suppression := (thread d).suppression, runStart := none, dryCount := 0, restart := true, tension := .clear } :=
  if_neg h

/-- The case is latched on the wanted needle (R135). -/
abbrev OnWanted (d : Station) : Prop := wantedNeedle d ≠ 0 ∧ currentNeedle d = wantedNeedle d

/-- Nothing of the settle stands: neither is settled set, nor does the timer run. -/
abbrev Unsettled (d : Station) : Prop := d.ncc.settled = false ∧ d.ncc.settleTimer = none

theorem judgeSettle_off (h : ¬OnWanted d) :
    judgeSettle d = { d with ncc := { d.ncc with settleTimer := none, settled := false } } :=
  if_neg (mt of_decide_eq_true h)

theorem judgeSettle_stands (h : OnWanted d) (hstands : ¬Unsettled d) : judgeSettle d = d := by
  have hset : (d.ncc.settled || d.ncc.settleTimer.isSome) = true := by
    by_contra hnot
    exact hstands (by simpa using hnot)
  rw [judgeSettle, onWanted, if_pos (decide_eq_true h), if_pos hset]

/-- Newly latched on the wanted needle: the timer starts, or settled is set at once with a settle time of 0. -/
theorem judgeSettle_latched (h : OnWanted d) (hfresh : Unsettled d) : judgeSettle d =
    if (thread d).settleTime = 0 then settledNow d else { d with ncc := { d.ncc with settleTimer := some d.now } } := by
  obtain ⟨hsettled, htimer⟩ := hfresh
  rw [judgeSettle, onWanted, if_pos (decide_eq_true h), if_neg (by simp [hsettled, htimer]), completeSettle_eq]
  rfl

theorem judgeSettle_starts (h : OnWanted d) (hfresh : Unsettled d) (htime : (thread d).settleTime ≠ 0) :
    judgeSettle d = { d with ncc := { d.ncc with settleTimer := some d.now } } := by
  rw [judgeSettle_latched h hfresh, if_neg htime]

theorem judgeSettle_completes (h : OnWanted d) (hfresh : Unsettled d) (htime : (thread d).settleTime = 0) :
    judgeSettle d = settledNow d := by
  rw [judgeSettle_latched h hfresh, if_pos htime]

/-- The settle judgement, with its four answers in one (R135). -/
theorem judgeSettle_eq (d : Station) : judgeSettle d =
    if ¬OnWanted d then { d with ncc := { d.ncc with settleTimer := none, settled := false } }
    else if ¬Unsettled d then d
    else if (thread d).settleTime ≠ 0 then { d with ncc := { d.ncc with settleTimer := some d.now } }
    else settledNow d := by
  split_ifs with hon hfresh htime
  · exact judgeSettle_starts hon hfresh htime
  · exact judgeSettle_completes hon hfresh (not_not.1 htime)
  · exact judgeSettle_stands hon hfresh
  · exact judgeSettle_off hon

theorem judgeSettle_successAt (d : Station) : (judgeSettle d).ncc.successAt = d.ncc.successAt := by
  rw [judgeSettle_eq]
  split_ifs <;> rfl

/-! ### NEEDLE_MAP (R127, R128) -/

theorem length_mapOf (p : Payload) : (mapOf p).length = 64 := by
  simp [mapOf, List.length_flatMap]

/-- Some entry of the map names no needle (R128), as the check has it. -/
theorem mapOf_any_iff (p : Payload) :
    (mapOf p).any (fun n => Config.needles < n) = true ↔ ∃ i, i < 64 ∧ 12 < (mapOf p).getD i 0 := by
  rw [List.any_eq_true]
  constructor
  · rintro ⟨n, hmem, hn⟩
    obtain ⟨i, hi, rfl⟩ := List.getElem_of_mem hmem
    refine ⟨i, by simpa [length_mapOf] using hi, ?_⟩
    rw [List.getD_eq_getElem _ _ hi]
    exact of_decide_eq_true hn
  · rintro ⟨i, hi, hn⟩
    have hlen : i < (mapOf p).length := by rwa [length_mapOf]
    rw [List.getD_eq_getElem _ _ hlen] at hn
    exact ⟨_, List.getElem_mem hlen, decide_eq_true hn⟩

/-- Settles O45: the check of the map, then the settle judged against the needle the new map wants. -/
theorem needleMapReplacesTheMap : Obligations.NeedleMapReplacesTheMap := by
  intro src p s hlive htaken d m
  have hexec : exec (.needleMap src p) s = .next (closed s (needleMapOwner p d)) := exec_notice hlive rfl rfl htaken
  rw [hexec]
  refine ⟨fun hbad => ?refused, fun hfits => ?replaced⟩
  case refused =>
    rw [needleMapOwner, if_pos ((mapOf_any_iff p).2 hbad), refuse_eq]
  case replaced =>
    have hgood : ¬(mapOf p).any (fun n => Config.needles < n) = true := fun hany => by
      obtain ⟨i, hi, hn⟩ := (mapOf_any_iff p).1 hany
      exact absurd hn (Nat.not_lt.2 (hfits i hi))
    have howner : needleMapOwner p d = judgeSettle m := if_neg hgood
    rw [howner]
    refine ⟨fun hoff => ?_, fun hwanted hcurrent hstands => ?_, fun hwanted hcurrent hsettled htimer htime => ?_,
      fun hwanted hcurrent hsettled htimer htime => ?_⟩
    · rw [judgeSettle_off fun ⟨hwanted, hcurrent⟩ => hoff.elim hwanted (· hcurrent)]
    · rw [judgeSettle_stands ⟨hwanted, hcurrent⟩ fun ⟨hsettled, htimer⟩ =>
        hstands.elim (fun h => nomatch h.symm.trans hsettled) (· htimer)]
    · rw [judgeSettle_starts ⟨hwanted, hcurrent⟩ ⟨hsettled, htimer⟩ htime]
    · rw [judgeSettle_completes ⟨hwanted, hcurrent⟩ ⟨hsettled, htimer⟩ htime]
      rfl

end Sys2Proof.NeedleCaseControl

/-! ## HEAD_SELECT and FAULT_CLEAR -/

namespace Sys2Proof.NeedleCaseControl

open Sys2Proof Sys2Proof.Machine Sys2Proof.StitchCycle Sys2Proof.StationStates

variable {d : Station}

/-! ### HEAD_SELECT (R159, R160) -/

/-- A Head Select reaches its owner in READY, HALTED and DONE alone (R45). -/
theorem atRest_of_headSelect_taken {lenOk : Bool} {src : Addr} {p : Payload}
    (h : noticeTaken d .headSelect lenOk src p = true) :
    d.stc.state = .ready ∨ d.stc.state = .halted ∨ d.stc.state = .done := by
  have hacc := acceptance_of_taken h
  simp only [acceptance, acceptTable, ite_self] at hacc
  cases hstate : d.stc.state with
  | ready | halted | done => simp
  | joining | armed | run | halting => simp [hstate, acceptTable.atRestOnly] at hacc

theorem setActivity_same {a : Activity} (h : d.stc.activity = a) : setActivity a d = d := if_pos h

/-- A change of the activity outside RUN and ARMED: a head that leaves ACTIVE leaves its case as R134 gives, and the count of
ACTIVE heads is no matter (R162). -/
theorem setActivity_changes {a : Activity} (hrun : d.stc.state ≠ .run) (harmed : d.stc.state ≠ .armed)
    (h : d.stc.activity ≠ a) : setActivity a d = { d with
      stc := { d.stc with activity := a }
      ncc := if a = .active then d.ncc else d.ncc.left } := by
  rw [setActivity, if_neg h]
  by_cases ha : a = .active
  · rw [if_pos ha, if_pos ha, headCheck_still (by exact hrun) (by exact harmed)]
    rfl
  · rw [if_neg ha, if_neg ha, caseLeaves_eq, headCheck_still (by exact hrun) (by exact harmed)]
    rfl

/-! ### FAULT_CLEAR (R149, R166) -/

theorem removeOldest_eq (d : Station) : removeOldest d = { d with stc := { d.stc with
    faults := d.stc.faults.tail
    overflow := d.stc.overflow && decide (d.stc.faults.length ≠ 1) } } := by
  rcases hfaults : d.stc.faults with _ | ⟨oldest, _ | ⟨second, rest⟩⟩
  · calc removeOldest d = d := by rw [removeOldest, hfaults]
      _ = { d with stc := { d.stc with faults := d.stc.faults, overflow := d.stc.overflow } } := rfl
      _ = _ := by simp [hfaults]
  · simp [removeOldest, hfaults, Station.setStc]
  · simp [removeOldest, hfaults, Station.setStc]

/-- On a head a needle field that names a needle puts it back in service, with a count of 0 (R149). -/
theorem restoreNeedle_eq (n : Nat) (d : Station) : restoreNeedle n d = { d with thm :=
    if d.stc.headRole = true ∧ 1 ≤ n then
      { d.thm with counts := d.thm.counts.set (n - 1) 0, service := d.thm.service.set (n - 1) true }
    else d.thm } := by
  unfold restoreNeedle
  by_cases h : d.stc.headRole = true ∧ 1 ≤ n
  · rw [if_pos (by simpa using h), if_pos h]
    rfl
  · rw [if_neg (by simpa using h), if_neg h]

/-- Settles O44: the activity that the mask gives, changed or not; the needle field, then the record removed and the needle
restored. -/
theorem headSelectAndFaultClear : Obligations.HeadSelectAndFaultClear := by
  intro src p s hlive d act n
  refine ⟨fun htaken => ?select, fun htaken => ?clear⟩
  case select =>
    have hexec : exec (.headSelect src p) s = .next (closed s (setActivity act d)) :=
      exec_notice (owner := headSelectOwner p) hlive rfl rfl htaken
    have hstate := atRest_of_headSelect_taken (d := d) (by exact htaken)
    rw [hexec]
    refine ⟨fun hsame => by rw [setActivity_same hsame], fun hchanges => ?_⟩
    rw [setActivity_changes (fun h => by simp [h] at hstate) (fun h => by simp [h] at hstate) hchanges]
  case clear =>
    have hexec : exec (.faultClear src p) s = .next (closed s (faultClearOwner p d)) := exec_notice hlive rfl rfl htaken
    rw [hexec]
    refine ⟨fun hbad => ?_, fun hfits => ?_⟩
    · rw [faultClearOwner, if_pos (by exact hbad), refuse_eq]
    · rw [faultClearOwner, if_neg (by exact Nat.not_lt.2 hfits), restoreNeedle_eq, removeOldest_eq]
      rfl

end Sys2Proof.NeedleCaseControl

/-! ## CASE_SENSOR_CHANGE, STEP_TIMEOUT, SETTLE_TIMER_EXPIRY -/

namespace Sys2Proof.NeedleCaseControl

open Sys2Proof Sys2Proof.Machine Sys2Proof.StitchCycle Sys2Proof.StationStates

variable {d : Station} {st : CaseStep}

/-! ### CASE_SENSOR_CHANGE without a step (R129) -/

/-- The case is stopped as lost, and CASE_LOST, with the stitch number, the needle and the reading given, taken under the fault
policy (R129, R133, R161). -/
def caseLost (stitch needle reading : Nat) (d : Station) : Station :=
  headFault { kind := .caseLost, stitch := stitch, needle := some needle, value := some reading }
    { d with ncc := { d.ncc with stopped := .lost } }

/-- An ACTIVE head in ARMED, RUN or HALTING whose case leaves its needle is CASE_LOST with it, and any other change is taken as it
is. -/
theorem sensorAlone_eq (before : Nat) (d : Station) : sensorAlone before d =
    if (d.stc.activity = .active ∧ (d.stc.state = .armed ∨ d.stc.state = .run ∨ d.stc.state = .halting)) ∧
      before ≠ 0 ∧ currentNeedle d ≠ before then caseLost d.ssq.stitch before (positionReading d) d else d :=
  if_congr (by simp only [caseInUse, Bool.and_eq_true, decide_eq_true_eq]) rfl rfl

/-! ### CASE_SENSOR_CHANGE in a step (R131 to R133) -/

/-- The step record gone, the settle items as they are (R131 to R133). -/
def stepEnded (d : Station) : Station := { d with ncc := { d.ncc with step := none, attempts := 0, stepWaiting := false } }

/-- The step record gone by its success; at the reading `successAt` of the clock an expiry of its timer finds it gone (R132, log
entry 56). -/
def stepWon (successAt : Option Nat) (d : Station) : Station :=
  { d with ncc := { d.ncc with step := none, attempts := 0, stepWaiting := false, successAt := successAt } }

theorem markSuccess_endStep (st : CaseStep) (d : Station) :
    markSuccess st (endStep d) = stepWon (if st.timer = none then d.ncc.successAt else some d.now) d := by
  unfold markSuccess
  cases st.timer <;> rfl

theorem sensorInStep_latched (hlatch : d.pins.caseLatch = true) (hpos : positionReading d = st.toNeedle) :
    sensorInStep st d = tryStep (stepWon (if st.timer = none then d.ncc.successAt else some d.now) d) := by
  rw [sensorInStep, if_pos (by simp [hlatch, hpos]), markSuccess_endStep]

theorem sensorInStep_passes (hnot : ¬(d.pins.caseLatch = true ∧ positionReading d = st.toNeedle))
    (hpos : positionReading d = st.fromNeedle ∨ positionReading d = st.toNeedle ∨ positionReading d = 0) :
    sensorInStep st d = d := by
  rw [sensorInStep, if_neg (by simpa using hnot), if_pos hpos]

theorem sensorInStep_lost (hfrom : positionReading d ≠ st.fromNeedle) (hto : positionReading d ≠ st.toNeedle)
    (hnone : positionReading d ≠ 0) : sensorInStep st d = caseLost d.ssq.stitch st.toNeedle (positionReading d) (stepEnded d) := by
  rw [sensorInStep, if_neg (by simp [hto]), if_neg (by simp [hfrom, hto, hnone])]
  rfl

/-! ### CASE_SENSOR_CHANGE: the settle first (log entry 55) -/

theorem sensorChange_frame_only {before : Nat} (h : d.stc.headRole = false) : sensorChange before d = d :=
  if_neg (by simp [h])

theorem sensorChange_alone {before : Nat} (hhead : d.stc.headRole = true) (hstep : d.ncc.step = none) :
    sensorChange before d = sensorAlone before (judgeSettle d) := by
  rw [sensorChange, if_pos hhead]
  simp only [judgeSettle_step, hstep]

theorem sensorChange_inStep {before : Nat} (hhead : d.stc.headRole = true) (hstep : d.ncc.step = some st) :
    sensorChange before d = sensorInStep st (judgeSettle d) := by
  rw [sensorChange, if_pos hhead]
  simp only [judgeSettle_step, hstep]

theorem positionReading_judgeSettle (d : Station) : positionReading (judgeSettle d) = positionReading d := by
  simp [positionReading]

theorem currentNeedle_judgeSettle (d : Station) : currentNeedle (judgeSettle d) = currentNeedle d := by
  simp [currentNeedle, positionReading_judgeSettle]

/-- Settles O58: the settle judged, then the step in progress, or the head without one, by the new reading. -/
theorem caseSensorsJudged : Obligations.CaseSensorsJudged := by
  intro code latch s hlive d c e pos now onIt fresh judged ended lost used
  have hexec : exec c s = .next (closed s (sensorChange (currentNeedle d) e)) := exec_live hlive nofun nofun
  have hjudged : judgeSettle e = judged := judgeSettle_eq e
  have hpos : positionReading judged = pos := by rw [← hjudged, positionReading_judgeSettle]; rfl
  have hnow : currentNeedle judged = now := by rw [← hjudged, currentNeedle_judgeSettle]; rfl
  have hstc : judged.stc = d.stc := by rw [← hjudged]; simp [e]
  have hstitch : judged.ssq.stitch = d.ssq.stitch := by rw [← hjudged]; simp [e]
  have hsht : judged.sht = d.sht := by rw [← hjudged]; simp [e]
  have hclock : judged.now = d.now := by rw [← hjudged]; simp [e]
  have hmark : judged.ncc.successAt = d.ncc.successAt := by rw [← hjudged, judgeSettle_successAt]
  have hlatch : judged.pins.caseLatch = latch := by rw [← hjudged]; simp [e]
  rw [hexec]
  refine ⟨fun hframe => ?frameOnly, fun hhead hstep => ?alone, fun st hhead hstep => ?inStep⟩
  case frameOnly => rw [sensorChange_frame_only (by exact hframe)]
  case alone =>
    rw [sensorChange_alone (by exact hhead) (by exact hstep), hjudged, sensorAlone_eq, hstc, hnow, hstitch, hpos]
    exact ⟨fun hused hon hleaves => by rw [if_pos ⟨hused, hon, hleaves⟩]; rfl, fun hstays => by rw [if_neg hstays]⟩
  case inStep =>
    intro won
    have htop : restOnTop won = restOnTop d := congrArg (fun t : ShaftTracker => t.atRest && t.onTop) hsht
    rw [sensorChange_inStep (by exact hhead) (by exact hstep), hjudged]
    refine ⟨fun hl hp => ?latched, fun hnot hpasses => ?passes, fun hfrom hto hnone => ?lost⟩
    case latched =>
      have hwon : sensorInStep st judged = tryStep won := by
        rw [sensorInStep_latched (hlatch.trans hl) (hpos.trans hp), hmark, hclock]
        rfl
      rw [hwon]
      refine ⟨fun hdue => ?_, fun hdue hrest => ?_, fun hdue hrest => ?_⟩
      · rw [tryStep_of_not_due hdue]
      · rw [tryStep_steps hdue (htop.trans hrest)]
      · rw [tryStep_waits hdue (htop.trans hrest)]
    case passes => rw [sensorInStep_passes (by rwa [hlatch, hpos]) (by rwa [hpos])]
    case lost =>
      rw [sensorInStep_lost (by rwa [hpos]) (by rwa [hpos]) (by rwa [hpos]), hstitch, hpos]
      rfl

/-! ### STEP_TIMEOUT (R132) -/

/-- An expiry at the reading of the clock at which a step succeeded is the ended step's (log entry 56). -/
theorem stepTimeout_stale (h : d.ncc.successAt = some d.now) :
    stepTimeout d = { d with ncc := { d.ncc with successAt := none } } :=
  if_pos (decide_eq_true h)

theorem stepTimeout_idle (h : d.ncc.successAt ≠ some d.now) (hidle : ∀ st, d.ncc.step = some st → st.timer = none) :
    stepTimeout d = d := by
  rw [stepTimeout, successCameFirst, if_neg (by simpa using h)]
  cases hstep : d.ncc.step with
  | none => rfl
  | some st => exact if_neg (by simp [hidle st hstep])

theorem stepTimeout_runs {t0 : Nat} (h : d.ncc.successAt ≠ some d.now) (hstep : d.ncc.step = some st)
    (htimer : st.timer = some t0) : stepTimeout d = stepRunsOut st d := by
  rw [stepTimeout, successCameFirst, if_neg (by simpa using h), hstep]
  exact if_pos (by simp [htimer])

/-- What the expiry does to an ACTIVE head's step in ARMED: by the attempts made, and by the shaft. -/
theorem stepRunsOut_armed (harmed : d.stc.state = .armed) (hactive : d.stc.activity = .active) : stepRunsOut st d =
    if 3 ≤ d.ncc.attempts then caseJam st d
    else if restOnTop d then retryStep st d
    else { d with ncc := { d.ncc with step := some { st with timer := none }, stepWaiting := true } } :=
  if_neg (by simp [harmed, hactive])

/-! ### SETTLE_TIMER_EXPIRY (R135) -/

theorem settleRunsOut_idle (h : d.ncc.settleTimer = none) : settleRunsOut d = d := if_neg (by simp [h])

theorem settleRunsOut_runs (h : d.ncc.settleTimer ≠ none) : settleRunsOut d = settledNow d :=
  (if_pos (Option.isSome_iff_ne_none.2 h)).trans (completeSettle_eq d)

/-- Settles O59: the two timers, each by whether it runs; the step's by the state, the attempts and the shaft, the settle's by
the needle. -/
theorem caseTimers : Obligations.CaseTimers := by
  intro s hlive d ended pos settled
  have hstep : exec .stepTimeout s = .next (closed s (stepTimeout d)) := exec_live hlive nofun nofun
  have hsettle : exec .settleTimerExpiry s = .next (closed s (settleRunsOut d)) := exec_live hlive nofun nofun
  rw [hstep, hsettle]
  refine ⟨fun hstale => by rw [stepTimeout_stale hstale], fun hfresh hidle => by rw [stepTimeout_idle hfresh hidle],
    fun hfresh st t0 hst htimer => ?runs, fun hidle => by rw [settleRunsOut_idle hidle], fun hruns hsame => ?same,
    fun hruns hchanged => ?changed⟩
  case runs =>
    rw [stepTimeout_runs hfresh hst htimer]
    refine ⟨fun helsewhere => ?_, fun harmed hactive hspent => ?_, fun harmed hactive hleft htop => ?_,
      fun harmed hactive hleft hoff => ?_⟩
    · rw [stepRunsOut, if_pos helsewhere]
      rfl
    · rw [stepRunsOut_armed harmed hactive, if_pos hspent]
      rfl
    · rw [stepRunsOut_armed harmed hactive, if_neg (Nat.not_le.2 hleft), if_pos htop]
      rfl
    · rw [stepRunsOut_armed harmed hactive, if_neg (Nat.not_le.2 hleft), if_neg (by simp [hoff])]
  case same => rw [settleRunsOut_runs hruns, settledNow, settledThread_same hsame]
  case changed => rw [settleRunsOut_runs hruns, settledNow, settledThread_changed hchanged]

end Sys2Proof.NeedleCaseControl

/-! ## The tension filter, the tension state and the fault bands -/

namespace Sys2Proof.ThreadTension

open Sys2Proof Sys2Proof.Machine

/-! ### The filter (R145) -/

/-- F after a filtered sample. -/
def filtered (sample : Nat) (m : ThreadMonitor) : Nat := (7 * m.filter + sample + 4) / 8

theorem filterSample_restart {m : ThreadMonitor} (sample : Nat) (h : m.restart = true) :
    filterSample sample m = { m with filter := sample, samples := 0, restart := false } := if_pos h

theorem filterSample_early {m : ThreadMonitor} (sample : Nat) (h : m.restart = false) (hearly : m.samples < 3) :
    filterSample sample m = { m with filter := filtered sample m, samples := m.samples + 1 } := by
  rw [filterSample, if_neg (by simp [h]), Nat.min_eq_right (by omega)]
  rfl

theorem filterSample_full {m : ThreadMonitor} (sample : Nat) (h : m.restart = false) (hfull : 3 ≤ m.samples) :
    filterSample sample m = { m with filter := filtered sample m, samples := 4 } := by
  rw [filterSample, if_neg (by simp [h]), Nat.min_eq_left (by omega)]
  rfl

/-! ### The fault bands (R148) -/

theorem tensionFinding_within {t : ThreadSection} {f : Nat} (hlo : t.tLoF ≤ f) (hhi : f ≤ t.tHiF) :
    tensionFinding t f = none := by
  rw [tensionFinding, if_neg (Nat.not_lt.2 hlo), if_neg (Nat.not_lt.2 hhi)]

theorem tensionFinding_outside {t : ThreadSection} {f : Nat} (h : f < t.tLoF ∨ t.tHiF < f) :
    tensionFinding t f = some (if f < t.tLoF then .tensionLow else .tensionHigh) := by
  unfold tensionFinding
  split
  next => rfl
  next hlo => exact if_pos (h.resolve_left hlo)

/-! ### A judged sample (R146, R148) -/

/-- The station once the tension state is formed from F (R146). -/
def tensionFormed (d : Station) : Station :=
  { d with thm := { d.thm with tension := tensionAfter (thread d) d.thm.tension d.thm.filter } }

@[simp] theorem thread_setThm (d : Station) (m : ThreadMonitor) : thread (d.setThm m) = thread d := rfl

theorem judgeTension_within {needle : Nat} {d : Station} (hlo : (thread d).tLoF ≤ d.thm.filter)
    (hhi : d.thm.filter ≤ (thread d).tHiF) : judgeTension needle d = tensionFormed d := by
  simp only [judgeTension, Station.setThm_thm, thread_setThm, tensionFinding_within hlo hhi]
  rfl

theorem judgeTension_outside {needle : Nat} {d : Station}
    (h : d.thm.filter < (thread d).tLoF ∨ (thread d).tHiF < d.thm.filter) :
    judgeTension needle d =
      tensionFault (if d.thm.filter < (thread d).tLoF then .tensionLow else .tensionHigh) needle (tensionFormed d) := by
  simp only [judgeTension, Station.setThm_thm, thread_setThm, tensionFinding_outside h]
  rfl

/-! ### The sample of a penetration (R144, R145) -/

theorem takeSample_restart {p : Penetration} {d : Station} (h : d.thm.restart = true) :
    takeSample p d = { d with thm := { d.thm with filter := p.peak, samples := 0, restart := false } } := by
  rw [takeSample, filterSample_restart _ h]
  exact if_neg (show ¬ 0 = 4 by decide)

theorem takeSample_early {p : Penetration} {d : Station} (h : d.thm.restart = false) (hearly : d.thm.samples < 3) :
    takeSample p d =
      { d with thm := { d.thm with filter := filtered p.peak d.thm, samples := d.thm.samples + 1 } } := by
  rw [takeSample, filterSample_early _ h hearly]
  exact if_neg (show ¬ d.thm.samples + 1 = 4 by omega)

/-- The fourth filtered sample after a restart, and each later one, is judged. -/
theorem takeSample_full {p : Penetration} {d : Station} (h : d.thm.restart = false) (hfull : 3 ≤ d.thm.samples) :
    takeSample p d =
      judgeTension p.needle { d with thm := { d.thm with filter := filtered p.peak d.thm, samples := 4 } } := by
  rw [takeSample, filterSample_full _ h hfull]
  exact if_pos rfl

/-- Settles O37: the sample by the restart and the sample count, a judged one by the fault bands. -/
theorem tensionFilterAndState : Obligations.TensionFilterAndState := by
  intro d p f state
  refine ⟨takeSample_restart, takeSample_early, fun h hfull hlo hhi => ?within, fun h hfull hout => ?outside⟩
  case within =>
    rw [takeSample_full h hfull, judgeTension_within hlo hhi]
    rfl
  case outside =>
    rw [takeSample_full h hfull, judgeTension_outside hout]
    rfl

end Sys2Proof.ThreadTension

/-! ## A PENETRATE stands only on a fit head: every step -/

namespace Sys2Proof.HeadStitchControl

open Sys2Proof Sys2Proof.Machine Sys2Proof.StitchCycle

/-- R154's law asks nothing of a head without a decision. -/
theorem penetrationLaw_of_no_decision {d : Station} (h : d.hsc.decision = none) : PenetrationLaw d := by
  intro x hx
  rw [h] at hx
  cases hx

/-- A PENETRATE that is withdrawn stands no more (R155). -/
theorem withholdPenetration_holds {d : Station} {x : Decision} (hx : (withholdPenetration d).hsc.decision = some x) :
    x.penetrate = false := by
  rw [withholdPenetration_eq] at hx
  cases hd : d.hsc.decision with
  | none => simp [hd] at hx
  | some y =>
    cases hp : y.penetrate with
    | false =>
      have hkept : y = x := by simpa [hd, hp] using hx
      exact hkept ▸ hp
    | true =>
      have hchanged : { y with penetrate := false } = x := by simpa [hd, hp] using hx
      exact hchanged ▸ rfl

/-- A PENETRATE that R155 leaves standing, whatever stood before, is that of a fit head. -/
theorem fit_of_holdIfUnfit_penetrate {d : Station} {x : Decision} (hx : (holdIfUnfit d).hsc.decision = some x)
    (hp : x.penetrate = true) : Fit d := by
  by_contra hunfit
  rw [holdIfUnfit_eq, if_neg hunfit] at hx
  simp [withholdPenetration_holds hx] at hp

/-- The close of a command makes R154's law hold, whatever the command's effect left: it withdraws the PENETRATE of an unfit head,
and it changes nothing that fitness is judged by. -/
theorem finish_penetrationLaw (before after : Station) : PenetrationLaw (finish before after) := by
  intro x hx hp
  rw [finish_eq] at hx ⊢
  have hfit : Fit after := fit_of_holdIfUnfit_penetrate hx hp
  exact hfit

/-- Settles O10, by the cases of a step: the clock and the pins are no matter to the law, RESET_N's fall and rise leave no decision,
and the close of every other command makes the law hold. -/
theorem penetrateOnlyWhileFit : Obligations.PenetrateOnlyWhileFit := by
  intro s t h hstep
  rcases step_cases hstep with ⟨v, he⟩ | ⟨p, he⟩ | he | ⟨a, x, y, he⟩ | ⟨c, he⟩ <;> rw [he]
  · exact h
  · exact h
  · exact penetrationLaw_of_no_decision rfl
  · exact penetrationLaw_of_no_decision rfl
  · exact finish_penetrationLaw _ _

end Sys2Proof.HeadStitchControl

/-! ## The fault list's bound: the shared operations -/

namespace Sys2Proof.FaultList

open Sys2Proof Sys2Proof.Machine Sys2Proof.StitchCycle

/-! ### What leaves the list as it is, or clears it -/

@[simp] theorem enterState_faults (st : StationState) (d : Station) : (enterState st d).stc.faults = d.stc.faults := by
  unfold enterState
  split <;> simp

@[simp] theorem refuse_faults (kind : NoticeKind) (why : RefusalReason) (d : Station) :
    (refuse kind why d).stc.faults = d.stc.faults := by
  rw [refuse_eq]
  rfl

@[simp] theorem withdrawHead_faults (d : Station) : (withdrawHead d).stc.faults = d.stc.faults := by simp [withdrawHead]

@[simp] theorem enterHalted_faults (d : Station) : (enterHalted d).stc.faults = d.stc.faults := by simp [enterHalted]

@[simp] theorem returnToFormer_faults (d : Station) : (returnToFormer d).stc.faults = d.stc.faults := by
  unfold returnToFormer
  simp only
  (repeat' split) <;> simp

@[simp] theorem armedHeadCheck_faults (d : Station) : (armedHeadCheck d).stc.faults = d.stc.faults := by
  unfold armedHeadCheck
  split <;> simp

/-- A Configure section that is held, or refused, writes no record (R26). -/
theorem holdSection_faults {α : Type} {check : Except RefusalReason α} {hold : α → Station → Station} {d : Station}
    (hhold : ∀ a, (hold a d).stc.faults = d.stc.faults) : (holdSection check hold d).stc.faults = d.stc.faults := by
  unfold holdSection sectionHeld enterReady
  (repeat' split) <;> simp [hhold]

@[simp] theorem needleMapOwner_faults (p : Payload) (d : Station) : (needleMapOwner p d).stc.faults = d.stc.faults := by
  unfold needleMapOwner
  split <;> simp

/-- An entry to JOINING keeps the records at an address clash, and clears them otherwise (R23, R24). -/
theorem toJoining_faults (clash : Bool) (d : Station) :
    (toJoining clash d).stc.faults = if clash then d.stc.faults else [] := by
  simp [toJoining, joinStc]

/-- A Station Reset clears the list (R23). -/
theorem faultLaw_stationReset (d : Station) : FaultLaw (stationReset d) := by
  have hcleared : (stationReset d).stc.faults = [] := by simp [stationReset, toJoining_faults]
  simp [FaultLaw, hcleared]

/-- A hard reset leaves an empty list, or the one record of a strap fault (R21, R22). -/
theorem faultLaw_hardReset (now : Nat) (pins : Pins) (a : Nat) (x y : Bool) : FaultLaw (Station.hardReset now pins a x y) := by
  simp only [FaultLaw, Station.hardReset, StationControl.reset]
  split <;> simp

end Sys2Proof.FaultList

namespace Sys2Proof.Machine

open Sys2Proof Sys2Proof.StitchCycle

variable {d e : Station}

/-- The bound is a matter of the list alone (R164). -/
theorem FaultLaw.same (h : FaultLaw d) (hsame : e.stc.faults = d.stc.faults) : FaultLaw e :=
  (congrArg List.length hsame).trans_le h

section

variable (h : FaultLaw d)
include h

/-! ### The list itself (R164, R166) -/

/-- A record joins a list with room for it, and a full list takes none (R164). -/
theorem FaultLaw.addRecord (fr : FaultRecord) : FaultLaw (addRecord fr d) := by
  rw [addRecord_eq]
  change (if d.stc.faults.length < 8 then d.stc.faults ++ [fr] else d.stc.faults).length ≤ 8
  split
  next hroom => simpa using hroom
  next => exact h

theorem FaultLaw.removeOldest : FaultLaw (removeOldest d) := by
  have hshorter : d.stc.faults.tail.length ≤ d.stc.faults.length := by simp
  rw [NeedleCaseControl.removeOldest_eq]
  exact hshorter.trans h

/-! ### Arming (R32, R33, R53, R95, R120, R136, R161) -/

theorem FaultLaw.armedFault (fr : FaultRecord) : FaultLaw (armedFault fr d) := by
  unfold Machine.armedFault
  split
  · exact (h.addRecord fr).same (by simp)
  · exact h.addRecord fr

theorem FaultLaw.armedHeadFault (fr : FaultRecord) : FaultLaw (armedHeadFault fr d) := by
  unfold Machine.armedHeadFault
  (repeat' split)
  · exact (h.addRecord fr).same (by simp)
  · exact h.addRecord fr
  · exact h.armedFault fr

theorem FaultLaw.armPeers : FaultLaw (armPeers d) := by
  unfold Machine.armPeers
  split
  · exact h.armedFault _
  · exact h

theorem FaultLaw.armCase : FaultLaw (armCase d) := by
  have hcase : FaultLaw (d.setNcc { d.ncc with stopped := .none, stepWaiting := false }) := h
  unfold Machine.armCase
  simp only
  (repeat' split)
  · exact hcase.armedHeadFault _
  · exact hcase.armedHeadFault _
  · exact hcase.armedHeadFault _
  · exact hcase.same (by simp)
  · exact h

theorem FaultLaw.armField : FaultLaw (armField d) := by
  unfold Machine.armField
  split
  · exact (h.same (by simp)).armedFault _
  · exact h

theorem FaultLaw.armDrive : FaultLaw (armDrive d) := by
  unfold Machine.armDrive
  split
  · exact h.armedFault _
  · exact h.same (by simp)

theorem FaultLaw.whileArmed {f : Station → Station} (hf : FaultLaw (f d)) : FaultLaw (whileArmed f d) := by
  unfold Machine.whileArmed
  split
  · exact hf
  · exact h

/-- The blocks are handed an entry to ARMED in turn, each with the list that the one before it leaves (log entry 13). -/
theorem FaultLaw.enterArmed (former : Former) : FaultLaw (enterArmed former d) := by
  have hblocks : ∀ e, FaultLaw e → FaultLaw (Machine.whileArmed armedHeadCheck (Machine.whileArmed Machine.armDrive
      (Machine.whileArmed Machine.armField (Machine.whileArmed Machine.armCase (Machine.whileArmed Machine.armPeers e))))) := by
    intro e he
    have hpeers := he.whileArmed he.armPeers
    have hcase := hpeers.whileArmed hpeers.armCase
    have hfield := hcase.whileArmed hcase.armField
    have hdrive := hfield.whileArmed hfield.armDrive
    exact hdrive.whileArmed (hdrive.same (by simp))
  rw [Machine.enterArmed]
  refine hblocks _ (h.same ?_)
  split <;> simp

/-! ### Halting (R34 to R37, R162) -/

theorem FaultLaw.leaveHalting : FaultLaw (leaveHalting d) := by
  have hdropped : FaultLaw (dropDecision d) := h
  unfold Machine.leaveHalting
  simp only
  (repeat' split)
  · exact hdropped.same (by simp)
  · exact hdropped.enterArmed _
  · exact hdropped.same (by simp)

theorem FaultLaw.enterHalting (reason : HaltReason) : FaultLaw (enterHalting reason d) := by
  have hrest : ∀ e, FaultLaw e → FaultLaw (if e.sht.atRest then Machine.leaveHalting (startPending false e) else e) := by
    intro e he
    split
    · exact FaultLaw.leaveHalting (he.same (by simp))
    · exact he
  rw [Machine.enterHalting]
  exact hrest _ (h.same (by simp))

theorem FaultLaw.haltCause (reason : HaltReason) : FaultLaw (haltCause reason d) := by
  unfold Machine.haltCause
  (repeat' split)
  · exact h.enterHalting _
  · exact h.same (by simp)
  all_goals exact h

theorem FaultLaw.headCheck : FaultLaw (headCheck d) := by
  unfold Machine.headCheck
  (repeat' split)
  · exact h.enterHalting _
  · exact h.same (by simp)
  all_goals exact h

/-! ### Fault records, head faults, findings (R37, R95, R161) -/

/-- A record is written first, and acts on the station state after: the entries to a state that follow may write more. -/
theorem FaultLaw.fault (fr : FaultRecord) : FaultLaw (fault fr d) := (h.addRecord fr).haltCause _

theorem FaultLaw.headFault (fr : FaultRecord) : FaultLaw (headFault fr d) := by
  unfold Machine.headFault
  (repeat' split)
  · exact FaultLaw.headCheck ((h.addRecord fr).same (by simp))
  · exact h.addRecord fr
  · exact h.fault fr

theorem FaultLaw.writeDeferred : FaultLaw (writeDeferred d) := by
  unfold Machine.writeDeferred
  (repeat' split)
  · exact (h.same (by simp)).fault _
  · exact h
  · exact h

theorem FaultLaw.recomputeFinding : FaultLaw (recomputeFinding d) := by
  have hformed : FaultLaw (d.setPnc { d.pnc with finding := findingNow d }) := h
  unfold Machine.recomputeFinding
  simp only
  (repeat' split)
  · exact h
  · exact hformed.fault _
  all_goals exact h

theorem FaultLaw.afterStitchChange : FaultLaw (afterStitchChange d) := by
  unfold Machine.afterStitchChange
  split
  · exact FaultLaw.recomputeFinding (h.same (by simp))
  · exact h.recomputeFinding

/-! ### Re-positioning, rest, the rest commit (R5, R18, R122 to R125) -/

theorem FaultLaw.creepOffTop : FaultLaw (creepOffTop d) := by
  unfold Machine.creepOffTop shaftPosition
  (repeat' split)
  · exact h
  · exact (h.same (by simp)).fault _
  · exact h

theorem FaultLaw.creepAtRest : FaultLaw (creepAtRest d) := by
  have hstopped : FaultLaw (governorStop d) := h
  unfold Machine.creepAtRest
  simp only
  (repeat' split)
  · exact h
  · exact hstopped.creepOffTop.same (by simp)
  · exact hstopped.creepOffTop
  · exact h

theorem FaultLaw.runPeerCheck : FaultLaw (runPeerCheck d) := by
  unfold Machine.runPeerCheck
  split
  · exact h.enterHalting _
  · exact h

theorem FaultLaw.runHeadCheck : FaultLaw (runHeadCheck d) := by
  unfold Machine.runHeadCheck
  split
  · exact h.headCheck
  · exact h

theorem FaultLaw.tryRestCommit : FaultLaw (tryRestCommit d) := by
  unfold Machine.tryRestCommit restCommit
  split
  · refine (FaultLaw.runPeerCheck (h.same ?_)).runHeadCheck
    split <;> simp
  · exact h

theorem FaultLaw.pantographAtRest : FaultLaw (pantographAtRest d) := by
  unfold Machine.pantographAtRest
  simp only
  split
  · exact h.writeDeferred
  · exact h.writeDeferred.same (by simp)

theorem FaultLaw.governorAtRest (inSequence : Bool) : FaultLaw (governorAtRest inSequence d) := by
  unfold Machine.governorAtRest
  (repeat' split)
  · exact h
  · exact h.creepAtRest
  all_goals exact h.same (by simp)

theorem FaultLaw.commitAtRest : FaultLaw (commitAtRest d) := by
  unfold Machine.commitAtRest
  split
  · exact FaultLaw.tryRestCommit (h.same (by simp))
  · exact h

theorem FaultLaw.comeToRest : FaultLaw (comeToRest d) := by
  have hblocks : ∀ q e, FaultLaw e → FaultLaw (Machine.commitAtRest (Machine.governorAtRest q
      (Machine.pantographAtRest (caseAtRest e)))) := by
    intro q e he
    have hcase : FaultLaw (caseAtRest e) := he.same (by simp)
    exact (hcase.pantographAtRest.governorAtRest q).commitAtRest
  have hjudged : FaultLaw (abandonPenetration (knifeOff (dropDecision (judgeRest d)))) := h
  unfold Machine.comeToRest
  split
  · exact h
  · refine hblocks _ _ ?_
    split
    · exact hjudged.leaveHalting
    · exact hjudged

end

end Sys2Proof.Machine

/-! ## The fault list's bound: the events -/

namespace Sys2Proof.Machine

open Sys2Proof Sys2Proof.StitchCycle

section

variable {d : Station} (h : FaultLaw d)
include h

/-! ### The Thread Monitor (R140 to R148) -/

theorem FaultLaw.threadBreak (p : Penetration) : FaultLaw (threadBreak p d) := (h.same (by simp)).headFault _

theorem FaultLaw.takeSample (p : Penetration) : FaultLaw (takeSample p d) := by
  unfold Machine.takeSample judgeTension
  simp only
  (repeat' split)
  · exact (h.same (by simp)).headFault _
  · exact h
  · exact h

theorem FaultLaw.closePenetration : FaultLaw (closePenetration d) := by
  unfold Machine.closePenetration
  split
  · exact h
  next p _ =>
    have hjudged : FaultLaw (d.setThm { classify (thread d).suppression p d.thm with pen := none }) := h
    simp only
    (repeat' split)
    · exact (hjudged.threadBreak p).takeSample p
    · exact hjudged.takeSample p
    · exact hjudged.threadBreak p
    · exact hjudged

/-! ### The angle events (R7, R14 to R17, R99) -/

theorem FaultLaw.eventM : FaultLaw (eventM d) := by
  have hveto : ∀ e, FaultLaw e → FaultLaw (requestVeto e) := fun _ he => he
  unfold Machine.eventM
  (repeat' split)
  · exact hveto _ (h.fault _)
  · exact h
  · exact h

theorem FaultLaw.vetoTaken : FaultLaw (vetoTaken d) := by
  have hheld : FaultLaw (withholdPenetration d) := h.same (by simp)
  unfold Machine.vetoTaken
  simp only
  split
  · exact hheld.fault _
  · exact hheld.haltCause _

theorem FaultLaw.sampleH : FaultLaw (sampleH d) := by
  unfold Machine.sampleH
  simp only
  (repeat' split)
  · exact h
  · exact FaultLaw.vetoTaken (h.same (by simp))
  · exact h

theorem FaultLaw.commitFrame (r : StitchRecord) : FaultLaw (commitFrame r d) := by
  unfold Machine.commitFrame
  split
  · exact FaultLaw.recomputeFinding (h.same (by simp))
  · exact h

theorem FaultLaw.plannedStop (r : StitchRecord) : FaultLaw (plannedStop r d) := by
  unfold Machine.plannedStop
  split
  · exact h.haltCause _
  · exact h.haltCause _
  all_goals exact h

theorem FaultLaw.commitHead (n : Nat) (fr : Option StitchRecord) : FaultLaw (commitHead n fr d) := h.same (by simp)

theorem FaultLaw.commit : FaultLaw (commit d) := by
  have hopens : FaultLaw (commitOpens d) := h
  cases hread : d.pgs.read (d.ssq.stitch + 1) with
  | some r =>
    have hstitch : FaultLaw (commitStitch r (commitOpens d)) := hopens.same (by simp)
    rw [commit_of_record hread]
    exact ((hstitch.commitFrame r).commitHead _ _).plannedStop r
  | none =>
    rw [commit_of_no_record hread]
    exact (hopens.fault _).commitHead _ _

theorem FaultLaw.dwellRun : FaultLaw (dwellRun d) := by
  have hdwell : FaultLaw (demandFalls (dwellCommon d)) := by
    rw [demandFalls_eq]
    exact h.same (by simp)
  rw [dwellRun_eq, dwellCounts]
  simp only
  split
  · exact (hdwell.same (by simp)).fault _
  · exact hdwell

theorem FaultLaw.eventD : FaultLaw (eventD d) := by
  unfold Machine.eventD
  (repeat' split)
  · exact h.commit
  · exact h.dwellRun
  · exact h.commit
  · exact h.same (by simp)
  all_goals exact h

theorem FaultLaw.receive (n : AngleName) : FaultLaw (receive n d) := by
  cases n <;> rw [Machine.receive]
  case h => exact h.sampleH.writeDeferred
  case d => exact h.eventD
  case m =>
    split
    · exact h.eventM
    · exact h
  case tuClose =>
    split
    · exact h.closePenetration
    · exact h
  case aArm | wOpen => exact h.same (by simp)
  case tuOpen | kOn | kOff =>
    split
    · exact h.same (by simp)
    · exact h

theorem FaultLaw.raiseIfDue (n : AngleName) : FaultLaw (raiseIfDue d n) := by
  have hraised : FaultLaw (d.setSht { d.sht with raised := d.sht.raised ++ [n] }) := h
  unfold Machine.raiseIfDue raiseEvent
  split
  · exact (hraised.receive n).same (by simp)
  · exact h

theorem FaultLaw.raiseEvents : FaultLaw (raiseEvents d) := by
  have hall : ∀ (l : List AngleName) e, FaultLaw e → FaultLaw (l.foldl Machine.raiseIfDue e) := by
    intro l
    induction l with
    | nil => exact fun _ he => he
    | cons n l ih => exact fun e he => ih _ (he.raiseIfDue n)
  exact hall _ d h

/-! ### Encoder counts and the index (R1 to R4) -/

theorem FaultLaw.encoderFault : FaultLaw (encoderFault d) := by
  have hlost : FaultLaw (abandonPenetration (knifeOff (dropDecision (loseSync d)))) := h
  exact (hlost.fault _).writeDeferred

theorem FaultLaw.countForward (t : Nat) : FaultLaw (countForward t d) := by
  have hturned : FaultLaw (turned (counted t d)) := h
  rw [countForward_eq, advance_eq]
  (repeat' split)
  · exact h
  · exact hturned.encoderFault
  · exact hturned.raiseEvents

theorem FaultLaw.countReverse (t : Nat) : FaultLaw (countReverse t d) := by
  have hturned : FaultLaw (turnedBack (counted t d)) := h
  rw [countReverse_eq]
  split
  · exact hturned.encoderFault
  · exact hturned

theorem FaultLaw.sweep (n : Nat) : FaultLaw (sweep n d) := by
  induction n generalizing d with
  | zero => exact h
  | succ n ih => exact ih (FaultLaw.raiseEvents (h.same (by simp)))

theorem FaultLaw.capture : FaultLaw (capture d) := by
  unfold Machine.capture takePeriod
  simp only
  (repeat' split)
  · exact (h.same (by simp)).fault _
  all_goals exact h

theorem FaultLaw.takeIndex : FaultLaw (takeIndex d) := by
  have hbegins : FaultLaw (indexBegins d) :=
    FaultLaw.raiseEvents (d := (Machine.sweep (1023 - d.sht.angle) d).setSht _) (h.sweep _)
  unfold Machine.takeIndex
  (repeat' split)
  · exact FaultLaw.raiseEvents (h.same (by simp))
  · exact h.encoderFault
  · exact h
  · exact hbegins.capture
  · exact FaultLaw.capture (h.same (by simp))

/-! ### Walks, moves, homing (R85, R87, R97, R104) -/

theorem FaultLaw.walkCutAt (k : Walk) : FaultLaw (walkCutAt k d) := by
  unfold Machine.walkCutAt
  split
  · exact h.same (by simp)
  · exact FaultLaw.afterStitchChange (h.same (by simp))

theorem FaultLaw.walkAdvance (fuel : Nat) (k : Walk) : FaultLaw (walkAdvance fuel k d) := by
  induction fuel generalizing k d with
  | zero => exact h
  | succ fuel ih =>
    rw [Machine.walkAdvance]
    simp only
    (repeat' split)
    · exact (h.fault _).walkCutAt k
    · exact h
    · exact h.same (by simp)
    · exact ih (h.same (by simp)) _
    · exact h

theorem FaultLaw.walkMoveDone : FaultLaw (walkMoveDone d) := by
  unfold Machine.walkMoveDone
  (repeat' split)
  · exact h.same (by simp)
  · exact h.walkCutAt _
  · exact h.walkAdvance _ _
  · exact h

theorem FaultLaw.completeMove : FaultLaw (completeMove d) := by
  unfold Machine.completeMove
  simp only
  (repeat' split)
  · exact h
  · exact h.same (by simp)
  · exact FaultLaw.walkMoveDone (h.same (by simp))
  · exact FaultLaw.walkMoveDone (h.same (by simp))

theorem FaultLaw.walkFirstMove : FaultLaw (walkFirstMove d) := by
  unfold Machine.walkFirstMove
  simp only
  (repeat' split)
  · exact (h.same (by simp)).walkAdvance _ _
  all_goals exact h

theorem FaultLaw.walkBegin (dir : WalkDir) (n actual target : Nat) : FaultLaw (walkBegin dir n actual target d) := by
  unfold Machine.walkBegin
  refine (FaultLaw.afterStitchChange (h.same ?_)).walkFirstMove
  simp only
  split <;> simp

theorem FaultLaw.homeFail (a : Axis) (x : HomeAxis) : FaultLaw (homeFail a x d) := by
  unfold Machine.homeFail
  split
  · exact h.fault _
  · exact h

theorem FaultLaw.homeEnd (x y : HomeAxis) : FaultLaw (homeEnd x y d) := by
  unfold Machine.homeEnd
  simp only
  split
  · exact ((h.same (by simp)).homeFail .x x).homeFail .y y
  · exact h

theorem FaultLaw.homeEvent (a : Axis) (f : HomeAxis → HomeAxis) : FaultLaw (homeEvent a f d) := by
  unfold Machine.homeEvent
  (repeat' split)
  · exact h
  · exact h.homeEnd _ _
  · exact h
  · exact h.homeEnd _ _
  · exact h

/-! ### The drive and the needle case (R120, R124, R129 to R133) -/

theorem FaultLaw.driveFalls : FaultLaw (driveFalls d) := by
  unfold Machine.driveFalls
  split
  · exact h.fault _
  · exact h.fault _
  · exact h.fault _
  all_goals exact h

theorem FaultLaw.driveReadyFall : FaultLaw (driveReadyFall d) := by
  unfold Machine.driveReadyFall
  simp only
  split
  · exact FaultLaw.driveFalls (h.same (by simp))
  · exact h

theorem FaultLaw.creepRunsOut : FaultLaw (creepRunsOut d) := by
  unfold Machine.creepRunsOut creepEnds
  simp only
  (repeat' split)
  · exact h
  · exact FaultLaw.creepOffTop (d := governorStop d) h
  · exact h
  · exact h

theorem FaultLaw.stopCase (why : CaseStopped) (fr : FaultRecord) : FaultLaw (stopCase why fr d) :=
  (h.same (by simp)).headFault fr

theorem FaultLaw.sensorChange (before : Nat) : FaultLaw (sensorChange before d) := by
  have hjudged : FaultLaw (judgeSettle d) := h.same (by simp)
  unfold Machine.sensorChange sensorInStep sensorAlone
  simp only
  (repeat' split)
  · exact hjudged.same (by simp)
  · exact hjudged
  · exact (hjudged.same (by simp)).stopCase _ _
  · exact hjudged.stopCase _ _
  · exact hjudged
  · exact h

theorem FaultLaw.stepTimeout : FaultLaw (stepTimeout d) := by
  unfold Machine.stepTimeout stepRunsOut caseJam
  (repeat' split)
  · exact h
  · exact h
  · exact (h.same (by simp)).stopCase _ _
  all_goals exact h

end

end Sys2Proof.Machine

/-! ## The fault list's bound: the peers, the notices, and every step -/

namespace Sys2Proof.Machine

open Sys2Proof Sys2Proof.StitchCycle

section

variable {d : Station} (h : FaultLaw d)
include h

/-! ### The peers and the station's timers (R19, R24, R25, R33, R52 to R55, R86) -/

theorem FaultLaw.handActivity (x : PeerEntry) : FaultLaw (handActivity x d) := by
  unfold Machine.handActivity
  split
  · exact h.headCheck
  · exact h

theorem FaultLaw.handFrameStitch (x : PeerEntry) (i : StatusItems) : FaultLaw (handFrameStitch x i d) := by
  unfold Machine.handFrameStitch headWalkEnd copyStitch
  (repeat' split)
  · exact FaultLaw.afterStitchChange (h.same (by simp))
  all_goals exact h

theorem FaultLaw.judgePeerHalt (i : StatusItems) : FaultLaw (judgePeerHalt i d) := by
  unfold Machine.judgePeerHalt
  split
  · exact h.haltCause _
  · exact h

theorem FaultLaw.judgeIndex (a : Nat) (i : StatusItems) : FaultLaw (judgeIndex a i d) := by
  unfold Machine.judgeIndex
  simp only
  split
  · exact (h.same (by simp)).fault _
  · exact h

theorem FaultLaw.hearPeer (x : PeerEntry) (i : StatusItems) : FaultLaw (hearPeer x i d) := by
  have hheard : FaultLaw (setPeer x.addr (hear d.now i) d) := h
  have hrest : FaultLaw (handPeerRest i (Machine.handFrameStitch x i
      (Machine.handActivity x (setPeer x.addr (hear d.now i) d)))) :=
    ((hheard.handActivity x).handFrameStitch x i).same (by simp)
  exact (hrest.judgePeerHalt i).judgeIndex _ i

/-- The record of an address clash joins those that the entry to JOINING keeps (R24). -/
theorem FaultLaw.addressClash : FaultLaw (addressClash d) := by
  have hjoined : FaultLaw (toJoining true d) := h.same (FaultList.toJoining_faults true d)
  exact hjoined.addRecord _

theorem FaultLaw.takeStatus (src : Addr) (p : Payload) : FaultLaw (takeStatus src p d) := by
  unfold Machine.takeStatus
  (repeat' split)
  · exact h
  · exact h.addressClash
  · exact h.hearPeer _ _
  · exact h

theorem FaultLaw.losePeer (x : PeerEntry) : FaultLaw (losePeer x d) := by
  unfold Machine.losePeer
  simp only
  split
  · exact (h.same (by simp)).fault _
  · exact (h.same (by simp)).fault _
  all_goals exact h.same (by simp)

theorem FaultLaw.ageRunsOut (a : Addr) : FaultLaw (ageRunsOut a d) := by
  unfold Machine.ageRunsOut
  (repeat' split)
  · exact h
  · exact h.losePeer _
  · exact h

theorem FaultLaw.joinRunsOut : FaultLaw (joinRunsOut d) := by
  have hdiscarded : FaultLaw (discardSections d) := h.same (by simp [discardSections])
  unfold Machine.joinRunsOut
  simp only
  split
  · exact hdiscarded.fault _
  · exact h

theorem FaultLaw.stall : FaultLaw (stall d) := by
  unfold Machine.stall
  split
  · exact h.fault _
  · exact h

theorem FaultLaw.armRunsOut : FaultLaw (armRunsOut d) := by
  unfold Machine.armRunsOut
  split
  · exact h.same (by simp)
  · exact h

/-! ### The owners of the notices (R26, R31, R38, R57 to R68, R82, R83, R160, R166) -/

/-- A notice is left alone, refused, or handed to its owner (R44, R45). -/
theorem FaultLaw.takeNotice {kind : NoticeKind} {lenOk : Bool} {src : Addr} {p : Payload} {owner : Station → Station}
    (howner : FaultLaw (owner d)) : FaultLaw (takeNotice kind lenOk src p owner d) := by
  rcases takeNotice_cases kind lenOk src p owner d with he | ⟨r, he⟩ | he <;> rw [he]
  · exact h
  · exact h.same (by simp)
  · exact howner

theorem FaultLaw.takeGo {v : GoVariant} {src : Addr} {p : Payload} {act : Station → Station} (hact : FaultLaw (act d)) :
    FaultLaw (takeGo v src p act d) := by
  refine h.takeNotice ?_
  rcases goOwner_cases v p act d with ⟨r, -, he⟩ | ⟨-, he⟩ <;> rw [he]
  · exact h.same (by simp)
  · exact hact

theorem FaultLaw.stopOwner : FaultLaw (stopOwner d) := by
  unfold Machine.stopOwner
  split
  · exact h.same (by simp)
  · exact h.haltCause _

theorem FaultLaw.startOwner : FaultLaw (startOwner d) := by
  unfold Machine.startOwner
  split
  · exact h.same (by simp)
  · exact h.enterArmed _

theorem FaultLaw.backOwner (p : Payload) : FaultLaw (backOwner p d) := by
  unfold Machine.backOwner
  simp only
  (repeat' split)
  · exact h.same (by simp)
  · exact h
  · exact h
  · exact h.walkBegin _ _ _ _

theorem FaultLaw.forwardOwner (p : Payload) : FaultLaw (forwardOwner p d) := by
  unfold Machine.forwardOwner
  simp only
  (repeat' split)
  · exact h.same (by simp)
  · exact h
  · exact h
  · exact h.walkBegin _ _ _ _

theorem FaultLaw.setActivity (a : Activity) : FaultLaw (setActivity a d) := by
  unfold Machine.setActivity
  simp only
  (repeat' split)
  · exact h
  · exact FaultLaw.headCheck (h.same (by simp))
  · exact FaultLaw.headCheck (h.same (by simp))

theorem FaultLaw.faultClearOwner (p : Payload) : FaultLaw (faultClearOwner p d) := by
  unfold Machine.faultClearOwner
  split
  · exact h.same (by simp)
  · exact h.removeOldest.same (by simp)

theorem FaultLaw.holdSection {α : Type} {check : Except RefusalReason α} {hold : α → Station → Station}
    (hhold : ∀ a, (hold a d).stc.faults = d.stc.faults) : FaultLaw (holdSection check hold d) :=
  h.same (FaultList.holdSection_faults hhold)

theorem FaultLaw.designOpenOwner (p : Payload) : FaultLaw (designOpenOwner p d) := by
  unfold Machine.designOpenOwner
  split
  · exact FaultLaw.headCheck (h.same (by simp [openStc]))
  · exact h.same (by simp)

theorem FaultLaw.designPageOwner (p : Payload) : FaultLaw (designPageOwner p d) := by
  unfold Machine.designPageOwner takePage checkPage
  (repeat' split)
  · exact h.same (by simp)
  · exact h
  · exact h
  · exact h
  · exact FaultLaw.recomputeFinding (h.same (by simp))
  · exact h.same (by simp)
  · exact h.same (by simp)
  · exact h

theorem FaultLaw.setOrigin : FaultLaw (setOrigin d) := FaultLaw.recomputeFinding (h.same (by simp))

/-! ### Every step (R164) -/

theorem FaultLaw.effect (c : Instr) : FaultLaw (effect c d) := by
  cases c with
  | encoderForwardCount => exact h.countForward _
  | encoderReverseCount => exact h.countReverse _
  | indexPulse => exact h.takeIndex
  | restReached => exact h.comeToRest
  | seenLevelChange => exact FaultLaw.tryRestCommit (h.same (by simp))
  | stallTimeout => exact h.stall
  | armTimeout => exact h.armRunsOut
  | joinTimeout => exact h.joinRunsOut
  | stop => exact h.takeNotice h.stopOwner
  | stationReset => exact h.takeNotice (FaultList.faultLaw_stationReset d)
  | start => exact h.takeNotice h.startOwner
  | back => exact h.takeNotice (h.backOwner _)
  | forward => exact h.takeNotice (h.forwardOwner _)
  | headSelect => exact h.takeNotice (h.setActivity _)
  | faultClear => exact h.takeNotice (h.faultClearOwner _)
  | needleMap => exact h.takeNotice (h.same (by simp))
  | designOpen => exact h.takeNotice (h.designOpenOwner _)
  | designPage => exact h.takeNotice (h.designPageOwner _)
  | configureRoster => exact h.takeNotice (h.holdSection fun _ => rfl)
  | configureTiming => exact h.takeNotice (h.holdSection fun _ => rfl)
  | configureMotion => exact h.takeNotice (h.holdSection fun _ => by simp [holdMotion])
  | configureThread => exact h.takeNotice (h.holdSection fun _ => rfl)
  | pantographGoHome _ _ x y => exact FaultLaw.takeGo (d := d.setPins { d.pins with xHome := x, yHome := y }) h h
  | pantographGoSetOrigin => exact h.takeGo h.setOrigin
  | pantographGoPark | pantographGoReturn | pantographGoAbsolute | pantographGoTrace => exact h.takeGo (h.same (by simp))
  | statusReceived => exact h.takeStatus _ _
  | peerLost => exact h.ageRunsOut _
  | moveComplete => exact h.completeMove
  | homeSwitchClose a => exact FaultLaw.homeEvent (d := d.setPins (closeSwitch a d.pins)) h _ _
  | homeBackoffDone => exact h.homeEvent _ _
  | homeSeekLimit => exact h.homeEvent _ _
  | driveReadyFall => exact h.driveReadyFall
  | creepTimeout => exact h.creepRunsOut
  | caseSensorChange code latch => exact FaultLaw.sensorChange (d := d.setPins (casePins code latch d.pins)) h _
  | stepTimeout => exact h.stepTimeout
  | _ => exact h.same (by simp [StitchCycle.effect])

end

end Sys2Proof.Machine

namespace Sys2Proof.FaultList

open Sys2Proof Sys2Proof.Machine Sys2Proof.StitchCycle

/-- Settles O8, by the cases of a step: the clock, the pins, the fall of RESET_N and the close of a command leave the list, a hard reset
leaves at most one record, and every effect adds to the list through `addRecord` alone, from which a full list takes no record. -/
theorem faultListNeverExceedsEight : Obligations.FaultListNeverExceedsEight := by
  intro s t h hstep
  rcases step_cases hstep with ⟨v, he⟩ | ⟨p, he⟩ | he | ⟨a, x, y, he⟩ | ⟨c, he⟩ <;> rw [he]
  · exact h
  · exact h
  · exact h.same (by simp)
  · exact faultLaw_hardReset _ _ _ _ _
  · exact (h.effect c).same (by simp)

end Sys2Proof.FaultList

/-! ## The queue and the input levels: every command answers -/

namespace Sys2Proof.Commands

open Sys2Proof Sys2Proof.Machine Sys2Proof.StitchCycle Sys2Proof.StationStates

/-! ### The queue (section 12) -/

theorem step_of_pending {s : State} {c : Instr} {rest : List Instr} (h : s.pending = c :: rest) :
    step s = exec c { s with pending := rest } := by
  rw [step, h]

theorem step_of_idle {s : State} (h : s.pending = []) : step s = .next (tick s) := by
  rw [step, h]

/-- Settles O1, by the queue's two forms. -/
theorem stepTakesFrontCommand : Obligations.StepTakesFrontCommand := fun _ _ _ => step_of_pending

/-- Settles O2: a tick writes the clock alone. -/
theorem idleStepPassesOneMicrosecond : Obligations.IdleStepPassesOneMicrosecond := fun _ => step_of_idle

/-! ### The input levels (12.1) -/

theorem takeNotice_pins {kind : NoticeKind} {lenOk : Bool} {src : Addr} {p : Payload} {owner : Station → Station} {d : Station}
    (h : (owner d).pins = d.pins) : (takeNotice kind lenOk src p owner d).pins = d.pins := by
  rcases takeNotice_cases kind lenOk src p owner d with he | ⟨r, he⟩ | he <;> simp [he, h]

theorem takeGo_pins {v : GoVariant} {src : Addr} {p : Payload} {act : Station → Station} {d : Station}
    (h : (act d).pins = d.pins) : (takeGo v src p act d).pins = d.pins := by
  refine takeNotice_pins ?_
  rcases goOwner_cases v p act d with ⟨r, -, he⟩ | ⟨-, he⟩ <;> simp [he, h]

/-- A count brings the TENSION reading (R139). -/
theorem presentTension_pins (t : Nat) (d : Station) : (presentTension t d).pins = { d.pins with tension := t } := by
  rw [presentTension_eq]

theorem countForward_pins (t : Nat) (d : Station) : (countForward t d).pins = { d.pins with tension := t } := by
  simp only [countForward]
  split <;> simp [presentTension_pins]

theorem countReverse_pins (t : Nat) (d : Station) : (countReverse t d).pins = { d.pins with tension := t } := by
  simp only [countReverse]
  split <;> simp [presentTension_pins]

theorem driveReadyFall_pins (d : Station) : (driveReadyFall d).pins = { d.pins with driveReady := false } := by
  simp only [driveReadyFall]
  split <;> simp [drivePins]

theorem driveReadyRise_pins (d : Station) : (driveReadyRise d).pins = { d.pins with driveReady := true } := by
  simp only [driveReadyRise]
  split <;> simp [drivePins]

/-- No block writes an input level: after an effect the levels are those its command brings. -/
theorem effect_pins (c : Instr) (d : Station) : (effect c d).pins = levelsAfter c d.pins := by
  cases c with
  | encoderForwardCount t => exact countForward_pins _ _
  | encoderReverseCount t => exact countReverse_pins _ _
  | driveReadyFall => exact driveReadyFall_pins d
  | driveReadyRise => exact driveReadyRise_pins d
  | homeSwitchClose a => simp [effect, levelsAfter, closeSwitch_eq]
  | caseSensorChange code latch => simp [effect, levelsAfter, casePins]
  | pantographGoHome src p x y => exact takeGo_pins (d := d.setPins { d.pins with xHome := x, yHome := y }) (by simp)
  | pantographGoPark | pantographGoReturn | pantographGoAbsolute | pantographGoSetOrigin | pantographGoTrace =>
    exact takeGo_pins (by simp)
  | stop | stationReset | start | back | forward | headSelect | faultClear | needleMap | configureRoster | configureTiming
  | configureMotion | configureThread | designOpen | designPage => exact takeNotice_pins (by simp)
  | _ => simp [effect, levelsAfter]

/-- Settles O3, by RESET_N: its fall and its rise answer outright, a command that finds it low changes the levels it brings (R22),
and a live part takes the command's effect and closes it. -/
theorem everyCommandAnswers : Obligations.EveryCommandAnswers := by
  intro c s
  by_cases hlow : c = .resetNLow
  · subst hlow
    exact ⟨_, rfl, rfl, by simp [levelsAfter]⟩
  by_cases hrise : ∃ a h f, c = .hardReset a h f
  · obtain ⟨a, h, f, rfl⟩ := hrise
    exact ⟨_, rfl, rfl, rfl⟩
  have hhard : ∀ a h f, c ≠ .hardReset a h f := fun a h f hc => hrise ⟨a, h, f, hc⟩
  cases hreset : s.dev.resetLow with
  | true => exact ⟨_, resetLowHoldsThePart c s hreset hlow hhard, rfl, rfl⟩
  | false => exact ⟨_, exec_live hreset hlow hhard, rfl, by simp [closed, effect_pins]⟩

end Sys2Proof.Commands

/-! ## The Status payload: the items are read back (R172, 12.4) -/

namespace Sys2Proof.StatusLayout

open Sys2Proof Sys2Proof.Machine

/-! ### Numbers in a payload, most significant byte first (R171) -/

@[simp] theorem byteOf_toNat (n : Nat) : (byteOf n).toNat = n % 256 := BitVec.toNat_ofNat n 8

@[simp] theorem byteAt_zero (b : Byte) (p : Payload) : byteAt (b :: p) 0 = b.toNat := rfl

@[simp] theorem byteAt_cons (b : Byte) (p : Payload) (k : Nat) : byteAt (b :: p) (k + 1) = byteAt p k := rfl

@[simp] theorem be16At_cons (b : Byte) (p : Payload) (k : Nat) : be16At (b :: p) (k + 1) = be16At p k := rfl

@[simp] theorem be24At_cons (b : Byte) (p : Payload) (k : Nat) : be24At (b :: p) (k + 1) = be24At p k := rfl

/-- A number's two bytes are passed over in reading what follows them. -/
@[simp] theorem readAt_be16_append (n k : Nat) (p : Payload) : byteAt (be16 n ++ p) (k + 2) = byteAt p k ∧
    be16At (be16 n ++ p) (k + 2) = be16At p k ∧ be24At (be16 n ++ p) (k + 2) = be24At p k := ⟨rfl, rfl, rfl⟩

/-- A number's three bytes are passed over in reading what follows them. -/
@[simp] theorem readAt_be24_append (n k : Nat) (p : Payload) : byteAt (be24 n ++ p) (k + 3) = byteAt p k ∧
    be16At (be24 n ++ p) (k + 3) = be16At p k ∧ be24At (be24 n ++ p) (k + 3) = be24At p k := ⟨rfl, rfl, rfl⟩

theorem be16At_be16 {n : Nat} (h : n < 2 ^ 16) (p : Payload) : be16At (be16 n ++ p) 0 = n := by
  simp only [be16At, be16, List.cons_append, Nat.zero_add, byteAt_zero, byteAt_cons, byteOf_toNat]
  omega

theorem be24At_be24 {n : Nat} (h : n < 2 ^ 24) (p : Payload) : be24At (be24 n ++ p) 0 = n := by
  simp only [be24At, be16At, be24, List.cons_append, Nat.zero_add, byteAt_zero, byteAt_cons, byteOf_toNat]
  omega

theorem be16At_be16_last {n : Nat} (h : n < 2 ^ 16) : be16At (be16 n) 0 = n := by
  simpa using be16At_be16 h []

theorem be24At_be24_last {n : Nat} (h : n < 2 ^ 24) : be24At (be24 n) 0 = n := by
  simpa using be24At_be24 h []

/-! ### Flags -/

theorem flag_eq (b : Bool) (k : Nat) : flag b k = b.toNat * 2 ^ k := by cases b <;> simp [flag]

theorem testBit_of_div {n k : Nat} {b : Bool} (h : n / 2 ^ k % 2 = b.toNat) : n.testBit k = b := by
  rw [Nat.testBit_eq_decide_div_mod_eq, h]
  cases b <;> rfl

/-- Each flag of a byte of eight is read back at its bit. -/
theorem testBit_flags (a b c d e f g h : Bool) :
    let n := (flag a 7 + flag b 6 + flag c 5 + flag d 4 + flag e 3 + flag f 2 + flag g 1 + flag h 0) % 256
    n.testBit 7 = a ∧ n.testBit 6 = b ∧ n.testBit 5 = c ∧ n.testBit 4 = d ∧ n.testBit 3 = e ∧ n.testBit 2 = f ∧
    n.testBit 1 = g ∧ n.testBit 0 = h := by
  have ha := a.toNat_le
  have hb := b.toNat_le
  have hc := c.toNat_le
  have hd := d.toNat_le
  have he := e.toNat_le
  have hf := f.toNat_le
  have hg := g.toNat_le
  have hh := h.toNat_le
  simp only [flag_eq]
  refine ⟨?_, ?_, ?_, ?_, ?_, ?_, ?_, ?_⟩ <;> exact testBit_of_div (by omega)

/-- Two flags over a three-bit code and a two-bit one, as byte 1 of a Status has them. -/
theorem readAt_stateByte (w r : Bool) {l st : Nat} (hl : l < 4) (hst : st < 8) :
    let n := (flag w 6 + flag r 5 + l * 8 + st) % 256
    n.testBit 6 = w ∧ n.testBit 5 = r ∧ n / 8 % 4 = l ∧ n % 8 = st := by
  have hw := w.toNat_le
  have hr := r.toNat_le
  simp only [flag_eq]
  exact ⟨testBit_of_div (by omega), testBit_of_div (by omega), by omega, by omega⟩

/-- Three flags over a two-bit code, as byte 8 of a Status has them. -/
theorem readAt_walkByte (f a o : Bool) {c : Nat} (hc : c < 4) :
    let n := (flag f 7 + flag a 6 + flag o 5 + c) % 256
    n.testBit 7 = f ∧ n.testBit 6 = a ∧ n.testBit 5 = o ∧ n % 4 = c := by
  have hf := f.toNat_le
  have ha := a.toNat_le
  have ho := o.toNat_le
  simp only [flag_eq]
  exact ⟨testBit_of_div (by omega), testBit_of_div (by omega), testBit_of_div (by omega), by omega⟩

/-- One flag over a two-bit code, as the head group's first byte has them. -/
theorem readAt_headByte (t : Bool) {c : Nat} (hc : c < 4) :
    let n := (flag t 2 + c) % 256
    n.testBit 2 = t ∧ n % 4 = c := by
  have ht := t.toNat_le
  simp only [flag_eq]
  exact ⟨testBit_of_div (by omega), by omega⟩

/-- The two flags of the frame group's first byte. -/
theorem readAt_frameByte (p h : Bool) :
    let n := (flag p 1 + flag h 0) % 256
    n.testBit 1 = p ∧ n.testBit 0 = h := by
  have hp := p.toNat_le
  have hh := h.toNat_le
  simp only [flag_eq]
  exact ⟨testBit_of_div (by omega), testBit_of_div (by omega)⟩

/-! ### Codes (3.2, 12.4, 12.5) -/

@[simp] theorem stationState_ofCode_code (s : StationState) : StationState.ofCode s.code = some s := by cases s <;> rfl

@[simp] theorem lock_ofCode_code (l : Lock) : Lock.ofCode l.code = some l := by cases l <;> rfl

@[simp] theorem holdReason_ofCode_code (r : HoldReason) : HoldReason.ofCode r.code = some r := by cases r <;> rfl

@[simp] theorem walkOutcome_ofCode_code (o : WalkOutcome) : WalkOutcome.ofCode o.code = some o := by cases o <;> rfl

@[simp] theorem activity_ofCode_code (a : Activity) : Activity.ofCode a.code = some a := by cases a <;> rfl

@[simp] theorem faultKind_ofCode_code (k : FaultKind) : FaultKind.ofCode k.code = some k := by cases k <;> rfl

@[simp] theorem haltReason_ofCode_code (r : HaltReason) : HaltReason.ofCode r.code = some r := by
  cases r with
  | fault k => cases k <;> rfl
  | _ => rfl

@[simp] theorem noticeKind_ofCode_code (k : NoticeKind) : NoticeKind.ofCode k.code = some k := by cases k <;> rfl

@[simp] theorem refusalReason_ofCode_code (r : RefusalReason) : RefusalReason.ofCode r.code = some r := by cases r <;> rfl

theorem stationState_code_lt (s : StationState) : s.code < 8 := by cases s <;> decide

theorem lock_code_lt (l : Lock) : l.code < 4 := by cases l <;> decide

theorem walkOutcome_code_lt (o : WalkOutcome) : o.code < 4 := by cases o <;> decide

theorem activity_code_lt (a : Activity) : a.code < 4 := by cases a <;> decide

/-! A code that fills a byte of its own is sent whole. -/

theorem holdReason_code_mod (r : HoldReason) : r.code % 256 = r.code := by cases r <;> rfl

theorem faultKind_code_mod (k : FaultKind) : k.code % 256 = k.code := by cases k <;> rfl

theorem haltReason_code_mod (r : HaltReason) : r.code % 256 = r.code := by
  cases r with
  | fault k => exact faultKind_code_mod k
  | _ => rfl

theorem noticeKind_code_mod (k : NoticeKind) : k.code % 256 = k.code := by cases k <;> rfl

theorem refusalReason_code_mod (r : RefusalReason) : r.code % 256 = r.code := by cases r <;> rfl

/-! ### The groups -/

theorem length_headBytes (h : StatusHead) : (statusHeadBytes h).length = 11 := rfl

theorem length_frameBytes (f : StatusFrame) : (statusFrameBytes f).length = 3 := rfl

theorem length_haltBytes (r : HaltReason) : (statusHaltBytes r).length = 1 := rfl

theorem length_designBytes (g : StatusDesign) : (statusDesignBytes g).length = 7 := rfl

theorem length_faultBytes (r : FaultRecord) : (statusFaultBytes r).length = 8 := rfl

theorem length_refusalBytes (r : NoticeKind × RefusalReason) : (statusRefusalBytes r).length = 2 := rfl

theorem readHead_headBytes {h : StatusHead} (hmark : h.mark < 2 ^ 24) (hcurrent : h.current < 16) (hwanted : h.wanted < 16)
    (hservice : h.service < 2 ^ 12) (hfilter : h.filter < 2 ^ 16) (hceiling : h.ceiling < 2 ^ 16) :
    readHead (statusHeadBytes h) = some h := by
  obtain ⟨htension, hactivity⟩ := readAt_headByte (h.tension == .caution) (activity_code_lt h.activity)
  have hneedles : (h.current * 16 + h.wanted) % 256 / 16 = h.current ∧ (h.current * 16 + h.wanted) % 256 % 16 = h.wanted := by
    omega
  have hmask : h.service % 4096 = h.service := Nat.mod_eq_of_lt hservice
  have hstate : (if h.tension = .caution then TensionState.caution else .clear) = h.tension := by
    cases h.tension <;> rfl
  simp [readHead, statusHeadBytes, htension, hactivity, hneedles, hmask, hstate, be24At_be24 hmark,
    be16At_be16 (n := h.service) (by omega), be16At_be16 hfilter, be16At_be16_last hceiling]

theorem readFrame_frameBytes {f : StatusFrame} (hdemand : f.demand < 2 ^ 16) : readFrame (statusFrameBytes f) = some f := by
  obtain ⟨hplaced, hhomed⟩ := readAt_frameByte f.inPlace f.homed
  simp [readFrame, statusFrameBytes, hplaced, hhomed, be16At_be16_last hdemand]

theorem readHalt_haltBytes (r : HaltReason) : readHalt (statusHaltBytes r) = some r := by
  simp [readHalt, statusHaltBytes, haltReason_code_mod]

theorem readDesign_designBytes {g : StatusDesign} (hident : g.ident < 2 ^ 16) (hstitches : g.stitches < 2 ^ 24)
    (hstops : g.colourStops < 2 ^ 16) : readDesign (statusDesignBytes g) = some g := by
  simp [readDesign, statusDesignBytes, be16At_be16 hident, be24At_be24 hstitches, be16At_be16_last hstops]

/-- An oldest fault has a value, and its needle 0 stands for none. -/
theorem readFault_faultBytes {r : FaultRecord} {v : Nat} (hstitch : r.stitch < 2 ^ 24) (hzero : r.needle ≠ some 0)
    (hneedle : ∀ n, r.needle = some n → n < 256) (hvalue : r.value = some v) (hv : v < 2 ^ 24) :
    readFault (statusFaultBytes r) = some r := by
  have hread : (if r.needle.getD 0 % 256 = 0 then none else some (r.needle.getD 0 % 256)) = r.needle := by
    cases hn : r.needle with
    | none => rfl
    | some n =>
      have hn0 : n ≠ 0 := fun h0 => hzero (h0 ▸ hn)
      simp [Nat.mod_eq_of_lt (hneedle n hn), hn0]
  have hvalues : some (be24At (be24 (r.value.getD 0)) 0) = r.value := by
    rw [hvalue, Option.getD_some, be24At_be24_last hv]
  simp [readFault, statusFaultBytes, faultKind_code_mod, be24At_be24 hstitch, hread, hvalues]

theorem readRefusal_refusalBytes (r : NoticeKind × RefusalReason) : readRefusal (statusRefusalBytes r) = some r := by
  simp [readRefusal, statusRefusalBytes, noticeKind_code_mod, refusalReason_code_mod]

/-- A group is read back with the bytes after it, or is absent and leaves them all. -/
theorem readGroup_groupBytes {α : Type} {f : α → Payload} {n : Nat} {read : Payload → Option α} (hlen : ∀ a, (f a).length = n)
    {o : Option α} (hread : ∀ a, o = some a → read (f a) = some a) (rest : Payload) :
    readGroup o.isSome n read (groupBytes f o ++ rest) = some (o, rest) := by
  cases o with
  | none => rfl
  | some a =>
    have hfits : ¬(f a ++ rest).length < n := by
      rw [List.length_append, hlen]
      omega
    rw [groupBytes, readGroup, Option.isSome_some, if_pos rfl, if_neg hfits, List.take_left' (hlen a), List.drop_left' (hlen a),
      hread a rfl]

theorem length_groupBytes_le {α : Type} {f : α → Payload} {n : Nat} (hlen : ∀ a, (f a).length = n) (o : Option α) :
    (groupBytes f o).length ≤ n := by
  cases o with
  | none => exact Nat.zero_le n
  | some a => exact (hlen a).le

/-! ### The fixed part -/

theorem length_fixed (i : StatusItems) : (statusFixed i).length = 20 := rfl

/-- The flags of byte 0, whatever groups follow. -/
theorem presence_fixed (i : StatusItems) (t : Payload) :
    let b := byteAt (statusFixed i ++ t) 0
    b.testBit 7 = i.head.isSome ∧ b.testBit 6 = i.frame.isSome ∧ b.testBit 5 = i.halt.isSome ∧ b.testBit 4 = i.design.isSome ∧
    b.testBit 3 = i.oldest.isSome ∧ b.testBit 2 = i.refusal.isSome ∧ b.testBit 1 = i.overflow ∧ b.testBit 0 = i.gap := by
  have hbyte : byteAt (statusFixed i ++ t) 0 = (flag i.head.isSome 7 + flag i.frame.isSome 6 + flag i.halt.isSome 5 +
      flag i.design.isSome 4 + flag i.oldest.isSome 3 + flag i.refusal.isSome 2 + flag i.overflow 1 + flag i.gap 0) % 256 := by
    simp [statusFixed]
  simp only [hbyte]
  exact testBit_flags _ _ _ _ _ _ _ _

/-- The state byte. -/
theorem stateByte_fixed (i : StatusItems) (t : Payload) :
    let b := byteAt (statusFixed i ++ t) 1
    b.testBit 6 = i.walking ∧ b.testBit 5 = i.ready ∧ b / 8 % 4 = i.lock.code ∧ b % 8 = i.state.code := by
  have hbyte : byteAt (statusFixed i ++ t) 1 =
      (flag i.walking 6 + flag i.ready 5 + i.lock.code * 8 + i.state.code) % 256 := by
    simp [statusFixed]
  simp only [hbyte]
  exact readAt_stateByte _ _ (lock_code_lt _) (stationState_code_lt _)

/-- The byte of the walk report and the shaft. -/
theorem walkByte_fixed (i : StatusItems) (t : Payload) :
    let b := byteAt (statusFixed i ++ t) 8
    b.testBit 7 = (i.report.dir == .forward) ∧ b.testBit 6 = i.atRest ∧ b.testBit 5 = i.onTop ∧ b % 4 = i.report.outcome.code := by
  have hbyte : byteAt (statusFixed i ++ t) 8 =
      (flag (i.report.dir == .forward) 7 + flag i.atRest 6 + flag i.onTop 5 + i.report.outcome.code) % 256 := by
    simp [statusFixed]
  simp only [hbyte]
  exact readAt_walkByte _ _ _ (walkOutcome_code_lt _)

/-- The numbers of the fixed part, each in its width. -/
theorem numbers_fixed {i : StatusItems} (h : i.fits) (t : Payload) :
    let p := statusFixed i ++ t
    byteAt p 2 % 16 = i.sections ∧ byteAt p 2 / 16 = i.faultCount ∧ byteAt p 3 = i.hold.code ∧ byteAt p 4 = i.dwellCount ∧
    be24At p 5 = i.stitch ∧ be24At p 9 = i.report.requested ∧ be24At p 12 = i.report.actual ∧ be16At p 15 = i.freePages ∧
    be24At p 17 = i.nextWanted := by
  obtain ⟨hsections, hcount, hdwell, hstitch, hrequested, hactual, hpages, hnext, -⟩ := h
  have hnibbles : (i.faultCount * 16 + i.sections) % 256 % 16 = i.sections ∧
      (i.faultCount * 16 + i.sections) % 256 / 16 = i.faultCount := by omega
  simp [statusFixed, hnibbles, holdReason_code_mod, Nat.mod_eq_of_lt hdwell, be24At_be24 hstitch, be24At_be24 hrequested,
    be24At_be24 hactual, be16At_be16 hpages, be24At_be24 hnext]

/-! ### The whole payload -/

/-- The groups that follow the fixed part, in the order of their presence flags. -/
def statusGroups (i : StatusItems) : Payload :=
  groupBytes statusHeadBytes i.head ++ (groupBytes statusFrameBytes i.frame ++ (groupBytes statusHaltBytes i.halt ++
    (groupBytes statusDesignBytes i.design ++ (groupBytes statusFaultBytes i.oldest ++ groupBytes statusRefusalBytes i.refusal))))

theorem encodeStatus_eq (i : StatusItems) : encodeStatus i = statusFixed i ++ statusGroups i := rfl

theorem length_encodeStatus_le (i : StatusItems) : (encodeStatus i).length ≤ 52 := by
  have hhead := length_groupBytes_le length_headBytes i.head
  have hframe := length_groupBytes_le length_frameBytes i.frame
  have hhalt := length_groupBytes_le length_haltBytes i.halt
  have hdesign := length_groupBytes_le length_designBytes i.design
  have holdest := length_groupBytes_le length_faultBytes i.oldest
  have hrefusal := length_groupBytes_le length_refusalBytes i.refusal
  simp only [encodeStatus_eq, statusGroups, List.length_append, length_fixed]
  omega

/-- Items that fit are read back: the fixed part field by field, then each group with the bytes after it, which the next group is
read from. -/
theorem decodeStatus_encodeStatus {i : StatusItems} (h : i.fits) : decodeStatus (encodeStatus i) = some i := by
  obtain ⟨-, -, -, -, -, -, -, -, hheads, hframes, hdesigns, hfaults⟩ := id h
  have hhead := readGroup_groupBytes (o := i.head) (read := readHead) length_headBytes fun a ha => by
    obtain ⟨hmark, hcurrent, hwanted, hservice, hfilter, hceiling⟩ := hheads a ha
    exact readHead_headBytes hmark hcurrent hwanted hservice hfilter hceiling
  have hframe := readGroup_groupBytes (o := i.frame) (read := readFrame) length_frameBytes fun a ha =>
    readFrame_frameBytes (hframes a ha)
  have hhalt := readGroup_groupBytes (o := i.halt) (read := readHalt) length_haltBytes fun a _ => readHalt_haltBytes a
  have hdesign := readGroup_groupBytes (o := i.design) (read := readDesign) length_designBytes fun a ha => by
    obtain ⟨hident, hstitches, hstops⟩ := hdesigns a ha
    exact readDesign_designBytes hident hstitches hstops
  have holdest := readGroup_groupBytes (o := i.oldest) (read := readFault) length_faultBytes fun a ha => by
    obtain ⟨hstitch, hzero, hneedle, v, hvalue, hv⟩ := hfaults a ha
    exact readFault_faultBytes hstitch hzero hneedle hvalue hv
  have hrefusal := readGroup_groupBytes (o := i.refusal) (read := readRefusal) length_refusalBytes
    (fun a _ => readRefusal_refusalBytes a) []
  rw [List.append_nil] at hrefusal
  have hdir : (if i.report.dir = .forward then WalkDir.forward else .back) = i.report.dir := by
    cases i.report.dir <;> rfl
  have hlong : ¬(statusFixed i ++ statusGroups i).length < 20 := by
    rw [List.length_append, length_fixed]
    omega
  have hdrop : (statusFixed i ++ statusGroups i).drop 20 = statusGroups i := List.drop_left' (length_fixed i)
  obtain ⟨hasHead, hasFrame, hasHalt, hasDesign, hasOldest, hasRefusal, hoverflow, hgap⟩ := presence_fixed i (statusGroups i)
  obtain ⟨hwalking, hready, hlock, hstate⟩ := stateByte_fixed i (statusGroups i)
  obtain ⟨hforward, hrest, htop, houtcome⟩ := walkByte_fixed i (statusGroups i)
  obtain ⟨hsections, hcount, hhold, hdwell, hstitch, hrequested, hactual, hpages, hnext⟩ := numbers_fixed h (statusGroups i)
  rw [encodeStatus_eq, decodeStatus, if_neg hlong]
  simp only [hdrop, hasHead, hasFrame, hasHalt, hasDesign, hasOldest, hasRefusal, hoverflow, hgap, hwalking, hready, hlock, hstate,
    hforward, hrest, htop, houtcome, hsections, hcount, hhold, hdwell, hstitch, hrequested, hactual, hpages, hnext]
  simp [statusGroups, hhead, hframe, hhalt, hdesign, holdest, hrefusal, hdir]

/-- Settles O17: the groups are read back in their order, and their lengths add up to 32 at most. -/
theorem statusRoundTrip : Obligations.StatusRoundTrip := fun i h => ⟨decodeStatus_encodeStatus h, length_encodeStatus_le i⟩

end Sys2Proof.StatusLayout
